-- ==== Sys2Proof/Word.lean ====
section
/-! DEFINITION. The plain word types of the WSC-630 model. -/

namespace Sys2Proof

/-- One byte of the serial line (R186). -/
abbrev Byte := BitVec 8

/-- A run of bytes: a payload or a frame (R186, R190). -/
abbrev Bytes := List Byte

/-- A two-byte field of a request payload (R190). -/
abbrev Word16 := BitVec 16

/-- The conveyor encoder count, which wraps at 2^24 (R27, R28). -/
abbrev Count24 := BitVec 24

end Sys2Proof
end

