-- ==== Sys2Proof/Syntax.lean ====
section
/-! DEFINITION. The commands of the WSC-630: one constructor of `Instr` for each row of spec/opcode_table.json, with the
operands the spec gives the row (the fields of a request, R190 and R191; what a sensor, the converter or the array shows
at an event). -/

namespace Sys2Proof

/-- The six preheat zones (R89). -/
inductive ZoneId where
  | z1 | z2 | z3 | z4 | z5 | z6
  deriving DecidableEq, Repr, Inhabited

/-- The kinds of a flux-map rectangle, in the order of R56. -/
inductive RectKind where
  | dose | add | keepout
  deriving DecidableEq, Repr, Inhabited

/-- One rectangle of a flux-map definition (R56): `level` is the DOSE level or the ADD amount. -/
structure Rect where
  kind : RectKind
  level : Int
  row0 : Nat
  row1 : Nat
  col0 : Nat
  col1 : Nat
  deriving DecidableEq, Repr, Inhabited

/-- The contents of a VALID recipe slot (R181). -/
structure Recipe where
  name : Bytes
  set : Nat
  length : Nat
  width : Nat
  tolerance : Nat
  base : Nat
  boost : Nat
  exitMin : Int
  exitMax : Int
  rects : List Rect
  deriving DecidableEq, Repr, Inhabited

/-- The contents of a VALID thermal set: the sixteen fields of R181, index 1 first. -/
structure ThermalSet where
  fields : List Nat
  deriving DecidableEq, Repr, Inhabited

/-- The contents of a present configuration record: the 101 fields of R179, index 1 first. -/
structure ConfigRecord where
  fields : List Nat
  deriving DecidableEq, Repr, Inhabited

/-- One rectangle as RECIPE_WRITE carries it: six one-byte fields (R190). -/
structure RectFields where
  kind : Byte
  level : Byte
  row0 : Byte
  row1 : Byte
  col0 : Byte
  col1 : Byte
  deriving DecidableEq, Repr, Inhabited

/-- A recipe as RECIPE_WRITE carries it (R181, R190); the rectangle count is the length of the list. -/
structure RecipeFields where
  name : Bytes
  set : Byte
  length : Word16
  width : Word16
  tolerance : Word16
  base : Byte
  boost : Byte
  exitMin : Word16
  exitMax : Word16
  rects : List RectFields
  deriving DecidableEq, Repr, Inhabited

/-- What the converter shows at the end of a conversion (R156, R158): whether the burnout test of channels 0 to 6 found the
circuit broken, and the reading in the channel's unit before compensation, `none` when it is over-range. -/
structure Reading where
  circuitOpen : Bool
  value : Option Int
  deriving DecidableEq, Repr, Inhabited

/-- The four line speeds of the straps (R186). -/
inductive LineSpeed where
  | b38400 | b115200 | b230400 | b460800
  deriving DecidableEq, Repr, Inhabited

/-- The levels of the input pins that a reset reads or finds (R90, R146, R177, R186). -/
structure ResetPins where
  speed : LineSpeed
  key : Bool
  trip : Bool
  stopper : Bool
  fanFeedback : Bool
  finger : Bool
  deriving DecidableEq, Repr, Inhabited

/-- The items of the store (R177). -/
inductive StoreItem where
  | recipe (n : Nat)
  | thermal (n : Nat)
  | config
  | calibration
  deriving DecidableEq, Repr, Inhabited

/-- How the array stands after an abandoned store operation (R178): former contents, new contents, or CORRUPT. -/
inductive AbandonedOutcome where
  | former | written | corrupt
  deriving DecidableEq, Repr, Inhabited

/-- What the start-up check finds in the array (R178): the items whose check value does not match, and how an operation
that a reset abandoned left its item. -/
structure StartUpFindings where
  corrupt : List StoreItem
  abandoned : AbandonedOutcome
  deriving DecidableEq, Repr, Inhabited

/-- The kinds of the request catalogue (R191), in the order of their kind bytes 0x01 to 0x24. -/
inductive RequestKind where
  | caps | status | zoneRead | potRead | extractRead | transitRead | measure
  | start | run | stop | hold | resume | standby | shutdown | clearSafe
  | selectSet | announce | withdraw | purge | waveCal | calAbort | trim
  | reportTake | alarmRead | alarmAck | alertMode
  | configRead | configWrite | thermalRead | thermalWrite | recipeRead | recipeWrite | recipeErase
  | lock | unlock | restart
  deriving DecidableEq, Repr, Inhabited

/-- A request with its payload fields as they travel (R190, R191). -/
inductive Request where
  | caps
  | status
  | zoneRead
  | potRead
  | extractRead
  | transitRead (position : Byte)
  | measure (first last : Byte)
  | start
  | run
  | stop
  | hold
  | resume
  | standby
  | shutdown
  | clearSafe
  | selectSet (set : Byte)
  | announce (boardTag : Word16) (slot orientation : Byte)
  | withdraw (boardTag : Word16)
  | purge
  | waveCal
  | calAbort
  | trim (zone : Byte) (value : Word16)
  | reportTake
  | alarmRead
  | alarmAck (kind : Byte)
  | alertMode (mode : Byte)
  | configRead
  | configWrite (fields : List Word16)
  | thermalRead (set : Byte)
  | thermalWrite (set : Byte) (fields : List Word16)
  | recipeRead (slot : Byte)
  | recipeWrite (slot : Byte) (fields : RecipeFields)
  | recipeErase (slot : Byte)
  | lock (item number : Byte)
  | unlock (item number : Byte)
  | restart
  deriving DecidableEq, Repr, Inhabited

/-- An operand together with the level of the contact finger input at the event, wetted or dry (log 8). -/
structure WithFinger (α : Type) where
  value : α
  finger : Bool
  deriving DecidableEq, Repr, Inhabited

/-- The commands of the block. A request row carries its frame tag first, then the fields of its payload. The contact finger
input, of which the table has no edge, comes with the commands that show its level (log 8). -/
inductive Instr where
  | pinReset (pins : ResetPins)
  | storeStartUpCheckEnd (found : StartUpFindings)
  | byteReceived (b : WithFinger Byte)
  | byteGapExpiry
  | replySent (pins : ResetPins)
  | caps (tag : Byte)
  | status (tag : Byte)
  | zoneRead (tag : Byte)
  | potRead (tag : WithFinger Byte)
  | extractRead (tag : Byte)
  | transitRead (tag position : Byte)
  | measure (tag first last : Byte)
  | start (tag : Byte)
  | run (tag : Byte)
  | stop (tag : Byte)
  | hold (tag : Byte)
  | resume (tag : Byte)
  | standby (tag : Byte)
  | shutdown (tag : Byte)
  | clearSafe (tag : Byte)
  | selectSet (tag set : Byte)
  | announce (tag : Byte) (boardTag : Word16) (slot orientation : Byte)
  | withdraw (tag : Byte) (boardTag : Word16)
  | purge (tag : Byte)
  | waveCal (tag : Byte)
  | calAbort (tag : Byte)
  | trim (tag zone : Byte) (value : Word16)
  | reportTake (tag : Byte)
  | alarmRead (tag : Byte)
  | alarmAck (tag kind : Byte)
  | alertMode (tag mode : Byte)
  | configRead (tag : Byte)
  | configWrite (tag : Byte) (fields : List Word16)
  | thermalRead (tag set : Byte)
  | thermalWrite (tag set : Byte) (fields : List Word16)
  | recipeRead (tag slot : Byte)
  | recipeWrite (tag slot : Byte) (fields : RecipeFields)
  | recipeErase (tag slot : Byte)
  | lock (tag item number : Byte)
  | unlock (tag item number : Byte)
  | restart (tag : Byte)
  | storeOperationComplete (verified : Bool)
  | compositionComplete
  | encoderStep (forward : Bool)
  | stopperSensorEdge (present : Bool)
  | entrySensorRise
  | entrySensorFall
  | entryTimerExpiry
  | exitSensorRise
  | exitSensorFall
  | speedWindowEnd
  | holdLimitExpiry
  | meltTimerExpiry
  | zoneWarmTimeout (zone : ZoneId)
  | settleTimeExpiry
  | soakComplete
  | strokePhaseEnd
  | cellEntry
  | valveOpenTimeEnd
  | strokeCompletion
  | purgeParkEnd
  | purgeTimeEnd
  | halfCycleSlotEnd
  | burnoutTestEnd (circuitOpen : Bool)
  | controlConversionEnd (reading : Reading)
  | singleShotConversionEnd (reading : Reading)
  | staleMarking (channel : Fin 16)
  | fumeFirstJudgementTimeout
  | potTripEdge (active : Bool)
  | fanFeedbackEdge (present : Bool)
  | maintenanceKeyEdge (on : Bool)
  | driveHoldEnd
  | feedProveExpiry
  | dwellEnd (wetted : Bool)
  | proveTimerExpiry
  | qualifyTimerExpiry
  | warnTimerExpiry
  | failTimerExpiry
  | feedbackTimerExpiry
  | recoverTimerExpiry
  | graceTimerExpiry
  | clogTimerExpiry
  | alertPulseEnd
  | alertRecoveryEnd
  deriving DecidableEq, Repr, Inhabited

end Sys2Proof
end

