-- ==== Sys2Proof/Config.lean ====
section
/-! DEFINITION. What silicon revision C fixes (capacities, R185; fixed times), and the free values of the model. -/

namespace Sys2Proof.Config

/-- Capacity of the Announce Queue (R31). -/
def maxAnnouncements : Nat := 8
/-- Capacity of the Transit Table (R34). -/
def maxRecords : Nat := 12
/-- Records and reports together never exceed this number (R35). -/
def maxReports : Nat := 16
/-- Number of Map Buffers (R57). -/
def mapBuffers : Nat := 4
/-- Capacity of the Stroke Queue (R74). -/
def maxStrokes : Nat := 4
/-- Number of recipe slots (R177). -/
def recipeSlots : Nat := 32
/-- Number of thermal sets (R177). -/
def thermalSets : Nat := 8
/-- Number of alarm kinds (R165). -/
def alarmKinds : Nat := 21
/-- Number of scanner channels (R155). -/
def channels : Nat := 16

/-- DESIGN CHOICE (log 2): the model counts time in units of 0.1 ms, the finest unit a rule keeps (R78). -/
def ticksPerMs : Nat := 10
/-- Ticks in one second. -/
def ticksPerSecond : Nat := 10000

/-- FREE VALUE (log 5): what the part takes as the contents of a recipe slot that is in use and has become CORRUPT. The first
argument is the state's counter `freeIndex`, the second the slot. -/
opaque lostRecipe : Nat → Nat → Recipe

/-- FREE VALUE (log 5): what the part takes as the contents of a thermal set in force that has become CORRUPT. The first
argument is the state's counter `freeIndex`, the second the set. -/
opaque lostSet : Nat → Nat → ThermalSet

end Sys2Proof.Config
end

