-- ==== Sys2Proof/WellFormed.lean ====
section
/-! DEFINITION. Which commands are well formed: the fields have the numbers and ranges that a frame, the converter and the
array can carry. -/

namespace Sys2Proof

/-- The item numbers of the store (R177). -/
def StoreItem.inRange : StoreItem → Bool
  | .recipe n => n < Config.recipeSlots
  | .thermal n => n < Config.thermalSets
  | .config => true
  | .calibration => true

/-- A recipe fits one frame of at most 240 payload bytes (R186, R190): sixteen bytes beside its name and rectangles. -/
def RecipeFields.fits (f : RecipeFields) : Bool :=
  decide (16 + f.name.length + 6 * f.rects.length ≤ 240)

/-- A reading in its channel's unit fits the two bytes a reply gives it (R190). -/
def Reading.inRange (r : Reading) : Bool :=
  match r.value with
  | some v => decide (-32768 ≤ v) && decide (v ≤ 65535)
  | none => true

/-- The findings of a start-up check name items of the store (R178). -/
def StartUpFindings.inRange (f : StartUpFindings) : Bool :=
  f.corrupt.all StoreItem.inRange

/-- A request is well formed when its payload carries the fields its row calls for (R191). -/
def Request.wellFormed : Request → Bool
  | .configWrite fields => decide (fields.length = 101)
  | .thermalWrite _ fields => decide (fields.length = 16)
  | .recipeWrite _ f => f.fits
  | _ => true

/-- The well-formed commands. -/
def Instr.wellFormed : Instr → Bool
  | .configWrite _ fields => (Request.configWrite fields).wellFormed
  | .thermalWrite _ set fields => (Request.thermalWrite set fields).wellFormed
  | .recipeWrite _ slot f => (Request.recipeWrite slot f).wellFormed
  | .storeStartUpCheckEnd found => found.inRange
  | .controlConversionEnd r => r.inRange
  | .singleShotConversionEnd r => r.inRange
  | _ => true

end Sys2Proof
end

