-- ==== Sys2Proof/Machine/State.lean ====
section
/-! DEFINITION. The state of the WSC-630, block by block, as plain data, and its value right after a pin reset. Times are
held in ticks of 0.1 ms (log 2). -/

namespace Sys2Proof.Machine

/-! ### Small shapes -/

/-- Six like things, one for each preheat zone (R89). -/
structure Six (α : Type) where
  z1 : α
  z2 : α
  z3 : α
  z4 : α
  z5 : α
  z6 : α
  deriving DecidableEq, Repr

/-- The four Map Buffers by number (R57). -/
inductive BufferId where
  | b0 | b1 | b2 | b3
  deriving DecidableEq, Repr

/-- Four like things, one for each Map Buffer (R57). -/
structure Four (α : Type) where
  b0 : α
  b1 : α
  b2 : α
  b3 : α
  deriving DecidableEq, Repr

/-! ### Mode Controller (R1) -/

/-- The machine mode (R1). -/
inductive Mode where
  | idle | warmup | ready | run | drain | hold | standby | calibrating | safe
  deriving DecidableEq, Repr

/-- The drain target (R1). -/
inductive DrainTarget where
  | none | ready | standby | idle
  deriving DecidableEq, Repr

/-- The return mode of a hold (R1). -/
inductive ReturnMode where
  | none | run | drain
  deriving DecidableEq, Repr

/-- The four stages of warm-up (R5 to R10). -/
inductive WarmStage where
  | extraction | melt | zones | settle
  deriving DecidableEq, Repr

/-- A zone warm timer (R8, R9): not started, running, or stopped by band entry or expiry. -/
inductive WarmTimer where
  | unstarted
  | running (t : Nat)
  | stopped
  deriving DecidableEq, Repr

/-- The warm-up record (R1). `zonesEntered`, `meltExpired` and `meltReached` are the model's own working marks: whether stage
ZONES has been entered (R8, R12), whether the melt timer has expired since the last entry to MELT, and whether a pot result
has reached melt-safe since then (R7). -/
structure WarmUp where
  stage : WarmStage
  cursor : Option ZoneId
  zonesEntered : Bool
  timers : Six WarmTimer
  melt : Nat
  meltExpired : Bool
  meltReached : Bool
  settle : Nat
  deriving DecidableEq, Repr

/-- The Mode Controller's items (R1). The hold timer runs while the mode is HOLD. -/
structure ModeCtl where
  mode : Mode
  drain : DrainTarget
  holdPending : Bool
  ret : ReturnMode
  holdTimer : Nat
  activeSet : Option Nat
  meltKept : Bool
  warm : Option WarmUp
  deriving DecidableEq, Repr

/-! ### Board Tracker (R27, R31, R34) -/

/-- How a board lies on the conveyor (R31). -/
inductive Orientation where
  | normal | rotated
  deriving DecidableEq, Repr

/-- An announcement (R31). -/
structure Announcement where
  tag : Nat
  slot : Nat
  orientation : Orientation
  deriving DecidableEq, Repr

/-- The stage of a board record (R34). -/
inductive Stage where
  | entering | conveyed | exiting
  deriving DecidableEq, Repr

/-- The ten exception kinds, in their link order (R43). -/
inductive ExcKind where
  | lengthMismatch | notMeasured | tempLow | tempHigh | fluxLate | fluxSkip | fluxInhibit | waveShort | safePass | heldLong
  deriving DecidableEq, Repr

/-- An exception list: kinds with counts in order of first occurrence, and the "more" flag (R43). -/
structure ExcList where
  items : List (ExcKind × Nat)
  more : Bool
  deriving DecidableEq, Repr

/-- A board record of the Transit Table (R34). `zonesDone` and `waveDone` are the model's own marks of overlaps that have
ended, which a reverse step does not begin again, and `pointsCrossed` its own mark of the pyrometer sample points already
crossed, acted at or not: the index after the last of them (R28). -/
structure Record where
  tag : Nat
  slot : Nat
  orientation : Orientation
  stage : Stage
  entry : Option Count24
  measured : Option Nat
  buffer : Option BufferId
  rowsTotal : Nat
  sprayed : Nat
  skipped : Nat
  nextRow : Nat
  dose : Nat
  peak : Option Int
  nextSample : Nat
  pointsCrossed : Nat
  pyroDone : Bool
  wave : Option (Nat × Nat)
  zonesIn : Six Bool
  zonesDone : Six Bool
  inWave : Bool
  waveDone : Bool
  matched : Bool
  exc : ExcList
  deriving DecidableEq, Repr

/-- The admission in progress: its record's tag, and the entry timer until the leading edge stops it (R27, R38). -/
structure Admission where
  tag : Nat
  timer : Option Nat
  deriving DecidableEq, Repr

/-- The Board Tracker's items (R27). `windowCounts` and `windowFirst` belong to the speed window in progress (R30); `stopper`
is the stopper sensor input. The reservation count is the number of records (R27), the wave window occupancy whether some
record is in the window (R48). -/
structure Tracker where
  count : Count24
  conveyorRun : Bool
  speedRef : Nat
  measuredSpeed : Option Int
  windowCounts : Int
  windowFirst : Bool
  outsideRun : Nat
  insideRun : Nat
  queue : List Announcement
  records : List Record
  admission : Option Admission
  gateOpen : Bool
  gapRef : Option Count24
  stopper : Bool
  deriving DecidableEq, Repr

/-! ### Map Compositor (R57, R59) -/

/-- A cell of a flux map: a level and the protected flag (R57). -/
structure FluxCell where
  level : Nat
  prot : Bool
  deriving DecidableEq, Repr

/-- The flux-map definition that a composition works from (R56, R59). -/
structure FluxDef where
  base : Nat
  rects : List Rect
  deriving DecidableEq, Repr

/-- A Map Buffer in use (R57); `spans` gives each row's first and last active columns, `none` when empty. -/
structure MapBuffer where
  owner : Nat
  composing : Bool
  rows : Nat
  cols : Nat
  cells : List (List FluxCell)
  spans : List (Option (Nat × Nat))
  resolved : Nat
  deriving DecidableEq, Repr

/-- The Map Compositor's items: the buffers (`none` is FREE), the composition order, and the copied definition while a
composition is in progress on the head of the order (R57, R59). -/
structure Compositor where
  buffers : Four (Option MapBuffer)
  order : List BufferId
  working : Option FluxDef
  deriving DecidableEq, Repr

/-! ### Spray Controller (R71, R74, R77) -/

/-- The phase of a stroke (R77). -/
inductive StrokePhase where
  | homing | reposition | crossing
  deriving DecidableEq, Repr

/-- The stroke record (R77). `entered` counts the cells entered so far, `openTime` is the open time of the cell whose valve is
open, `elapsed` and `cellElapsed` the ticks since the phase and since the open cell's entry began. -/
structure Stroke where
  tag : Nat
  buffer : BufferId
  row : Nat
  first : Nat
  last : Nat
  startEnd : Nat
  farEnd : Nat
  phase : StrokePhase
  delivered : Nat
  entered : Nat
  openTime : Option Nat
  elapsed : Nat
  cellElapsed : Nat
  deriving DecidableEq, Repr

/-- The phase of a purge (R86). -/
inductive PurgePhase where
  | park | flush
  deriving DecidableEq, Repr

/-- What occupies the traverse: the activity IDLE, STROKE or PURGE with its record (R71, R77, R86). -/
inductive Running where
  | idle
  | stroke (r : Stroke)
  | purge (phase : PurgePhase) (elapsed : Nat)
  deriving DecidableEq, Repr

/-- The purge state (R71). -/
inductive PurgeState where
  | none | running | completed | aborted
  deriving DecidableEq, Repr

/-- An entry of the Stroke Queue (R74); `front` is the front position in counts. -/
structure StrokeEntry where
  tag : Nat
  buffer : BufferId
  row : Nat
  front : Int
  first : Nat
  last : Nat
  deriving DecidableEq, Repr

/-- The Spray Controller's items (R71); a `position` of `none` is UNKNOWN. The flux pressure low condition is the FLUX_PRESS_LOW
entry being ACTIVE or ACKED (R84, R165). -/
structure Spray where
  position : Option Nat
  running : Running
  queue : List StrokeEntry
  sprayOpen : Bool
  purgeOpen : Bool
  purge : PurgeState
  deriving DecidableEq, Repr

/-! ### Heater Loops (R89, R90) -/

/-- A zone's presence (R89). -/
inductive Presence where
  | unknown | present | absent
  deriving DecidableEq, Repr

/-- The standing of the last result delivered for a zone since the reset (R104). -/
inductive LastResult where
  | none | closed | opened
  deriving DecidableEq, Repr

/-- A record of the Zone Table (R89). The rating is the configuration record's, the temperature the scanner's slot. -/
structure Zone where
  presence : Presence
  started : Bool
  warmFail : Bool
  trim : Int
  demand : Nat
  integral : Nat
  grant : Nat
  cut : Bool
  boost : Nat
  overMark : Bool
  last : LastResult
  deriving DecidableEq, Repr

/-- The pot loop record (R90). -/
structure PotLoop where
  demand : Nat
  integral : Nat
  grant : Nat
  cut : Bool
  tripInput : Bool
  overMark : Bool
  deriving DecidableEq, Repr

/-- The Heater Loops' items (R89, R90): `potFiring` and `zoneFiring` are the outputs in the current slot (R99). `sensorWaits`
is the model's own mark that ZONE_SENSOR has not been judged since the RESTART (R108). -/
structure Heaters where
  zones : Six Zone
  pot : PotLoop
  frameSlot : Nat
  potFiring : Bool
  zoneFiring : Six Bool
  sensorWaits : Bool
  deriving DecidableEq, Repr

/-! ### Pot Controller (R112, R129) -/

/-- The soak state with its timer (R112). -/
inductive Soak where
  | none
  | waiting
  | soaking (t : Nat)
  deriving DecidableEq, Repr

/-- The standing of the level estimate (R112). -/
inductive LevelStanding where
  | invalid | held | live
  deriving DecidableEq, Repr

/-- The feeder with its prove base and prove timer (R112). -/
inductive Feeder where
  | off
  | running (base : Int) (timer : Nat)
  deriving DecidableEq, Repr

/-- The Pot Controller's items for the molten state, the level and the feeder (R112). `fumeJudged` marks that the first
judgement of R114 has been made. -/
structure PotCtl where
  molten : Bool
  soak : Soak
  fumeHot : Bool
  fumeJudged : Bool
  level : Option Int
  standing : LevelStanding
  refDrive : Nat
  driveHold : Option Nat
  feeder : Feeder
  deriving DecidableEq, Repr

/-- The WAVE_LIMIT side (R129). -/
inductive WaveSide where
  | none | high | low
  deriving DecidableEq, Repr

/-- The search direction of a calibration (R129). -/
inductive Direction where
  | down | up
  deriving DecidableEq, Repr

/-- The calibration phase with the items present in it (R129). -/
inductive CalPhase where
  | none
  | search (dir : Direction) (test : Nat) (dwell : Nat)
  | writing (dRef : Nat) (lRef : Int)
  deriving DecidableEq, Repr

/-- The calibration outcome (R129). -/
inductive CalOutcome where
  | none | running | ok | failed | aborted | storeFault
  deriving DecidableEq, Repr

/-- The failure cause (R129). -/
inductive CalCause where
  | none | wetAtMin | noContact | levelNotValid | potNotMolten | safeAlarm
  deriving DecidableEq, Repr

/-- The Pot Controller's copy of the calibration record (R130). -/
structure CalRecord where
  pair : Option (Nat × Int)
  valid : Bool
  deriving DecidableEq, Repr

/-- The wave items (R129); `finger` is the level of the contact finger input as the last event that shows it had it (log 8). -/
structure Wave where
  computed : Option Nat
  output : Nat
  side : WaveSide
  cal : CalRecord
  phase : CalPhase
  outcome : CalOutcome
  cause : CalCause
  finger : Bool
  deriving DecidableEq, Repr

/-! ### Extraction Monitor (R144) -/

/-- The extraction state (R144). -/
inductive ExtState where
  | off | proving | proven | warn | failed
  deriving DecidableEq, Repr

/-- The suction class (R146). -/
inductive Suction where
  | strong | adequate | weak | lost
  deriving DecidableEq, Repr

/-- The grace timer: absent, running, or stopped at the grace time by its expiry (R151). -/
inductive Grace where
  | absent
  | running (t : Nat)
  | expired (t : Nat)
  deriving DecidableEq, Repr

/-- The Extraction Monitor's items (R144); a timer of `none` is absent. `feedback` is the fan-run feedback input. -/
structure Extraction where
  fan : Bool
  state : ExtState
  suction : Suction
  prove : Option Nat
  qualify : Option Nat
  recover : Option Nat
  warn : Option Nat
  fail : Option Nat
  feedbackTimer : Option Nat
  grace : Grace
  forcedDue : Bool
  clog : Option Nat
  feedback : Bool
  deriving DecidableEq, Repr

/-! ### Measurement Scanner (R155) -/

/-- The converter activity (R155). -/
inductive Activity where
  | startUp | control | single
  deriving DecidableEq, Repr

/-- The standing of a result (R155). -/
inductive Standing where
  | fresh | stale | opened
  deriving DecidableEq, Repr

/-- A result slot (R155): value, standing, and the tick count of its last refresh. -/
structure Slot where
  value : Option Int
  standing : Standing
  refreshed : Option Nat
  deriving DecidableEq, Repr

/-- A single-shot reading already taken (R164). -/
structure ShotReading where
  channel : Nat
  value : Option Int
  standing : Standing
  deriving DecidableEq, Repr

/-- The pending single-shot measurement: its range, its cursor and the readings taken so far (R163). -/
structure SingleShot where
  first : Nat
  last : Nat
  cursor : Nat
  taken : List ShotReading
  deriving DecidableEq, Repr

/-- The Measurement Scanner's items (R155). `burnout` is the channel the start-up pass tests next; `rescan` marks that the
cursor takes the new start channel at the end of the conversion in progress (R157). `slots` holds sixteen slots. -/
structure Scanner where
  activity : Activity
  burnout : Nat
  cursor : Nat
  rescan : Bool
  single : Option SingleShot
  slots : List Slot
  refFault : Bool
  deriving DecidableEq, Repr

/-! ### Alarm Table, reports, ALERT (R165, R172, R174, R175) -/

/-- The 21 alarm kinds in their number order (R165). -/
inductive AlarmKind where
  | extractWarn | extractFail | filterClog | feedFault | levelLow | waveLimit | potOvertemp | potCold | potWarmFail
  | zoneWarmFail | zoneOvertemp | zoneSensor | zoneMissing | supplyLow | conveyorDev | entryTimeout | boardMissing
  | trackLost | fluxPressLow | calFail | storeFault
  deriving DecidableEq, Repr

/-- The severity of an alarm kind (R165). -/
inductive Severity where
  | notice | stop | safe
  deriving DecidableEq, Repr

/-- The state of an alarm entry (R165). -/
inductive AlarmState where
  | clear | active | acked | latched
  deriving DecidableEq, Repr

/-- The time epoch of an entry (R165). -/
inductive Epoch where
  | current | previous
  deriving DecidableEq, Repr

/-- An entry of the Alarm Table (R165). -/
structure AlarmEntry where
  state : AlarmState
  count : Nat
  time : Option (Nat × Epoch)
  deriving DecidableEq, Repr

/-- The Alarm Table: one entry for each kind (R165). -/
structure AlarmTable where
  extractWarn : AlarmEntry
  extractFail : AlarmEntry
  filterClog : AlarmEntry
  feedFault : AlarmEntry
  levelLow : AlarmEntry
  waveLimit : AlarmEntry
  potOvertemp : AlarmEntry
  potCold : AlarmEntry
  potWarmFail : AlarmEntry
  zoneWarmFail : AlarmEntry
  zoneOvertemp : AlarmEntry
  zoneSensor : AlarmEntry
  zoneMissing : AlarmEntry
  supplyLow : AlarmEntry
  conveyorDev : AlarmEntry
  entryTimeout : AlarmEntry
  boardMissing : AlarmEntry
  trackLost : AlarmEntry
  fluxPressLow : AlarmEntry
  calFail : AlarmEntry
  storeFault : AlarmEntry
  deriving DecidableEq, Repr

/-- The outcome of a report, in its link order (R54). -/
inductive ReportOutcome where
  | good | flagged | lost
  deriving DecidableEq, Repr

/-- A completion report (R54, R172). -/
structure Report where
  number : Nat
  tag : Nat
  slot : Nat
  outcome : ReportOutcome
  sprayed : Nat
  skipped : Nat
  dose : Nat
  peak : Option Int
  wave : Option (Nat × Nat)
  measured : Option Nat
  exc : ExcList
  exitTime : Nat
  deriving DecidableEq, Repr

/-- The Report Queue with its next-number count (R172). -/
structure Reports where
  queue : List Report
  next : Nat
  deriving DecidableEq, Repr

/-- The ALERT mode (R175). -/
inductive AlertMode where
  | level | pulseReport | pulseAlarm | pulseBoth
  deriving DecidableEq, Repr

/-- Where the ALERT output stands in a pulse (R175). -/
inductive AlertPhase where
  | rest | low | recovery
  deriving DecidableEq, Repr

/-- The attention flag and the ALERT output's items (R174, R175). -/
structure Alert where
  attention : Bool
  mode : AlertMode
  phase : AlertPhase
  pending : Nat
  deriving DecidableEq, Repr

/-! ### Recipe Store (R177) -/

/-- The state of a store item with its contents (R177). -/
inductive Item (α : Type) where
  | empty
  | valid (contents : α)
  | corrupt
  deriving DecidableEq, Repr

/-- An item that carries a lock flag (R177). -/
structure Stored (α : Type) where
  item : Item α
  lock : Bool
  deriving DecidableEq, Repr

/-- One image of the store's items: the array, or the working copy (R177). Thirty-two recipes and eight thermal sets. -/
structure StoreImage where
  recipes : List (Stored Recipe)
  sets : List (Stored ThermalSet)
  config : Item ConfigRecord
  cal : Item (Nat × Int)
  deriving DecidableEq, Repr

/-- The store operation record: the operation in progress with its item and kind (R177, R183). -/
inductive StoreOp where
  | writeRecipe (slot : Nat) (r : Recipe)
  | writeSet (n : Nat) (t : ThermalSet)
  | writeConfig (c : ConfigRecord)
  | writeCal (dRef : Nat) (lRef : Int)
  | eraseRecipe (slot : Nat)
  | setLock (item : StoreItem) (lock : Bool)
  deriving DecidableEq, Repr

/-- The Recipe Store's items (R177, R178). `checking` marks that the start-up check is running; `abandoned` is the operation
that the last reset abandoned, until the check has decided its item. -/
structure Store where
  work : StoreImage
  array : StoreImage
  op : Option StoreOp
  abandoned : Option StoreOp
  checking : Bool
  key : Bool
  deriving DecidableEq, Repr

/-! ### Link Interface (R187) -/

/-- The receiver with its partial frame: the bytes received since the start byte (R187). -/
inductive Receiver where
  | hunt
  | inFrame (bytes : Bytes)
  deriving DecidableEq, Repr

/-- The transmitter with the frame it is sending (R187). -/
inductive Transmitter where
  | quiet
  | sending (frame : Bytes)
  deriving DecidableEq, Repr

/-- The Link Interface's items (R187); `owed` is the kind byte and frame tag of the reply owed, `restartDue` that a taken
RESTART acts at the end of its reply (R193). -/
structure Link where
  speed : LineSpeed
  receiver : Receiver
  owed : Option (Byte × Byte)
  tx : Transmitter
  badCrc : Nat
  badLength : Nat
  overlap : Nat
  restartDue : Bool
  deriving DecidableEq, Repr

/-! ### The whole part -/

/-- The state of the part. `uptime` counts ticks since the last reset (the seconds count is its whole seconds, R165);
`freeIndex` is the model's own counter that the free values are applied to (log 5); `pending` is the queue of commands. -/
structure State where
  modes : ModeCtl
  tracker : Tracker
  maps : Compositor
  spray : Spray
  heat : Heaters
  pot : PotCtl
  wave : Wave
  extr : Extraction
  scan : Scanner
  alarms : AlarmTable
  alert : Alert
  reports : Reports
  store : Store
  link : Link
  uptime : Nat
  freeIndex : Nat
  pending : List Instr
  deriving DecidableEq, Repr

/-- No command of this block ends in a fault: the spec gives every one of them its effect in every state. -/
inductive Fault where
  deriving DecidableEq, Repr

/-- Why a command has no meaning. -/
inductive Refusal where
  /-- Raised by an arm of `exec` whose command is not modelled; safe: the model stops. No arm raises it. -/
  | notModelled (mnemonic : String)
  deriving DecidableEq, Repr

/-! ### Right after a pin reset -/

/-- Six times the same. -/
abbrev Six.same {α : Type} (a : α) : Six α := ⟨a, a, a, a, a, a⟩

/-- Mode Controller after either reset (R1). -/
abbrev ModeCtl.afterReset : ModeCtl :=
  { mode := .idle, drain := .none, holdPending := false, ret := .none, holdTimer := 0, activeSet := none,
    meltKept := false, warm := none }

/-- Board Tracker after either reset (R27). -/
abbrev Tracker.afterReset (stopper : Bool) : Tracker :=
  { count := 0, conveyorRun := false, speedRef := 0, measuredSpeed := none, windowCounts := 0, windowFirst := true,
    outsideRun := 0, insideRun := 0, queue := [], records := [], admission := none, gateOpen := false, gapRef := none,
    stopper := stopper }

/-- Map Compositor after either reset (R57). -/
abbrev Compositor.afterReset : Compositor :=
  { buffers := ⟨none, none, none, none⟩, order := [], working := none }

/-- Spray Controller after either reset (R71). -/
abbrev Spray.afterReset : Spray :=
  { position := none, running := .idle, queue := [], sprayOpen := false, purgeOpen := false, purge := .none }

/-- A zone record after either reset (R89). -/
abbrev Zone.afterReset : Zone :=
  { presence := .unknown, started := false, warmFail := false, trim := 0, demand := 0, integral := 0, grant := 0,
    cut := false, boost := 0, overMark := false, last := .none }

/-- Heater Loops after either reset (R89, R90); the pot over mark and the wait for ZONE_SENSOR's first judgement as R108
has them. -/
abbrev Heaters.afterReset (trip mark waits : Bool) : Heaters :=
  { zones := Six.same Zone.afterReset,
    pot := { demand := 0, integral := 0, grant := 0, cut := false, tripInput := trip, overMark := mark },
    frameSlot := 0, potFiring := false, zoneFiring := Six.same false, sensorWaits := waits }

/-- Pot Controller after either reset (R112, R114). -/
abbrev PotCtl.afterReset : PotCtl :=
  { molten := false, soak := .none, fumeHot := false, fumeJudged := false, level := none, standing := .invalid,
    refDrive := 0, driveHold := none, feeder := .off }

/-- Wave items after either reset, before the start-up check has read the calibration item (R129, R130). -/
abbrev Wave.afterReset (finger : Bool) : Wave :=
  { computed := none, output := 0, side := .none, cal := { pair := none, valid := false }, phase := .none,
    outcome := .none, cause := .none, finger := finger }

/-- Extraction Monitor after either reset (R144). -/
abbrev Extraction.afterReset (feedback : Bool) : Extraction :=
  { fan := false, state := .off, suction := .lost, prove := none, qualify := none, recover := none, warn := none,
    fail := none, feedbackTimer := none, grace := .absent, forcedDue := false, clog := none, feedback := feedback }

/-- A result slot after either reset (R155). -/
abbrev Slot.afterReset : Slot := { value := none, standing := .stale, refreshed := none }

/-- Measurement Scanner after either reset (R155). -/
abbrev Scanner.afterReset : Scanner :=
  { activity := .startUp, burnout := 0, cursor := 0, rescan := false, single := none,
    slots := List.replicate Config.channels Slot.afterReset, refFault := false }

/-- An alarm entry after a pin reset (R165). -/
abbrev AlarmEntry.afterReset : AlarmEntry := { state := .clear, count := 0, time := none }

/-- The Alarm Table after a pin reset (R165). -/
abbrev AlarmTable.afterReset : AlarmTable :=
  let e := AlarmEntry.afterReset
  ⟨e, e, e, e, e, e, e, e, e, e, e, e, e, e, e, e, e, e, e, e, e⟩

/-- A store image with every item EMPTY and no lock flag set (R177). -/
abbrev StoreImage.blank : StoreImage :=
  { recipes := List.replicate Config.recipeSlots { item := .empty, lock := false },
    sets := List.replicate Config.thermalSets { item := .empty, lock := false },
    config := .empty, cal := .empty }

/-- The machine right after its first pin reset. DESIGN CHOICE (log 1): the array is erased, every input pin shows its inactive
level and the straps choose 38,400 baud; the start-up check of R178 is running. -/
def State.reset : State :=
  { modes := ModeCtl.afterReset
    tracker := Tracker.afterReset false
    maps := Compositor.afterReset
    spray := Spray.afterReset
    heat := Heaters.afterReset false false false
    pot := PotCtl.afterReset
    wave := Wave.afterReset false
    extr := Extraction.afterReset false
    scan := Scanner.afterReset
    alarms := AlarmTable.afterReset
    alert := { attention := false, mode := .level, phase := .rest, pending := 0 }
    reports := { queue := [], next := 0 }
    store := { work := StoreImage.blank, array := StoreImage.blank, op := none, abandoned := none, checking := true,
               key := false }
    link := { speed := .b38400, receiver := .hunt, owed := none, tx := .quiet, badCrc := 0, badLength := 0,
              overlap := 0, restartDue := false }
    uptime := 0
    freeIndex := 0
    pending := [] }

end Sys2Proof.Machine
end

