-- ==== Sys2Proof/Machine/Ops.lean ====
section
/-! DEFINITION. The named operations over the model's containers, and the manual's arithmetic (floor, ceil, trunc, clamp). -/

namespace Sys2Proof.Machine

/-! ### Arithmetic (00_scope.md, Rounding and clamping) -/

/-- "clamp to a–b". -/
def clampInt (a b x : Int) : Int := if x < a then a else if b < x then b else x

/-- ceil of a quotient by a positive number. -/
def ceilDiv (x : Int) (y : Nat) : Int := -((-x) / (y : Int))

/-- A quotient of naturals rounded to the nearest whole number, halves up. -/
def roundDiv (x y : Nat) : Nat := (2 * x + y) / (2 * y)

/-- ceil of a quotient of naturals by 10 (R34, R56). -/
def ceilTen (x : Nat) : Nat := (x + 9) / 10

/-- Add, saturating at a largest value. -/
def satAdd (largest x y : Nat) : Nat := min largest (x + y)

/-! ### Lists -/

/-- Map with the position, counting from `i`. -/
def mapFrom {α β : Type} (f : Nat → α → β) : Nat → List α → List β
  | _, [] => []
  | i, a :: as => f i a :: mapFrom f (i + 1) as

/-- The positions, counting from `i`, of the entries that satisfy `p`. -/
def positions {α : Type} (p : α → Bool) : Nat → List α → List Nat
  | _, [] => []
  | i, a :: as => if p a then i :: positions p (i + 1) as else positions p (i + 1) as

/-! ### Zones -/

/-- The position of a zone in zone order, Z1 being 0. -/
def zoneIndex : ZoneId → Nat
  | .z1 => 0
  | .z2 => 1
  | .z3 => 2
  | .z4 => 3
  | .z5 => 4
  | .z6 => 5

/-- The zone at a position in zone order. -/
def zoneAt : Nat → Option ZoneId
  | 0 => some .z1
  | 1 => some .z2
  | 2 => some .z3
  | 3 => some .z4
  | 4 => some .z5
  | 5 => some .z6
  | _ => none

/-- The six zones in zone order. -/
def allZones : List ZoneId := [.z1, .z2, .z3, .z4, .z5, .z6]

/-- The zones behind a zone in zone order. -/
def zonesAfter : ZoneId → List ZoneId
  | .z1 => [.z2, .z3, .z4, .z5, .z6]
  | .z2 => [.z3, .z4, .z5, .z6]
  | .z3 => [.z4, .z5, .z6]
  | .z4 => [.z5, .z6]
  | .z5 => [.z6]
  | .z6 => []

/-- The entry of one zone. -/
def Six.get {α : Type} (v : Six α) : ZoneId → α
  | .z1 => v.z1
  | .z2 => v.z2
  | .z3 => v.z3
  | .z4 => v.z4
  | .z5 => v.z5
  | .z6 => v.z6

/-- Replace the entry of one zone. -/
def Six.set {α : Type} (v : Six α) (k : ZoneId) (a : α) : Six α :=
  match k with
  | .z1 => { v with z1 := a }
  | .z2 => { v with z2 := a }
  | .z3 => { v with z3 := a }
  | .z4 => { v with z4 := a }
  | .z5 => { v with z5 := a }
  | .z6 => { v with z6 := a }

/-- Map over the zones. -/
def Six.mapZones {α β : Type} (f : ZoneId → α → β) (v : Six α) : Six β :=
  ⟨f .z1 v.z1, f .z2 v.z2, f .z3 v.z3, f .z4 v.z4, f .z5 v.z5, f .z6 v.z6⟩

/-! ### Map Buffers -/

/-- The number of a Map Buffer. -/
def bufferIndex : BufferId → Nat
  | .b0 => 0
  | .b1 => 1
  | .b2 => 2
  | .b3 => 3

/-- The entry of one buffer. -/
def Four.get {α : Type} (v : Four α) : BufferId → α
  | .b0 => v.b0
  | .b1 => v.b1
  | .b2 => v.b2
  | .b3 => v.b3

/-- Replace the entry of one buffer. -/
def Four.set {α : Type} (v : Four α) (k : BufferId) (a : α) : Four α :=
  match k with
  | .b0 => { v with b0 := a }
  | .b1 => { v with b1 := a }
  | .b2 => { v with b2 := a }
  | .b3 => { v with b3 := a }

/-- The lowest-numbered FREE buffer (R58). -/
def freeBuffer (c : Compositor) : Option BufferId :=
  if c.buffers.b0 = none then some .b0
  else if c.buffers.b1 = none then some .b1
  else if c.buffers.b2 = none then some .b2
  else if c.buffers.b3 = none then some .b3
  else none

/-- The number of FREE buffers (R57, R192). -/
def freeBuffers (c : Compositor) : Nat :=
  ([c.buffers.b0, c.buffers.b1, c.buffers.b2, c.buffers.b3].filter (fun b => b = none)).length

/-! ### Alarm Table -/

/-- The 21 kinds in number order (R165). -/
def allAlarms : List AlarmKind :=
  [.extractWarn, .extractFail, .filterClog, .feedFault, .levelLow, .waveLimit, .potOvertemp, .potCold, .potWarmFail,
   .zoneWarmFail, .zoneOvertemp, .zoneSensor, .zoneMissing, .supplyLow, .conveyorDev, .entryTimeout, .boardMissing,
   .trackLost, .fluxPressLow, .calFail, .storeFault]

/-- The entry of one kind. -/
def AlarmTable.get (t : AlarmTable) : AlarmKind → AlarmEntry
  | .extractWarn => t.extractWarn
  | .extractFail => t.extractFail
  | .filterClog => t.filterClog
  | .feedFault => t.feedFault
  | .levelLow => t.levelLow
  | .waveLimit => t.waveLimit
  | .potOvertemp => t.potOvertemp
  | .potCold => t.potCold
  | .potWarmFail => t.potWarmFail
  | .zoneWarmFail => t.zoneWarmFail
  | .zoneOvertemp => t.zoneOvertemp
  | .zoneSensor => t.zoneSensor
  | .zoneMissing => t.zoneMissing
  | .supplyLow => t.supplyLow
  | .conveyorDev => t.conveyorDev
  | .entryTimeout => t.entryTimeout
  | .boardMissing => t.boardMissing
  | .trackLost => t.trackLost
  | .fluxPressLow => t.fluxPressLow
  | .calFail => t.calFail
  | .storeFault => t.storeFault

/-- Replace the entry of one kind. -/
def AlarmTable.set (t : AlarmTable) (k : AlarmKind) (e : AlarmEntry) : AlarmTable :=
  match k with
  | .extractWarn => { t with extractWarn := e }
  | .extractFail => { t with extractFail := e }
  | .filterClog => { t with filterClog := e }
  | .feedFault => { t with feedFault := e }
  | .levelLow => { t with levelLow := e }
  | .waveLimit => { t with waveLimit := e }
  | .potOvertemp => { t with potOvertemp := e }
  | .potCold => { t with potCold := e }
  | .potWarmFail => { t with potWarmFail := e }
  | .zoneWarmFail => { t with zoneWarmFail := e }
  | .zoneOvertemp => { t with zoneOvertemp := e }
  | .zoneSensor => { t with zoneSensor := e }
  | .zoneMissing => { t with zoneMissing := e }
  | .supplyLow => { t with supplyLow := e }
  | .conveyorDev => { t with conveyorDev := e }
  | .entryTimeout => { t with entryTimeout := e }
  | .boardMissing => { t with boardMissing := e }
  | .trackLost => { t with trackLost := e }
  | .fluxPressLow => { t with fluxPressLow := e }
  | .calFail => { t with calFail := e }
  | .storeFault => { t with storeFault := e }

/-- Map over the entries of the Alarm Table. -/
def AlarmTable.mapEntries (f : AlarmKind → AlarmEntry → AlarmEntry) (t : AlarmTable) : AlarmTable :=
  ⟨f .extractWarn t.extractWarn, f .extractFail t.extractFail, f .filterClog t.filterClog, f .feedFault t.feedFault,
   f .levelLow t.levelLow, f .waveLimit t.waveLimit, f .potOvertemp t.potOvertemp, f .potCold t.potCold,
   f .potWarmFail t.potWarmFail, f .zoneWarmFail t.zoneWarmFail, f .zoneOvertemp t.zoneOvertemp,
   f .zoneSensor t.zoneSensor, f .zoneMissing t.zoneMissing, f .supplyLow t.supplyLow, f .conveyorDev t.conveyorDev,
   f .entryTimeout t.entryTimeout, f .boardMissing t.boardMissing, f .trackLost t.trackLost,
   f .fluxPressLow t.fluxPressLow, f .calFail t.calFail, f .storeFault t.storeFault⟩

/-! ### Result slots -/

/-- The result slot of a channel (R155). -/
def State.slot (s : State) (ch : Nat) : Slot := s.scan.slots.getD ch Slot.afterReset

/-- Replace the result slot of a channel. -/
def State.setSlot (s : State) (ch : Nat) (x : Slot) : State :=
  { s with scan := { s.scan with slots := s.scan.slots.set ch x } }

/-- The value of a slot that is FRESH. -/
def Slot.freshValue (x : Slot) : Option Int :=
  match x.standing with
  | .fresh => x.value
  | _ => none

/-! ### Time -/

/-- The seconds count: whole seconds since the last reset (R165). -/
def State.seconds (s : State) : Nat := s.uptime / Config.ticksPerSecond

/-- Ticks of a length given in seconds. -/
def secs (n : Nat) : Nat := n * Config.ticksPerSecond

/-- Ticks of a length given in milliseconds. -/
def millis (n : Nat) : Nat := n * Config.ticksPerMs

end Sys2Proof.Machine
end

