-- ==== Sys2Proof/Machine/Params.lean ====
section
/-! DEFINITION. The parameters of the machine: the configuration record by index (R179), the active thermal set (R2, R181)
and the recipes named by boards (R32, R181). -/

namespace Sys2Proof

open Machine

/-- Field `i` of a configuration record, counting from 1 (R179). -/
def ConfigRecord.field (c : ConfigRecord) (i : Nat) : Nat := c.fields.getD (i - 1) 0

/-- Field `i` of a thermal set, counting from 1 (R181). -/
def ThermalSet.field (t : ThermalSet) (i : Nat) : Nat := t.fields.getD (i - 1) 0
/-- The setpoint of a zone. -/
def ThermalSet.zone (t : ThermalSet) (k : ZoneId) : Nat := t.field (1 + zoneIndex k)
/-- The standby setpoint of a zone. -/
def ThermalSet.zoneStandby (t : ThermalSet) (k : ZoneId) : Nat := t.field (7 + zoneIndex k)
/-- The pot setpoint. -/
def ThermalSet.pot (t : ThermalSet) : Nat := t.field 13
/-- The pot standby setpoint. -/
def ThermalSet.potStandby (t : ThermalSet) : Nat := t.field 14
/-- The conveyor speed v. -/
def ThermalSet.speed (t : ThermalSet) : Nat := t.field 15
/-- The wave height H_t. -/
def ThermalSet.waveHeight (t : ThermalSet) : Nat := t.field 16

/-- Bring the fields of a recipe within the ranges of R181 (log 5). -/
def Recipe.bounded (r : Recipe) : Recipe :=
  { r with
    length := max 10 (min 640 r.length)
    width := max 10 (min 480 r.width)
    tolerance := min 50 r.tolerance
    base := min 15 r.base
    boost := min 100 r.boost
    exitMin := clampInt 0 3000 r.exitMin
    exitMax := clampInt 0 3000 r.exitMax
    rects := r.rects.take 8 }

/-- Rows of a recipe's grid (R56). -/
def Recipe.rows (r : Recipe) : Nat := ceilTen r.length
/-- Columns of a recipe's grid (R56). -/
def Recipe.cols (r : Recipe) : Nat := ceilTen r.width

end Sys2Proof

namespace Sys2Proof.Machine

/-- The configuration record while it is present (R177). -/
def State.config? (s : State) : Option ConfigRecord :=
  match s.store.work.config with
  | .valid c => some c
  | _ => none

/-- Whether a configuration record is present (R177). -/
def State.configured (s : State) : Bool := s.config?.isSome

/-- Field `i` of the configuration record, 0 while none is present. -/
def State.param (s : State) (i : Nat) : Nat :=
  match s.config? with
  | some c => c.field i
  | none => 0

/-- K, encoder counts per mm. -/
def State.kScale (s : State) : Nat := s.param 1
/-- v_fs, full-scale conveyor speed. -/
def State.fullSpeed (s : State) : Nat := s.param 2
/-- F, the spray line. -/
def State.sprayLine (s : State) : Nat := s.param 3
/-- The start of a zone. -/
def State.zoneStart (s : State) (k : ZoneId) : Nat := s.param (4 + 2 * zoneIndex k)
/-- The end of a zone. -/
def State.zoneEnd (s : State) (k : ZoneId) : Nat := s.param (5 + 2 * zoneIndex k)
/-- Y, the pyrometer line. -/
def State.pyroLine (s : State) : Nat := s.param 16
/-- W, the wave centre. -/
def State.waveCentre (s : State) : Nat := s.param 17
/-- Wh, the wave half-window. -/
def State.waveHalf (s : State) : Nat := s.param 18
/-- X, the exit sensor. -/
def State.exitLine (s : State) : Nat := s.param 19
/-- G_min. -/
def State.gapMin (s : State) : Nat := s.param 20
/-- The exit tolerance. -/
def State.exitTol (s : State) : Nat := s.param 22
/-- S_t, the traverse speed in mm/s. -/
def State.traverseSpeed (s : State) : Nat := s.param 23
/-- R_t, the spray reach tolerance. -/
def State.sprayReach (s : State) : Nat := s.param 24
/-- P_fmin. -/
def State.minFluxPressure (s : State) : Nat := s.param 26
/-- The pot rating P_p, 0 while no record is present (R90). -/
def State.potRating (s : State) : Nat := s.param 27
/-- A zone's rating, 0 while no record is present (R89). -/
def State.zoneRating (s : State) (k : ZoneId) : Nat := s.param (28 + zoneIndex k)
/-- The supply budget B. -/
def State.budget (s : State) : Nat := s.param 34
/-- The melt-safe temperature. -/
def State.meltSafe (s : State) : Nat := s.param 72
/-- D_min. -/
def State.minDrive (s : State) : Nat := s.param 78
/-- The drive-change threshold. -/
def State.driveThreshold (s : State) : Nat := s.param 86

/-- The entry timeout in ticks (R38). -/
def State.entryTimeoutTicks (s : State) : Nat := secs (s.param 21)
/-- The zone warm timeout in ticks (R9). -/
def State.warmTimeoutTicks (s : State) : Nat := secs (s.param 70)
/-- The settle time in ticks (R10). -/
def State.settleTicks (s : State) : Nat := secs (s.param 71)
/-- The melt soak time in ticks (R115). -/
def State.soakTicks (s : State) : Nat := secs (s.param 73)
/-- The step dwell in ticks (R138). -/
def State.dwellTicks (s : State) : Nat := secs (s.param 81)
/-- The level-hold time in ticks; the field is in 0.1 s (R120). -/
def State.levelHoldTicks (s : State) : Nat := millis (100 * s.param 85)
/-- The feed prove time in ticks (R124). -/
def State.feedProveTicks (s : State) : Nat := secs (s.param 87)
/-- The extraction grace time in ticks (R151). -/
def State.graceTicks (s : State) : Nat := secs (s.param 97)
/-- t_clog in ticks (R152). -/
def State.clogTicks (s : State) : Nat := secs (s.param 96)
/-- The hold limit in ticks (R19). -/
def State.holdLimitTicks (s : State) : Nat := secs (s.param 101)

/-- A monitor threshold or delay: the record's field, or the value R144 gives while no record is present. -/
def State.extractParam (s : State) (i dflt : Nat) : Nat := if s.configured then s.param i else dflt

/-- P_prove in force (R144). -/
def State.pProve (s : State) : Nat := s.extractParam 89 400
/-- P_warn in force (R144). -/
def State.pWarn (s : State) : Nat := s.extractParam 90 300
/-- P_fail in force (R144). -/
def State.pFail (s : State) : Nat := s.extractParam 91 150
/-- t_prove in force, in s (R144). -/
def State.tProve (s : State) : Nat := s.extractParam 92 60
/-- t_warn in force, in s (R144). -/
def State.tWarn (s : State) : Nat := s.extractParam 93 10
/-- t_fail in force, in s (R144). -/
def State.tFail (s : State) : Nat := s.extractParam 94 5

/-- The fume-off temperature in force (R113). -/
def State.fumeOff (s : State) : Nat := if s.configured then s.param 75 else 1000

/-- The control range's start channel (R155). -/
def State.scanStart (s : State) : Nat := if s.configured then s.param 98 else 0
/-- The control range's end channel (R155). -/
def State.scanEnd (s : State) : Nat := if s.configured then s.param 99 else 13
/-- The stale time in ms (R155). -/
def State.staleMs (s : State) : Nat := if s.configured then s.param 100 else 500

/-! ### Loop parameters (R179, indices 36 to 63) -/

/-- Kp, Ki, I_max and band of one loop. -/
structure LoopParams where
  kp : Nat
  ki : Nat
  iMax : Nat
  band : Nat
  deriving DecidableEq, Repr

/-- The four loop fields that begin at an index. -/
def State.loopParams (s : State) (i : Nat) : LoopParams :=
  { kp := s.param i, ki := s.param (i + 1), iMax := s.param (i + 2), band := s.param (i + 3) }

/-- The pot loop's parameters. -/
def State.potParams (s : State) : LoopParams := s.loopParams 36
/-- A zone loop's parameters. -/
def State.zoneParams (s : State) (k : ZoneId) : LoopParams := s.loopParams (40 + 4 * zoneIndex k)
/-- A zone's overtemperature margin. -/
def State.zoneMargin (s : State) (k : ZoneId) : Nat := s.param (64 + zoneIndex k)

/-! ### Thermal sets -/

/-- A store item that is not there: EMPTY with its lock flag clear. -/
abbrev Stored.blank {α : Type} : Stored α := { item := .empty, lock := false }

/-- The item of a thermal set number (R177). -/
def StoreImage.set (m : StoreImage) (n : Nat) : Stored ThermalSet := m.sets.getD n Stored.blank
/-- The item of a recipe slot (R177). -/
def StoreImage.recipe (m : StoreImage) (n : Nat) : Stored Recipe := m.recipes.getD n Stored.blank

/-- A lock flag as it counts: set for a CORRUPT item, clear for an EMPTY one (R177). -/
def Stored.locked {α : Type} (x : Stored α) : Bool :=
  match x.item with
  | .corrupt => true
  | .empty => false
  | .valid _ => x.lock

/-- The contents of a VALID item. -/
def Item.contents? {α : Type} : Item α → Option α
  | .valid a => some a
  | _ => none

/-- Whether an item is VALID. -/
def Item.isValid {α : Type} : Item α → Bool
  | .valid _ => true
  | _ => false

/-- What the machine runs to for a set number: the contents, or a free value when the item is not VALID (log 5). -/
def State.setContents (s : State) (n : Nat) : ThermalSet :=
  match (s.store.work.set n).item with
  | .valid t => t
  | _ => Config.lostSet s.freeIndex n

/-- The thermal set in force, absent while the active set is NONE (R2). -/
def State.activeSet? (s : State) : Option ThermalSet := s.modes.activeSet.map s.setContents

/-- A field of the set in force, 0 while the active set is NONE (R91). -/
def State.activeField (s : State) (f : ThermalSet → Nat) : Nat :=
  match s.activeSet? with
  | some t => f t
  | none => 0

/-! ### Recipes -/

/-- What the part takes for a recipe slot named by a board: the contents, or a free value within the ranges of R181 when the
item is not VALID (log 5). -/
def State.recipeOf (s : State) (slot : Nat) : Recipe :=
  match (s.store.work.recipe slot).item with
  | .valid r => r
  | _ => (Config.lostRecipe s.freeIndex slot).bounded

end Sys2Proof.Machine
end

