-- ==== Sys2Proof/Machine/Flags.lean ====
section
/-! DEFINITION. Alarm entries, the attention flag and the ALERT output (R165 to R169, R174, R175). The effect of a severity on
the mode (R22, R23) is in Machine/Modes.lean. -/

namespace Sys2Proof.Machine

/-- The severity of a kind (R165). -/
def severity : AlarmKind → Severity
  | .extractWarn => .notice
  | .extractFail => .stop
  | .filterClog => .notice
  | .feedFault => .notice
  | .levelLow => .stop
  | .waveLimit => .notice
  | .potOvertemp => .safe
  | .potCold => .safe
  | .potWarmFail => .notice
  | .zoneWarmFail => .notice
  | .zoneOvertemp => .safe
  | .zoneSensor => .stop
  | .zoneMissing => .stop
  | .supplyLow => .stop
  | .conveyorDev => .stop
  | .entryTimeout => .stop
  | .boardMissing => .stop
  | .trackLost => .stop
  | .fluxPressLow => .notice
  | .calFail => .notice
  | .storeFault => .notice

/-- Whether a kind is an event alarm (R165). -/
def isEventAlarm : AlarmKind → Bool
  | .feedFault | .entryTimeout | .boardMissing | .trackLost | .calFail | .storeFault => true
  | .extractWarn | .extractFail | .filterClog | .levelLow | .waveLimit | .potOvertemp | .potCold | .potWarmFail
  | .zoneWarmFail | .zoneOvertemp | .zoneSensor | .zoneMissing | .supplyLow | .conveyorDev | .fluxPressLow => false

/-- The entry of a kind. -/
def State.alarm (s : State) (k : AlarmKind) : AlarmEntry := s.alarms.get k

/-- An alarm is in force while its entry is not CLEAR (R169). -/
def State.inForce (s : State) (k : AlarmKind) : Bool := (s.alarm k).state != .clear

/-- The condition of a kind is present while its entry is ACTIVE or ACKED (R165). -/
def AlarmState.present : AlarmState → Bool
  | .active => true
  | .acked => true
  | .clear => false
  | .latched => false

/-- Whether the condition of a kind is present (R165). -/
def State.condition (s : State) (k : AlarmKind) : Bool := (s.alarm k).state.present

/-- The number of entries in force at a severity (R171, R192). -/
def State.countInForce (s : State) (sev : Severity) : Nat :=
  (allAlarms.filter (fun k => severity k = sev && s.inForce k)).length

/-- Whether an alarm of STOP or SAFE severity is in force (R4, R15, R36). -/
def State.stopInForce (s : State) : Bool :=
  allAlarms.any (fun k => severity k != .notice && s.inForce k)

/-- Whether an alarm of SAFE severity is in force (R4, R24). -/
def State.safeInForce (s : State) : Bool :=
  allAlarms.any (fun k => severity k == .safe && s.inForce k)

/-! ### The ALERT output (R175) -/

/-- A qualifying event of the pulse modes: begin a pulse at rest, else count it (R175). -/
def pulse (a : Alert) : Alert :=
  match a.phase with
  | .rest => if a.pending = 0 then { a with phase := .low } else { a with pending := satAdd 255 a.pending 1 }
  | _ => { a with pending := satAdd 255 a.pending 1 }

/-- An alarm occurrence at the attention flag and the ALERT output (R174, R175). -/
def Alert.onAlarm (a : Alert) : Alert :=
  let b := { a with attention := true }
  match a.mode with
  | .pulseAlarm => pulse b
  | .pulseBoth => pulse b
  | .level => b
  | .pulseReport => b

/-- A report joining, at the attention flag and the ALERT output (R174, R175). -/
def Alert.onReport (a : Alert) : Alert :=
  let b := { a with attention := true }
  match a.mode with
  | .pulseReport => pulse b
  | .pulseBoth => pulse b
  | .level => b
  | .pulseAlarm => b

/-- The level of the ALERT output: true is low, asserted (R175). -/
def State.alertLow (s : State) : Bool :=
  match s.alert.mode with
  | .level => s.alert.attention
  | _ => s.alert.phase == .low

/-! ### Entries (R166, R167) -/

/-- An occurrence that brings the entry of `k` to the state `st`: count, time, epoch, attention flag, ALERT (R166, R167). -/
def occurrence (k : AlarmKind) (st : AlarmState) (s : State) : State :=
  let e := s.alarm k
  { s with
    alarms := s.alarms.set k { state := st, count := satAdd 255 e.count 1, time := some (s.seconds, .current) }
    alert := s.alert.onAlarm }

/-- The condition of `k` appears: an occurrence, unless it is present already (R166). -/
def conditionAppears (k : AlarmKind) (s : State) : State :=
  if s.condition k then s else occurrence k .active s

/-- The entry after its condition disappears (R166). -/
def AlarmEntry.disappear (e : AlarmEntry) : AlarmEntry :=
  match e.state with
  | .active => { e with state := .latched }
  | .acked => { e with state := .clear }
  | .clear => e
  | .latched => e

/-- The condition of `k` disappears, if it is present (R166). -/
def conditionEnds (k : AlarmKind) (s : State) : State :=
  { s with alarms := s.alarms.set k (s.alarm k).disappear }

/-- One occurrence of an event alarm (R167). -/
def eventOccurs (k : AlarmKind) (s : State) : State := occurrence k .latched s

/-- The entry after an acknowledgement (R168). -/
def AlarmEntry.acknowledge (e : AlarmEntry) : AlarmEntry :=
  match e.state with
  | .active => { e with state := .acked }
  | .latched => { e with state := .clear }
  | .acked => e
  | .clear => e

end Sys2Proof.Machine
end

