-- ==== Sys2Proof/Machine/Frames.lean ====
section
/-! DEFINITION. The byte level of the link: field encodings (R190), the CRC and the frame (R186), the numbers of named states
(R190), and the codes of request kinds (R191) and result codes (R190). -/

namespace Sys2Proof.Machine

/-! ### Field encodings (R190): high byte first, two's complement -/

/-- One byte: a count, code, drive or flux level. -/
def u8 (n : Nat) : Bytes := [BitVec.ofNat 8 n]
/-- Two bytes. -/
def u16 (n : Nat) : Bytes := [BitVec.ofNat 8 (n / 256), BitVec.ofNat 8 n]
/-- Three bytes. -/
def u24 (n : Nat) : Bytes := BitVec.ofNat 8 (n / 65536) :: u16 n
/-- Four bytes. -/
def u32 (n : Nat) : Bytes := BitVec.ofNat 8 (n / 16777216) :: u24 n
/-- One byte, signed. -/
def i8 (x : Int) : Bytes := u8 (x % 256).toNat
/-- Two bytes, signed. -/
def i16 (x : Int) : Bytes := u16 (x % 65536).toNat
/-- Three bytes, signed. -/
def i24 (x : Int) : Bytes := u24 (x % 16777216).toNat
/-- A flag, 0 or 1. -/
def flag (b : Bool) : Bytes := u8 (if b then 1 else 0)
/-- A timer, sent in ms (R190). -/
def timerMs (t : Nat) : Bytes := u32 (t / Config.ticksPerMs)

/-- An optional field: a presence byte, then the value (R190). -/
def opt {α : Type} (f : α → Bytes) : Option α → Bytes
  | none => flag false
  | some a => flag true ++ f a

/-- A list: a count byte, then the entries (R190). -/
def counted {α : Type} (f : α → Bytes) (l : List α) : Bytes := u8 l.length ++ (l.map f).flatten

/-- A name: a count byte, then its characters (R190). -/
def nameField (n : Bytes) : Bytes := u8 n.length ++ n

/-- A set of zones, bit k − 1 for zone k (R190). -/
def zoneSet (z : Six Bool) : Bytes :=
  u8 ((allZones.map (fun k => if z.get k then 2 ^ zoneIndex k else 0)).sum)

/-- The value of two bytes, high byte first. -/
def word16 (hi lo : Byte) : Word16 := hi ++ lo

/-- The two bytes of a two-byte field, high byte first. -/
def wordBytes (w : Word16) : Bytes := [w.extractLsb' 8 8, w.extractLsb' 0 8]

/-! ### CRC-16 (R186) -/

/-- One bit of the division by x^16 + x^12 + x^5 + 1, most significant bit first. -/
def crcBit (c : BitVec 16) : BitVec 16 := if c.msb then (c <<< 1) ^^^ 0x1021#16 else c <<< 1

/-- Take one byte into the CRC. -/
def crcByte (c : BitVec 16) (b : Byte) : BitVec 16 :=
  let x := c ^^^ (b.setWidth 16 <<< 8)
  crcBit (crcBit (crcBit (crcBit (crcBit (crcBit (crcBit (crcBit x)))))))

/-- The CRC of a run of bytes: initial value 0xFFFF, no reflection, no final XOR (R186). -/
def crc (bs : Bytes) : BitVec 16 := bs.foldl crcByte 0xFFFF#16

/-! ### Frames (R186) -/

/-- The start byte. -/
def startByte : Byte := 0xA5#8

/-- Bytes 1 to 3 + N of a frame: length, kind, frame tag, payload. -/
def frameBody (kind tag : Byte) (payload : Bytes) : Bytes := BitVec.ofNat 8 payload.length :: kind :: tag :: payload

/-- A whole frame. -/
def frameBytes (kind tag : Byte) (payload : Bytes) : Bytes :=
  let body := frameBody kind tag payload
  startByte :: body ++ wordBytes (crc body)

/-! ### Request kinds (R191) -/

/-- The number of a request kind in the catalogue. -/
def kindNumber : RequestKind → Nat
  | .caps => 0x01
  | .status => 0x02
  | .zoneRead => 0x03
  | .potRead => 0x04
  | .extractRead => 0x05
  | .transitRead => 0x06
  | .measure => 0x07
  | .start => 0x08
  | .run => 0x09
  | .stop => 0x0A
  | .hold => 0x0B
  | .resume => 0x0C
  | .standby => 0x0D
  | .shutdown => 0x0E
  | .clearSafe => 0x0F
  | .selectSet => 0x10
  | .announce => 0x11
  | .withdraw => 0x12
  | .purge => 0x13
  | .waveCal => 0x14
  | .calAbort => 0x15
  | .trim => 0x16
  | .reportTake => 0x17
  | .alarmRead => 0x18
  | .alarmAck => 0x19
  | .alertMode => 0x1A
  | .configRead => 0x1B
  | .configWrite => 0x1C
  | .thermalRead => 0x1D
  | .thermalWrite => 0x1E
  | .recipeRead => 0x1F
  | .recipeWrite => 0x20
  | .recipeErase => 0x21
  | .lock => 0x22
  | .unlock => 0x23
  | .restart => 0x24

/-- The request kinds in catalogue order. -/
def allKinds : List RequestKind :=
  [.caps, .status, .zoneRead, .potRead, .extractRead, .transitRead, .measure, .start, .run, .stop, .hold, .resume,
   .standby, .shutdown, .clearSafe, .selectSet, .announce, .withdraw, .purge, .waveCal, .calAbort, .trim, .reportTake,
   .alarmRead, .alarmAck, .alertMode, .configRead, .configWrite, .thermalRead, .thermalWrite, .recipeRead, .recipeWrite,
   .recipeErase, .lock, .unlock, .restart]

/-- The kind byte of a request. -/
def kindByte (k : RequestKind) : Byte := BitVec.ofNat 8 (kindNumber k)

/-- The request kind of a kind byte, if the catalogue holds it (R189, R191). -/
def kindOf (b : Byte) : Option RequestKind := allKinds.find? (fun k => kindByte k = b)

/-- The kind byte of the reply to a request kind byte (R186). -/
def replyKind (b : Byte) : Byte := b + 0x80#8

/-- The reply kind for an unknown request kind (R189). -/
def unknownKindByte : Byte := 0xFF#8

/-- The kind of a request. -/
def requestKind : Request → RequestKind
  | .caps => .caps
  | .status => .status
  | .zoneRead => .zoneRead
  | .potRead => .potRead
  | .extractRead => .extractRead
  | .transitRead _ => .transitRead
  | .measure _ _ => .measure
  | .start => .start
  | .run => .run
  | .stop => .stop
  | .hold => .hold
  | .resume => .resume
  | .standby => .standby
  | .shutdown => .shutdown
  | .clearSafe => .clearSafe
  | .selectSet _ => .selectSet
  | .announce _ _ _ => .announce
  | .withdraw _ => .withdraw
  | .purge => .purge
  | .waveCal => .waveCal
  | .calAbort => .calAbort
  | .trim _ _ => .trim
  | .reportTake => .reportTake
  | .alarmRead => .alarmRead
  | .alarmAck _ => .alarmAck
  | .alertMode _ => .alertMode
  | .configRead => .configRead
  | .configWrite _ => .configWrite
  | .thermalRead _ => .thermalRead
  | .thermalWrite _ _ => .thermalWrite
  | .recipeRead _ => .recipeRead
  | .recipeWrite _ _ => .recipeWrite
  | .recipeErase _ => .recipeErase
  | .lock _ _ => .lock
  | .unlock _ _ => .unlock
  | .restart => .restart

/-! ### Result codes (R190) -/

/-- The result codes that a reply can carry. -/
inductive ResultCode where
  | ok | clamped | wrongMode | busy | inUse | locked | keyOff | full | empty | duplicateTag | notFound | badValue | badSlot
  | badSet | classMismatch | noConfig | uncalibrated | alarm | storeFault | unknownKind
  deriving DecidableEq, Repr

/-- The value of a result code. -/
def codeNumber : ResultCode → Nat
  | .ok => 0
  | .clamped => 1
  | .wrongMode => 2
  | .busy => 3
  | .inUse => 4
  | .locked => 5
  | .keyOff => 6
  | .full => 7
  | .empty => 8
  | .duplicateTag => 9
  | .notFound => 10
  | .badValue => 11
  | .badSlot => 12
  | .badSet => 13
  | .classMismatch => 14
  | .noConfig => 15
  | .uncalibrated => 16
  | .alarm => 17
  | .storeFault => 18
  | .unknownKind => 21

/-! ### Numbers of named states (R190): their places where the owner first names them -/

/-- Modes, IDLE 0 to SAFE 8 (R1, R190). -/
def modeNumber : Mode → Nat
  | .idle => 0
  | .warmup => 1
  | .ready => 2
  | .run => 3
  | .drain => 4
  | .hold => 5
  | .standby => 6
  | .calibrating => 7
  | .safe => 8

/-- Drain targets (R1). -/
def drainNumber : DrainTarget → Nat
  | .none => 0
  | .ready => 1
  | .standby => 2
  | .idle => 3

/-- Return modes (R1). -/
def returnNumber : ReturnMode → Nat
  | .none => 0
  | .run => 1
  | .drain => 2

/-- Warm-up stages (R5 to R10). -/
def stageNumber : WarmStage → Nat
  | .extraction => 0
  | .melt => 1
  | .zones => 2
  | .settle => 3

/-- A two-valued named item whose first named value is the true one, as "RUN or STOPPED" (R27), "OPEN or CLOSED" (R27),
"ON or OFF" (R144, R177), "ACTIVE or INACTIVE" (R90), "HOT or COOL" (R112). -/
def firstNamed (b : Bool) : Bytes := u8 (if b then 0 else 1)

/-- Orientations (R31). -/
def orientationNumber : Orientation → Nat
  | .normal => 0
  | .rotated => 1

/-- Record stages (R34). -/
def recordStageNumber : Stage → Nat
  | .entering => 0
  | .conveyed => 1
  | .exiting => 2

/-- Exception kinds (R43). -/
def exceptionNumber : ExcKind → Nat
  | .lengthMismatch => 0
  | .notMeasured => 1
  | .tempLow => 2
  | .tempHigh => 3
  | .fluxLate => 4
  | .fluxSkip => 5
  | .fluxInhibit => 6
  | .waveShort => 7
  | .safePass => 8
  | .heldLong => 9

/-- Report outcomes (R54). -/
def outcomeNumber : ReportOutcome → Nat
  | .good => 0
  | .flagged => 1
  | .lost => 2

/-- Traverse activities (R71). -/
def activityNumber : Running → Nat
  | .idle => 0
  | .stroke _ => 1
  | .purge _ _ => 2

/-- Purge states (R71). -/
def purgeNumber : PurgeState → Nat
  | .none => 0
  | .running => 1
  | .completed => 2
  | .aborted => 3

/-- Presences (R89). -/
def presenceNumber : Presence → Nat
  | .unknown => 0
  | .present => 1
  | .absent => 2

/-- Standings (R89, R155). -/
def standingNumber : Standing → Nat
  | .fresh => 0
  | .stale => 1
  | .opened => 2

/-- Soak states (R112). -/
def soakNumber : Soak → Nat
  | .none => 0
  | .waiting => 1
  | .soaking _ => 2

/-- Level standings (R112). -/
def levelNumber : LevelStanding → Nat
  | .invalid => 0
  | .held => 1
  | .live => 2

/-- Feeder states (R112). -/
def feederNumber : Feeder → Nat
  | .off => 0
  | .running _ _ => 1

/-- WAVE_LIMIT sides (R129). -/
def sideNumber : WaveSide → Nat
  | .none => 0
  | .high => 1
  | .low => 2

/-- Calibration phases (R129). -/
def phaseNumber : CalPhase → Nat
  | .none => 0
  | .search _ _ _ => 1
  | .writing _ _ => 2

/-- Search directions (R129). -/
def directionNumber : Direction → Nat
  | .down => 0
  | .up => 1

/-- Calibration outcomes (R129). -/
def calOutcomeNumber : CalOutcome → Nat
  | .none => 0
  | .running => 1
  | .ok => 2
  | .failed => 3
  | .aborted => 4
  | .storeFault => 5

/-- Failure causes (R129). -/
def causeNumber : CalCause → Nat
  | .none => 0
  | .wetAtMin => 1
  | .noContact => 2
  | .levelNotValid => 3
  | .potNotMolten => 4
  | .safeAlarm => 5

/-- Extraction states (R144). -/
def extNumber : ExtState → Nat
  | .off => 0
  | .proving => 1
  | .proven => 2
  | .warn => 3
  | .failed => 4

/-- Suction classes (R144). -/
def suctionNumber : Suction → Nat
  | .strong => 0
  | .adequate => 1
  | .weak => 2
  | .lost => 3

/-- Severities (R165). -/
def severityNumber : Severity → Nat
  | .notice => 0
  | .stop => 1
  | .safe => 2

/-- Alarm entry states (R165). -/
def alarmStateNumber : AlarmState → Nat
  | .clear => 0
  | .active => 1
  | .acked => 2
  | .latched => 3

/-- Epochs (R165). -/
def epochNumber : Epoch → Nat
  | .current => 0
  | .previous => 1

/-- The number of an alarm kind (R165). -/
def alarmNumber (k : AlarmKind) : Nat := allAlarms.idxOf k + 1

/-- ALERT modes (R175). -/
def alertModeNumber : AlertMode → Nat
  | .level => 0
  | .pulseReport => 1
  | .pulseAlarm => 2
  | .pulseBoth => 3

/-- The ALERT mode that a value names, if any (R176, R190). -/
def alertModeOf (b : Byte) : Option AlertMode :=
  match b.toNat with
  | 0 => some .level
  | 1 => some .pulseReport
  | 2 => some .pulseAlarm
  | 3 => some .pulseBoth
  | _ => none

/-- Store item states (R177). -/
def itemNumber {α : Type} : Item α → Nat
  | .empty => 0
  | .valid _ => 1
  | .corrupt => 2

/-- Line speeds, numbered by their place in the list of R186 (log 13). -/
def speedNumber : LineSpeed → Nat
  | .b38400 => 0
  | .b115200 => 1
  | .b230400 => 2
  | .b460800 => 3

/-- Rectangle kinds (R56). -/
def rectNumber : RectKind → Nat
  | .dose => 0
  | .add => 1
  | .keepout => 2

end Sys2Proof.Machine
end

