-- ==== Sys2Proof/Machine/Operands.lean ====
section
/-! DEFINITION. The operands of a request: its payload as bytes (R190, R191), the payload read back, and the field checks of the
store requests (R179 to R181). -/

namespace Sys2Proof.Machine

/-! ### Payloads of requests -/

/-- One rectangle's six bytes (R190). -/
def rectBytes (r : RectFields) : Bytes := [r.kind, r.level, r.row0, r.row1, r.col0, r.col1]

/-- A recipe's fields as they are sent (R190). -/
def recipeBytes (f : RecipeFields) : Bytes :=
  nameField f.name ++ [f.set] ++ wordBytes f.length ++ wordBytes f.width ++ wordBytes f.tolerance ++ [f.base, f.boost]
    ++ wordBytes f.exitMin ++ wordBytes f.exitMax ++ (u8 f.rects.length ++ (f.rects.map rectBytes).flatten)

/-- The payload of a request (R191). -/
def requestPayload : Request → Bytes
  | .transitRead p => [p]
  | .measure a b => [a, b]
  | .selectSet n => [n]
  | .announce t slot o => wordBytes t ++ [slot, o]
  | .withdraw t => wordBytes t
  | .trim z v => z :: wordBytes v
  | .alarmAck k => [k]
  | .alertMode m => [m]
  | .configWrite fields => (fields.map wordBytes).flatten
  | .thermalRead n => [n]
  | .thermalWrite n fields => n :: (fields.map wordBytes).flatten
  | .recipeRead n => [n]
  | .recipeWrite n f => n :: recipeBytes f
  | .recipeErase n => [n]
  | .lock k n => [k, n]
  | .unlock k n => [k, n]
  | .caps | .status | .zoneRead | .potRead | .extractRead | .start | .run | .stop | .hold | .resume | .standby | .shutdown
  | .clearSafe | .purge | .waveCal | .calAbort | .reportTake | .alarmRead | .configRead | .restart => []

/-! ### Reading a payload: `none` where its length is not the one its fields call for (R190) -/

/-- Read exactly `n` two-byte fields. -/
def readWords : Nat → Bytes → Option (List Word16)
  | 0, [] => some []
  | 0, _ :: _ => none
  | n + 1, hi :: lo :: rest => (readWords n rest).map (word16 hi lo :: ·)
  | _ + 1, _ => none

/-- Read exactly `n` rectangles. -/
def readRects : Nat → Bytes → Option (List RectFields)
  | 0, [] => some []
  | 0, _ :: _ => none
  | n + 1, k :: l :: a :: b :: c :: d :: rest => (readRects n rest).map (⟨k, l, a, b, c, d⟩ :: ·)
  | _ + 1, _ => none

/-- Read the recipe fields that follow the name. -/
def readRecipeTail (name : Bytes) : Bytes → Option RecipeFields
  | set :: l1 :: l0 :: w1 :: w0 :: t1 :: t0 :: base :: boost :: a1 :: a0 :: b1 :: b0 :: n :: rest =>
    (readRects n.toNat rest).map fun rects =>
      { name := name, set := set, length := word16 l1 l0, width := word16 w1 w0, tolerance := word16 t1 t0, base := base,
        boost := boost, exitMin := word16 a1 a0, exitMax := word16 b1 b0, rects := rects }
  | _ => none

/-- Read a recipe: the name's count byte says where the later fields begin (R190). -/
def readRecipe : Bytes → Option RecipeFields
  | [] => none
  | n :: rest => if n.toNat ≤ rest.length then readRecipeTail (rest.take n.toNat) (rest.drop n.toNat) else none

/-- Read the payload of a request of a known kind; `none` is a wrong length (R190). -/
def readRequest : RequestKind → Bytes → Option Request
  | .caps, [] => some .caps
  | .status, [] => some .status
  | .zoneRead, [] => some .zoneRead
  | .potRead, [] => some .potRead
  | .extractRead, [] => some .extractRead
  | .transitRead, [p] => some (.transitRead p)
  | .measure, [a, b] => some (.measure a b)
  | .start, [] => some .start
  | .run, [] => some .run
  | .stop, [] => some .stop
  | .hold, [] => some .hold
  | .resume, [] => some .resume
  | .standby, [] => some .standby
  | .shutdown, [] => some .shutdown
  | .clearSafe, [] => some .clearSafe
  | .selectSet, [n] => some (.selectSet n)
  | .announce, [t1, t0, slot, o] => some (.announce (word16 t1 t0) slot o)
  | .withdraw, [t1, t0] => some (.withdraw (word16 t1 t0))
  | .purge, [] => some .purge
  | .waveCal, [] => some .waveCal
  | .calAbort, [] => some .calAbort
  | .trim, [z, v1, v0] => some (.trim z (word16 v1 v0))
  | .reportTake, [] => some .reportTake
  | .alarmRead, [] => some .alarmRead
  | .alarmAck, [k] => some (.alarmAck k)
  | .alertMode, [m] => some (.alertMode m)
  | .configRead, [] => some .configRead
  | .configWrite, p => (readWords 101 p).map .configWrite
  | .thermalRead, [n] => some (.thermalRead n)
  | .thermalWrite, n :: p => (readWords 16 p).map (.thermalWrite n)
  | .recipeRead, [n] => some (.recipeRead n)
  | .recipeWrite, n :: p => (readRecipe p).map (.recipeWrite n)
  | .recipeErase, [n] => some (.recipeErase n)
  | .lock, [k, n] => some (.lock k n)
  | .unlock, [k, n] => some (.unlock k n)
  | .restart, [] => some .restart
  | _, _ => none

/-! ### Field checks: the index of the first field refused -/

/-- A range of a field: its least and greatest value. -/
abbrev Range := Nat × Nat

/-- The ranges of configuration fields 1 to 35 (R179). -/
def configRanges1 : List Range :=
  [(5, 50), (600, 6000), (100, 1000)] ++ List.replicate 12 (0, 6000)
    ++ [(0, 6000), (0, 6000), (5, 100), (0, 6000), (10, 200), (1, 30), (5, 100), (100, 1000), (0, 50), (1, 60), (10, 500),
        (1, 150)] ++ List.replicate 6 (0, 150) ++ [(10, 600), (50, 500)]

/-- The ranges of the four fields of one loop (R179). -/
def loopRanges : List Range := [(0, 255), (0, 255), (0, 65535), (10, 200)]

/-- The ranges of configuration fields 64 to 101 (R179). -/
def configRanges3 : List Range :=
  List.replicate 6 (50, 500)
    ++ [(60, 3600), (10, 600), (2000, 2600), (60, 3600), (2800, 3500), (1000, 2000), (20, 200), (20, 500), (20, 200),
        (20, 255), (1, 50), (1, 30), (0, 3000), (0, 3000), (0, 3000), (5, 200), (1, 50), (10, 300), (1, 50)]
    ++ [(10, 2000), (10, 2000), (10, 2000), (5, 120), (1, 60), (1, 30), (50, 5000), (10, 600), (10, 900), (0, 15), (0, 15),
        (100, 2000), (10, 600)]

/-- The ranges of the 101 configuration fields (R179). -/
def configRanges : List Range := configRanges1 ++ (List.replicate 7 loopRanges).flatten ++ configRanges3

/-- Whether a value lies in a range. -/
def inRange (r : Range) (x : Nat) : Bool := decide (r.1 ≤ x) && decide (x ≤ r.2)

/-- The index, counting from `i`, of the first value outside its range. -/
def firstOutside : Nat → List Range → List Nat → Option Nat
  | i, r :: rs, x :: xs => if inRange r x then firstOutside (i + 1) rs xs else some i
  | _, _, _ => none

/-- The first of a list of checks that fails: each is whether it holds, and the index it reports. -/
def firstFailed : List (Bool × Nat) → Option Nat
  | [] => none
  | (okay, i) :: rest => if okay then firstFailed rest else some i

/-- Check 2 of R180 from one zone on, `prior` being the end of the nearest earlier fitted zone. -/
def zoneGeometry (c : ConfigRecord) : List ZoneId → Option Nat → List (Bool × Nat)
  | [], _ => []
  | k :: ks, prior =>
    let start := c.field (4 + 2 * zoneIndex k)
    let stop := c.field (5 + 2 * zoneIndex k)
    if c.field (28 + zoneIndex k) = 0 then zoneGeometry c ks prior
    else (decide (start < stop), 5 + 2 * zoneIndex k)
      :: (match prior with
          | some p => decide (p ≤ start)
          | none => true, 4 + 2 * zoneIndex k)
      :: zoneGeometry c ks (some stop)

/-- The end of the last fitted zone, if any zone is fitted (R180). -/
def lastFittedEnd (c : ConfigRecord) : Option Nat :=
  ((allZones.filter (fun k => c.field (28 + zoneIndex k) ≠ 0)).map (fun k => c.field (5 + 2 * zoneIndex k))).getLast?

/-- The cross-field checks of CONFIG_WRITE, in the order of R180. -/
def configCross (c : ConfigRecord) : List (Bool × Nat) :=
  [(decide (c.field 27 ≤ c.field 34), 34)]
    ++ zoneGeometry c allZones none
    ++ [(match lastFittedEnd c with
         | some e => decide (e < c.field 16)
         | none => true, 16),
        (decide (c.field 16 < c.field 17), 17),
        (decide (c.field 17 + c.field 18 < c.field 19), 19),
        (decide (c.field 84 < c.field 82), 82),
        (decide (c.field 82 < c.field 83), 83),
        (decide (c.field 78 ≤ c.field 79), 79),
        (decide (c.field 90 < c.field 89), 90),
        (decide (c.field 91 < c.field 90), 91)]

/-- The index refused of a configuration record, if any: ranges first, then cross-field checks (R179, R180). -/
def configFault (c : ConfigRecord) : Option Nat :=
  match firstOutside 1 configRanges c.fields with
  | some i => some i
  | none => firstFailed (configCross c)

/-- The range check of one thermal set field: its range, with 0 allowed for a zone setpoint (R181). -/
def thermalFieldOk (i x : Nat) : Bool :=
  if i ≤ 12 then x = 0 || inRange (300, 4000) x
  else if i = 13 then inRange (2000, 3200) x
  else if i = 14 then inRange (1500, 3200) x
  else if i = 15 then inRange (300, 2400) x
  else inRange (30, 200) x

/-- The index refused of a thermal set, if any (R181). -/
def thermalFault (t : ThermalSet) : Option Nat :=
  firstFailed (mapFrom (fun i x => (thermalFieldOk i x, i)) 1 t.fields)

/-- The rectangle kind that a byte names, if any (R56, R190). -/
def rectKindOf (b : Byte) : Option RectKind :=
  match b.toNat with
  | 0 => some .dose
  | 1 => some .add
  | 2 => some .keepout
  | _ => none

/-- The level or amount of a rectangle lies in the range of its kind (R181). -/
def levelInRange (k : RectKind) (level : Int) : Bool :=
  match k with
  | .dose => decide (0 ≤ level) && decide (level ≤ 15)
  | .add => decide (-15 ≤ level) && decide (level ≤ 15)
  | .keepout => level = 0

/-- The level or amount of a rectangle as it is sent: judged where its kind byte names a kind (R181). -/
def rectLevelOk (k : Byte) (level : Int) : Bool :=
  match rectKindOf k with
  | some kind => levelInRange kind level
  | none => true

/-- The range checks of rectangle i, whose first field has index `base` (R181). -/
def rectRanges (base : Nat) (r : RectFields) : List (Bool × Nat) :=
  [((rectKindOf r.kind).isSome, base), (rectLevelOk r.kind r.level.toInt, base + 1),
   (decide (r.row0.toNat ≤ 63), base + 2), (decide (r.row1.toNat ≤ 63), base + 3),
   (decide (r.col0.toNat ≤ 47), base + 4), (decide (r.col1.toNat ≤ 47), base + 5)]

/-- The cross-field checks of rectangle i (R181). -/
def rectCross (base : Nat) (r : RectFields) : List (Bool × Nat) :=
  [(decide (r.row0.toNat ≤ r.row1.toNat), base + 3), (decide (r.col0.toNat ≤ r.col1.toNat), base + 5)]

/-- Index of the first field of the rectangle at list position `i`, counting from 0 (R181). -/
def rectBase (i : Nat) : Nat := 11 + 6 * i

/-- A recipe name: 1 to 16 printable characters (R181). -/
def nameOk (name : Bytes) : Bool :=
  decide (1 ≤ name.length) && decide (name.length ≤ 16)
    && name.all (fun b => decide (0x20 ≤ b.toNat) && decide (b.toNat ≤ 0x7E))

/-- The checks of a recipe: ranges in index order, then the cross-field checks in list order (R181). -/
def recipeChecks (f : RecipeFields) : List (Bool × Nat) :=
  [(nameOk f.name, 1),
   (decide (f.set.toNat ≤ 7), 2),
   (inRange (10, 640) f.length.toNat, 3), (inRange (10, 480) f.width.toNat, 4), (inRange (0, 50) f.tolerance.toNat, 5),
   (inRange (0, 15) f.base.toNat, 6), (inRange (0, 100) f.boost.toNat, 7),
   (inRange (0, 3000) f.exitMin.toNat, 8), (inRange (0, 3000) f.exitMax.toNat, 9),
   (decide (f.rects.length ≤ 8), 10)]
    ++ (mapFrom (fun i r => rectRanges (rectBase i) r) 0 f.rects).flatten
    ++ [(decide (f.exitMin.toNat < f.exitMax.toNat), 9)]
    ++ (mapFrom (fun i r => rectCross (rectBase i) r) 0 f.rects).flatten

/-- The index refused of a recipe, if any (R181). -/
def recipeFault (f : RecipeFields) : Option Nat := firstFailed (recipeChecks f)

/-- A checked rectangle as the store holds it. -/
def rectOf (r : RectFields) : Rect :=
  { kind := (rectKindOf r.kind).getD .dose, level := r.level.toInt, row0 := r.row0.toNat, row1 := r.row1.toNat,
    col0 := r.col0.toNat, col1 := r.col1.toNat }

/-- A checked recipe as the store holds it. -/
def recipeOfFields (f : RecipeFields) : Recipe :=
  { name := f.name, set := f.set.toNat, length := f.length.toNat, width := f.width.toNat, tolerance := f.tolerance.toNat,
    base := f.base.toNat, boost := f.boost.toNat, exitMin := f.exitMin.toNat, exitMax := f.exitMax.toNat,
    rects := f.rects.map rectOf }

/-! ### Stored contents at the start-up check (R178) -/

/-- A stored configuration record passes the checks of R179 and R180. -/
def configSound (c : ConfigRecord) : Bool := decide (c.fields.length = 101) && (configFault c).isNone

/-- A stored thermal set passes the checks of R181. -/
def thermalSound (t : ThermalSet) : Bool := decide (t.fields.length = 16) && (thermalFault t).isNone

/-- A stored rectangle passes the checks of R181. -/
def rectSound (r : Rect) : Bool :=
  levelInRange r.kind r.level && decide (r.row0 ≤ r.row1) && decide (r.row1 ≤ 63) && decide (r.col0 ≤ r.col1)
    && decide (r.col1 ≤ 47)

/-- A stored recipe passes the checks of R181. -/
def recipeSound (r : Recipe) : Bool :=
  nameOk r.name && decide (r.set ≤ 7) && inRange (10, 640) r.length && inRange (10, 480) r.width
    && inRange (0, 50) r.tolerance && inRange (0, 15) r.base && inRange (0, 100) r.boost
    && decide (0 ≤ r.exitMin) && decide (r.exitMin < r.exitMax) && decide (r.exitMax ≤ 3000)
    && decide (r.rects.length ≤ 8) && r.rects.all rectSound

end Sys2Proof.Machine
end

