-- ==== Sys2Proof/Machine/Records.lean ====
section
/-! DEFINITION. The Transit Table's records: finding and updating them, positions, exceptions and resolved rows (R28, R34, R43,
R44), and the free places of the Announce Queue (R31). -/

namespace Sys2Proof.Machine

/-- The first record with a tag. -/
def State.record? (s : State) (tag : Nat) : Option Record := s.tracker.records.find? (fun r => r.tag = tag)

/-- Change every record. -/
def mapRecords (f : Record → Record) (s : State) : State :=
  { s with tracker := { s.tracker with records := s.tracker.records.map f } }

/-- Change the record with a tag; an update naming a tag that is not there is discarded (R43). -/
def updateRecord (tag : Nat) (f : Record → Record) (s : State) : State :=
  mapRecords (fun r => if r.tag = tag then f r else r) s

/-- Take the record with a tag out of the table. -/
def dropRecord (tag : Nat) (s : State) : State :=
  { s with tracker := { s.tracker with records := s.tracker.records.filter (fun r => r.tag ≠ tag) } }

/-- The tags of the table, oldest admission first. -/
def State.tags (s : State) : List Nat := s.tracker.records.map (·.tag)

/-- The position d of a record: the encoder count less its entry count modulo 2^24, read as signed (R28). -/
def State.position (s : State) (r : Record) : Option Int := r.entry.map (fun e => (s.tracker.count - e).toInt)

/-- A length in mm as counts. -/
def State.counts (s : State) (mm : Nat) : Int := (mm * s.kScale : Nat)

/-- Lb, the board length in counts: from the recipe until the measured length is known (R40, R44). -/
def State.boardCounts (s : State) (r : Record) : Int :=
  match r.measured with
  | some m => s.counts m
  | none => s.counts (s.recipeOf r.slot).length

/-- Whether some record overlaps the wave window: occupancy OCCUPIED (R48). -/
def State.waveOccupied (s : State) : Bool := s.tracker.records.any (·.inWave)

/-- Whether an admission in progress has its record in stage ENTERING (R31). -/
def State.entering (s : State) : Bool :=
  match s.tracker.admission with
  | some a => match s.record? a.tag with
    | some r => r.stage == .entering
    | none => false
  | none => false

/-- The free places of the Announce Queue (R31). -/
def State.freePlaces (s : State) : Nat :=
  Config.maxAnnouncements - s.tracker.queue.length - (if s.entering then 1 else 0)

/-! ### Exceptions (R43) -/

/-- Add `n` to the count of a kind that is listed. -/
def bumpException (k : ExcKind) (n : Nat) : List (ExcKind × Nat) → List (ExcKind × Nat)
  | [] => []
  | (j, c) :: rest => if j = k then (j, satAdd 255 c n) :: rest else (j, c) :: bumpException k n rest

/-- Add a kind `n` times: raise its count, append it, or set the "more" flag (R43). -/
def ExcList.add (k : ExcKind) (n : Nat) (e : ExcList) : ExcList :=
  if e.items.any (fun p => p.1 = k) then { e with items := bumpException k n e.items }
  else if e.items.length < 8 then { e with items := e.items ++ [(k, min 255 n)] }
  else { e with more := true }

/-- Whether a kind is listed. -/
def ExcList.has (k : ExcKind) (e : ExcList) : Bool := e.items.any (fun p => p.1 = k)

/-- Add an exception once to a record. -/
def Record.except (k : ExcKind) (r : Record) : Record := { r with exc := r.exc.add k 1 }

/-- Add SAFE_PASS, which a record collects once (R49). -/
def Record.safePass (r : Record) : Record := if r.exc.has .safePass then r else r.except .safePass

/-! ### Resolved rows (R43, R88) -/

/-- The largest flux dose total (R43). -/
def maxDose : Nat := 4294967295

/-- Add open time to the flux dose total, saturating (R43). -/
def Record.addDose (n : Nat) (r : Record) : Record := { r with dose := satAdd maxDose r.dose n }

/-- One row sprayed with a dose (R66, R79). -/
def Record.sprayRow (dose : Nat) (r : Record) : Record := { r.addDose dose with sprayed := r.sprayed + 1 }

/-- One row skipped with an exception, and the dose it still received (R65, R73, R75, R81, R83). -/
def Record.skipRow (k : ExcKind) (dose : Nat) (r : Record) : Record :=
  { (r.addDose dose).except k with skipped := r.skipped + 1 }

/-- The rows of a record that are not resolved (R54). -/
def Record.unresolved (r : Record) : Nat := r.rowsTotal - (r.sprayed + r.skipped)

end Sys2Proof.Machine
end

