-- ==== Sys2Proof/Machine/Compositor.lean ====
section
/-! DEFINITION. The Map Compositor (R56 to R70): composing a map, the Map Buffers, the composition order and the release test. -/

namespace Sys2Proof.Machine

/-! ### Composing a map (R61 to R64) -/

/-- A rectangle is applied unless it lies wholly outside the grid (R61). -/
def rectApplies (rows cols : Nat) (r : Rect) : Bool := decide (r.row0 < rows) && decide (r.col0 < cols)

/-- A rectangle clipped to the grid (R61). -/
def clipRect (rows cols : Nat) (r : Rect) : Rect :=
  { r with row1 := min r.row1 (rows - 1), col1 := min r.col1 (cols - 1) }

/-- The applied rectangles of a list, clipped, in list order (R61). -/
def appliedRects (rows cols : Nat) (rects : List Rect) : List Rect :=
  (rects.filter (rectApplies rows cols)).map (clipRect rows cols)

/-- Whether a rectangle covers a cell (R56). -/
def rectCovers (r : Rect) (i j : Nat) : Bool :=
  decide (r.row0 ≤ i) && decide (i ≤ r.row1) && decide (r.col0 ≤ j) && decide (j ≤ r.col1)

/-- The effect of a rectangle on a covered cell; a protected cell is passed over (R62). -/
def changeCell (r : Rect) (c : FluxCell) : FluxCell :=
  if c.prot then c
  else match r.kind with
    | .dose => { c with level := (clampInt 0 15 r.level).toNat }
    | .add => { c with level := (clampInt 0 15 ((c.level : Int) + r.level)).toNat }
    | .keepout => { level := 0, prot := true }

/-- Apply one rectangle to the grid (R62). -/
def applyRect (cells : List (List FluxCell)) (r : Rect) : List (List FluxCell) :=
  mapFrom (fun i row => mapFrom (fun j c => if rectCovers r i j then changeCell r c else c) 0 row) 0 cells

/-- The composed map of a definition on its grid, before it is placed (R61, R62). -/
def composeCells (rows cols : Nat) (d : FluxDef) : List (List FluxCell) :=
  (appliedRects rows cols d.rects).foldl applyRect
    (List.replicate rows (List.replicate cols { level := min 15 d.base, prot := false }))

/-- The composed map in the order in which the board meets the spray line (R63). -/
def placeCells (o : Orientation) (cells : List (List FluxCell)) : List (List FluxCell) :=
  match o with
  | .normal => cells
  | .rotated => (cells.map List.reverse).reverse

/-- The active span of a row: its first and last columns of nonzero level (R64). -/
def rowSpan (row : List FluxCell) : Option (Nat × Nat) :=
  let p := positions (fun c => c.level ≠ 0) 0 row
  match p.head?, p.getLast? with
  | some a, some b => some (a, b)
  | _, _ => none

/-- The duration of a composition in units of 0.02 ms (R60): 1 ms, and 0.02 ms × cells × (applied rectangles + 2). -/
def compositionTime (rows cols : Nat) (rects : List Rect) : Nat :=
  50 + rows * cols * ((appliedRects rows cols rects).length + 2)

/-- A buffer at the completion of its composition (R60). -/
def composed (o : Orientation) (d : FluxDef) (m : MapBuffer) : MapBuffer :=
  let cells := placeCells o (composeCells m.rows m.cols d)
  { m with composing := false, cells := cells, spans := cells.map rowSpan }

/-! ### The composition order -/

/-- The start test of R59: copy the definition of the head buffer's recipe when no composition and no store operation is in
progress. -/
def compositionTest (s : State) : State :=
  match s.maps.order, s.maps.working, s.store.op with
  | b :: _, none, none =>
    match s.maps.buffers.get b with
    | some m =>
      match s.record? m.owner with
      | some r =>
        let recipe := s.recipeOf r.slot
        { s with maps := { s.maps with working := some { base := recipe.base, rects := recipe.rects } } }
      | none => s
    | none => s
  | _, _, _ => s

/-- Take a FREE buffer for a new record: COMPOSING, at the tail of the composition order (R58). -/
def takeBuffer (b : BufferId) (tag : Nat) (recipe : Recipe) (s : State) : State :=
  let m : MapBuffer := { owner := tag, composing := true, rows := recipe.rows, cols := recipe.cols, cells := [],
                         spans := [], resolved := 0 }
  { s with maps := { s.maps with buffers := s.maps.buffers.set b (some m), order := s.maps.order ++ [b] } }

/-- The completion of the composition in progress (R60). -/
def completeComposition (s : State) : State :=
  match s.maps.order, s.maps.working with
  | b :: rest, some d =>
    let finished : Option MapBuffer := (s.maps.buffers.get b).map fun m =>
      composed (match s.record? m.owner with
        | some r => r.orientation
        | none => .normal) d m
    compositionTest
      { s with maps := { buffers := s.maps.buffers.set b finished, order := rest, working := none } }
  | _, _ => s

/-- Release a buffer: abandon its composition, make it FREE, make its record's map buffer field absent (R68, R69, R70). -/
def releaseBuffer (b : BufferId) (s : State) : State :=
  let abandoned := s.maps.order.head? = some b
  let freed : Compositor :=
    { buffers := s.maps.buffers.set b none
      order := s.maps.order.filter (fun c => c ≠ b)
      working := if abandoned then none else s.maps.working }
  compositionTest
    (mapRecords (fun r => if r.buffer = some b then { r with buffer := none } else r) { s with maps := freed })

/-- One more row of a buffer's owner is resolved; the release test of R68. -/
def rowResolved (b : BufferId) (s : State) : State :=
  match s.maps.buffers.get b with
  | none => s
  | some m =>
    let t : State := { s with maps := { s.maps with
      buffers := s.maps.buffers.set b (some { m with resolved := m.resolved + 1 }) } }
    if m.rows ≤ m.resolved + 1 then releaseBuffer b t else t

/-- Resolve a row as skipped with an exception and the dose it received, on the record and on the buffer. -/
def skipRow (tag : Nat) (b : BufferId) (k : ExcKind) (dose : Nat) (s : State) : State :=
  rowResolved b (updateRecord tag (Record.skipRow k dose) s)

/-- Resolve a row as sprayed with a dose, on the record and on the buffer. -/
def sprayRow (tag : Nat) (b : BufferId) (dose : Nat) (s : State) : State :=
  rowResolved b (updateRecord tag (Record.sprayRow dose) s)

/-- The level of a cell of a buffer (R78). -/
def State.cellLevel (s : State) (b : BufferId) (row col : Nat) : Nat :=
  match s.maps.buffers.get b with
  | some m => ((m.cells.getD row []).getD col { level := 0, prot := false }).level
  | none => 0

end Sys2Proof.Machine
end

