-- ==== Sys2Proof/Machine/Spray.lean ====
section
/-! DEFINITION. The Spray Controller (R71 to R88): the traverse, strokes, the Stroke Queue, the valves and the purge. -/

namespace Sys2Proof.Machine

/-- The extraction state is PROVEN or WARN (R36, R75, R80, R85). -/
def ExtState.sound : ExtState → Bool
  | .proven => true
  | .warn => true
  | .off => false
  | .proving => false
  | .failed => false

/-- The traverse is idle (R71). -/
def Running.isIdle : Running → Bool
  | .idle => true
  | .stroke _ => false
  | .purge _ _ => false

/-- A purge is running (R71). -/
def Running.isPurge : Running → Bool
  | .idle => false
  | .stroke _ => false
  | .purge _ _ => true

/-- Change the Spray Controller's items. -/
def State.setSpray (s : State) (x : Spray) : State := { s with spray := x }

/-! ### The traverse (R72) -/

/-- The point reached `elapsed` ticks after a move from `a` toward `b` began, to the nearest mm, halves up, and not past `b`. -/
def movePoint (speed a b elapsed : Nat) : Nat :=
  if a ≤ b then min b ((20000 * a + 2 * elapsed * speed + 10000) / 20000)
  else max b ((20000 * (a : Int) - 2 * elapsed * speed + 10000) / 20000).toNat

/-- Where the traverse stands if its move is cut short now (R72); a homing move cut short leaves it UNKNOWN. -/
def State.haltPosition (s : State) : Option Nat :=
  match s.spray.running with
  | .idle => s.spray.position
  | .stroke r =>
    match r.phase with
    | .homing => none
    | .reposition => s.spray.position.map (fun p => movePoint s.traverseSpeed p r.startEnd r.elapsed)
    | .crossing => some (movePoint s.traverseSpeed r.startEnd r.farEnd r.elapsed)
  | .purge .park elapsed => s.spray.position.map (fun p => movePoint s.traverseSpeed p 0 elapsed)
  | .purge .flush _ => some 0

/-! ### Strokes -/

/-- The valve open time of a level in 0.1 ms (R78). -/
def openTimeOf (speed level : Nat) : Nat := 100000 * level / (15 * speed)

/-- The sum of the open times of a row's span (R79). -/
def State.spanDose (s : State) (r : Stroke) : Nat :=
  ((List.range (r.last + 1 - r.first)).map
    (fun i => openTimeOf s.traverseSpeed (s.cellLevel r.buffer r.row (r.first + i)))).sum

/-- What a stroke has delivered if it is cut now: an open cell counts the part delivered (R81). -/
def Stroke.deliveredNow (r : Stroke) : Nat :=
  match r.openTime with
  | some t => r.delivered + min t r.cellElapsed
  | none => r.delivered

/-- The stroke record built at a stroke start from a traverse position (R77). The phases of distance 0 are passed at once. -/
def buildStroke (position : Option Nat) (e : StrokeEntry) : Stroke :=
  let a := 10 * e.first
  let b := 10 * (e.last + 1)
  let near : Nat → Bool := fun p => decide ((p : Int) - a ≤ (b : Int) - p) && decide ((a : Int) - p ≤ (b : Int) - p)
  let fromRail : Bool := match position with
    | none => true
    | some p => near p
  let startEnd := if fromRail then a else b
  let farEnd := if fromRail then b else a
  let phase : StrokePhase := match position with
    | none => .homing
    | some p => if p = startEnd then .crossing else .reposition
  { tag := e.tag, buffer := e.buffer, row := e.row, first := e.first, last := e.last, startEnd := startEnd,
    farEnd := farEnd, phase := phase, delivered := 0, entered := 0, openTime := none, elapsed := 0, cellElapsed := 0 }

/-- The three tests of a stroke start: the exception of the first that fails, and whether it is the pressure test (R75). -/
def strokeTests (e : StrokeEntry) (s : State) : Option (ExcKind × Bool) :=
  if ¬ s.extr.state.sound then some (.fluxInhibit, false)
  else if (match (s.record? e.tag).bind s.position with
      | some d => decide (s.counts s.sprayReach < d - e.front)
      | none => false) then some (.fluxSkip, false)
  else match (s.slot 11).freshValue with
    | none => some (.fluxSkip, true)
    | some p => if p < s.minFluxPressure then some (.fluxSkip, true) else none

/-- Begin the stroke of a row that passed its tests (R75, R77). -/
def beginStroke (e : StrokeEntry) (s : State) : State :=
  s.setSpray { s.spray with running := .stroke (buildStroke s.spray.position e) }

/-- Drop a row at stroke start; a failed pressure test makes the flux pressure low condition appear (R75, R84). -/
def dropRow (e : StrokeEntry) (k : ExcKind) (pressure : Bool) (s : State) : State :=
  let t := skipRow e.tag e.buffer k 0 s
  if pressure then conditionAppears .fluxPressLow t else t

/-- Bring the rows of a queue to stroke start one after another until one starts (R75, R76). -/
def serveRows : List StrokeEntry → State → State
  | [], s => s.setSpray { s.spray with queue := [] }
  | e :: rest, s =>
    match strokeTests e s with
    | none => beginStroke e (s.setSpray { s.spray with queue := rest })
    | some (k, p) => serveRows rest (dropRow e k p s)

/-- R76: the traverse is IDLE and looks at the Stroke Queue, unless the mode is SAFE. -/
def serveQueue (s : State) : State :=
  if s.modes.mode = .safe || !s.spray.running.isIdle then s else serveRows s.spray.queue s

/-- A row with an active span arrives (R73). -/
def rowArrives (e : StrokeEntry) (s : State) : State :=
  if s.modes.mode = .safe then skipRow e.tag e.buffer .fluxSkip 0 s
  else if s.spray.running.isIdle && s.spray.queue.isEmpty then serveRows [e] s
  else if s.spray.queue.length < Config.maxStrokes then
    s.setSpray { s.spray with queue := s.spray.queue ++ [e] }
  else skipRow e.tag e.buffer .fluxSkip 0 s

/-- Stop the traverse where it stands with both valves closed, discarding the stroke or purge record. -/
def haltTraverse (s : State) : State :=
  s.setSpray { s.spray with position := s.haltPosition, running := .idle, sprayOpen := false, purgeOpen := false }

/-- Cut a running stroke short: its row is skipped with an exception and counts what it delivered (R81, R83). -/
def cutStroke (k : ExcKind) (s : State) : State :=
  match s.spray.running with
  | .stroke r => skipRow r.tag r.buffer k r.deliveredNow (haltTraverse s)
  | .idle => s
  | .purge _ _ => s

/-- Cut a running purge short: ABORTED (R87). -/
def cutPurge (s : State) : State :=
  match s.spray.running with
  | .purge _ _ =>
    let t := haltTraverse s
    t.setSpray { t.spray with purge := .aborted }
  | .idle => s
  | .stroke _ => s

/-- Skip every entry of the Stroke Queue, head first (R83). -/
def skipRows : List StrokeEntry → State → State
  | [], s => s.setSpray { s.spray with queue := [] }
  | e :: rest, s => skipRows rest (skipRow e.tag e.buffer .fluxSkip 0 s)

/-- The Spray Controller at entry into SAFE (R83): both valves end closed. -/
def spraySafe (s : State) : State :=
  let t := cutStroke .fluxSkip s
  let u := cutPurge (skipRows t.spray.queue t)
  u.setSpray { u.spray with sprayOpen := false, purgeOpen := false }

/-- The extraction state leaves PROVEN and WARN: valves closed, stroke or purge cut, queue served (R80, R81, R87, R76). -/
def sprayExtractionLost (s : State) : State :=
  match s.spray.running with
  | .idle => s.setSpray { s.spray with sprayOpen := false, purgeOpen := false }
  | .stroke _ => serveQueue (cutStroke .fluxInhibit s)
  | .purge _ _ => serveQueue (cutPurge s)

/-- Clear a removed record's rows: its queue entries, and its running stroke with the dose handed over (R82, R76). -/
def sprayClear (tag : Nat) (s : State) : State :=
  let t := s.setSpray { s.spray with queue := s.spray.queue.filter (fun e => e.tag ≠ tag) }
  match t.spray.running with
  | .stroke r =>
    if r.tag = tag then serveQueue (updateRecord tag (Record.addDose r.deliveredNow) (haltTraverse t)) else t
  | .idle => t
  | .purge _ _ => t

/-- The homing or reposition phase of a stroke ends (R77, R72). -/
def strokePhaseEnds (s : State) : State :=
  match s.spray.running with
  | .stroke r =>
    match r.phase with
    | .homing =>
      let next : StrokePhase := if r.startEnd = 0 then .crossing else .reposition
      s.setSpray { s.spray with position := some 0, running := .stroke { r with phase := next, elapsed := 0 } }
    | .reposition =>
      s.setSpray { s.spray with position := some r.startEnd,
                                running := .stroke { r with phase := .crossing, elapsed := 0 } }
    | .crossing => s
  | .idle => s
  | .purge _ _ => s

/-- The column of the next cell that the nozzle enters (R78). -/
def Stroke.nextColumn (r : Stroke) : Nat := if r.startEnd ≤ r.farEnd then r.first + r.entered else r.last - r.entered

/-- A stroke whose open cell, if any, has delivered its whole open time. -/
def Stroke.settleCell (r : Stroke) : Stroke :=
  match r.openTime with
  | some t => { r with delivered := r.delivered + t, openTime := none }
  | none => r

/-- The nozzle enters the next cell of the crossing (R78), under the interlock of R80. -/
def cellEntered (s : State) : State :=
  match s.spray.running with
  | .stroke r =>
    if r.phase = .crossing ∧ r.entered < r.last + 1 - r.first then
      let level := s.cellLevel r.buffer r.row r.nextColumn
      let opens := decide (level ≠ 0) && s.extr.state.sound
      let q := { r.settleCell with
        entered := r.entered + 1
        openTime := if opens then some (openTimeOf s.traverseSpeed level) else none
        cellElapsed := 0 }
      s.setSpray { s.spray with running := .stroke q, sprayOpen := opens }
    else s
  | .idle => s
  | .purge _ _ => s

/-- A cell's open time ends and the valve closes (R78). -/
def valveTimeEnds (s : State) : State :=
  match s.spray.running with
  | .stroke r =>
    if r.openTime.isSome then s.setSpray { s.spray with running := .stroke r.settleCell, sprayOpen := false } else s
  | .idle => s
  | .purge _ _ => s

/-- Stroke completion (R79). -/
def strokeCompletes (s : State) : State :=
  match s.spray.running with
  | .stroke r =>
    if r.phase = .crossing then
      let t := s.setSpray { s.spray with position := some r.farEnd, running := .idle, sprayOpen := false }
      serveQueue (sprayRow r.tag r.buffer (s.spanDose r) t)
    else s
  | .idle => s
  | .purge _ _ => s

/-- A taken PURGE: RUNNING, parking, or flushing at once when the traverse stands at 0 (R85, R86). -/
def beginPurge (s : State) : State :=
  if s.spray.position = some 0 then
    s.setSpray { s.spray with running := .purge .flush 0, purge := .running, purgeOpen := s.extr.state.sound }
  else s.setSpray { s.spray with running := .purge .park 0, purge := .running }

/-- The park move of a purge ends (R86). -/
def purgeParks (s : State) : State :=
  match s.spray.running with
  | .purge .park _ =>
    s.setSpray { s.spray with position := some 0, running := .purge .flush 0, purgeOpen := s.extr.state.sound }
  | .purge .flush _ => s
  | .idle => s
  | .stroke _ => s

/-- The purge time ends (R86). -/
def purgeCompletes (s : State) : State :=
  match s.spray.running with
  | .purge .flush _ =>
    serveQueue (s.setSpray { s.spray with position := some 0, running := .idle, purgeOpen := false, purge := .completed })
  | .purge .park _ => s
  | .idle => s
  | .stroke _ => s

end Sys2Proof.Machine
end

