-- ==== Sys2Proof/Machine/Heaters.lean ====
section
/-! DEFINITION. The Heater Loops (R89 to R111): setpoints, activity, the loop update, bands, the Power Share, firing. What the
trips and watches do to the mode is in Machine/Delivery.lean. -/

namespace Sys2Proof.Machine

/-- Change the Heater Loops' items. -/
def State.setHeat (s : State) (x : Heaters) : State := { s with heat := x }

/-- Change one zone record. -/
def State.updZone (s : State) (k : ZoneId) (f : Zone → Zone) : State :=
  s.setHeat { s.heat with zones := s.heat.zones.set k (f (s.heat.zones.get k)) }

/-- Change every zone record. -/
def State.mapZones (s : State) (f : ZoneId → Zone → Zone) : State :=
  s.setHeat { s.heat with zones := s.heat.zones.mapZones f }

/-- A zone record. -/
def State.zone (s : State) (k : ZoneId) : Zone := s.heat.zones.get k

/-! ### Setpoints (R91) -/

/-- A zone's setpoint in force: the standby setpoint in STANDBY, the setpoint in every other mode; 0 with no active set. -/
def State.zoneSetpoint (s : State) (k : ZoneId) : Nat :=
  if s.modes.mode = .standby then s.activeField (·.zoneStandby k) else s.activeField (·.zone k)

/-- A zone's working setpoint (R91). -/
def State.zoneWorking (s : State) (k : ZoneId) : Int :=
  if s.zoneSetpoint k = 0 then 0 else (s.zoneSetpoint k : Int) + (s.zone k).trim

/-- The pot's setpoint in force, which is its working setpoint (R91). -/
def State.potSetpoint (s : State) : Nat :=
  if s.modes.mode = .standby then s.activeField (·.potStandby) else s.activeField (·.pot)

/-- A zone takes part in warm-up when its setpoint in the active set is not 0 (R4). -/
def State.takesPart (s : State) (k : ZoneId) : Bool := s.activeField (·.zone k) != 0

/-! ### Activity (R93) -/

/-- The warm-up stage while a warm-up record is present. -/
def State.stage? (s : State) : Option WarmStage := s.modes.warm.map (·.stage)

/-- Whether the pot loop is active (R93). -/
def State.potActive (s : State) : Bool :=
  match s.modes.mode with
  | .warmup => s.stage? == some .melt || s.stage? == some .zones || s.stage? == some .settle
  | .ready | .run | .drain | .hold | .standby | .calibrating => true
  | .idle | .safe => false

/-- Whether a zone is fitted with a working thermocouple: rating not 0 and PRESENT (R102). -/
def State.zoneWatched (s : State) (k : ZoneId) : Bool :=
  s.zoneRating k != 0 && (s.zone k).presence == .present

/-- Whether a zone loop is active (R93). -/
def State.zoneActive (s : State) (k : ZoneId) : Bool :=
  s.potActive && s.zoneWatched k && (s.zone k).started && s.zoneWorking k != 0

/-- An inactive zone loop: demand, integral and grant 0, cut mark clear (R93). -/
def Zone.inactive (z : Zone) : Zone := { z with demand := 0, integral := 0, grant := 0, cut := false }

/-- An inactive pot loop (R93). -/
def PotLoop.inactive (p : PotLoop) : PotLoop := { p with demand := 0, integral := 0, grant := 0, cut := false }

/-- Bring every inactive loop to its rest (R93). -/
def settleLoops (s : State) : State :=
  s.setHeat { s.heat with
    zones := s.heat.zones.mapZones (fun k z => if s.zoneActive k then z else z.inactive)
    pot := if s.potActive then s.heat.pot else s.heat.pot.inactive }

/-! ### The loop update (R94, R95) -/

/-- The error of a loop, clamped (R94). -/
def loopError (sp t : Int) : Int := clampInt (-500) 500 (sp - t)

/-- The demand of a loop from its error, integral and boost (R94). -/
def loopDemand (p : LoopParams) (e : Int) (integral boost : Nat) : Nat :=
  (clampInt 0 255 (Int.tdiv (p.kp * e) 64 + Int.tdiv (p.ki * integral) 1024 + boost)).toNat

/-- The integral of a loop after its update (R95). -/
def loopIntegral (p : LoopParams) (e : Int) (integral demand : Nat) (cut low : Bool) : Nat :=
  if low then integral
  else if 0 < e ∧ (demand = 255 ∨ cut) then integral
  else (clampInt 0 p.iMax ((integral : Int) + e)).toNat

/-- Whether the heater supply is low (R107). -/
def State.supplyLow (s : State) : Bool := s.condition .supplyLow

/-- A zone loop takes a FRESH temperature (R94, R95). -/
def updateZoneLoop (k : ZoneId) (t : Int) (s : State) : State :=
  let z := s.zone k
  let p := s.zoneParams k
  let e := loopError (s.zoneWorking k) t
  let d := loopDemand p e z.integral z.boost
  s.updZone k (fun z => { z with demand := d, integral := loopIntegral p e z.integral d z.cut s.supplyLow })

/-- The pot loop takes a FRESH temperature (R94, R95). -/
def updatePotLoop (t : Int) (s : State) : State :=
  let z := s.heat.pot
  let p := s.potParams
  let e := loopError s.potSetpoint t
  let d := loopDemand p e z.integral 0
  s.setHeat { s.heat with
    pot := { z with demand := d, integral := loopIntegral p e z.integral d z.cut s.supplyLow } }

/-- A zone's result becomes STALE or OPEN: an active loop's demand and grant become 0 (R96). -/
def cutZoneLoop (k : ZoneId) (s : State) : State := s.updZone k (fun z => { z with demand := 0, grant := 0 })

/-- The pot's result becomes STALE or OPEN (R96). -/
def cutPotLoop (s : State) : State :=
  s.setHeat { s.heat with pot := { s.heat.pot with demand := 0, grant := 0 } }

/-! ### Bands (R110) -/

/-- Whether a temperature slot lies within a band of a working setpoint that is not 0 (R110). DEDUCED (log 42): the pot with the
working setpoint 0 is not in band either. -/
def inBand (x : Slot) (sp : Int) (band : Nat) : Bool :=
  match x.freshValue with
  | some t => sp != 0 && decide (sp - band ≤ t) && decide (t ≤ sp + band)
  | none => false

/-- Whether a zone is in band. -/
def State.zoneInBand (s : State) (k : ZoneId) : Bool :=
  inBand (s.slot (zoneIndex k)) (s.zoneWorking k) (s.zoneParams k).band

/-- Whether the pot is in band. -/
def State.potInBand (s : State) : Bool := inBand (s.slot 6) s.potSetpoint s.potParams.band

/-! ### Burst frames and the Power Share (R97 to R100) -/

/-- What is available to the zones after the pot (R98). -/
def shareAvailable (budget potRating potGrant : Nat) : Nat := budget * 256 - potRating * potGrant

/-- A zone's grant from its demand, the zones' use and what is available (R98). -/
def shareGrant (available use demand : Nat) : Nat := if use ≤ available then demand else demand * available / use

/-- The sum over the zones of rating × drive (R98). -/
def State.zoneUse (s : State) (drive : Zone → Nat) : Nat :=
  (allZones.map (fun k => s.zoneRating k * drive (s.zone k))).sum

/-- Every grant is forced to 0 (R98). -/
def State.forcedZero (s : State) : Bool := s.modes.mode == .idle || s.modes.mode == .safe || s.supplyLow

/-- The grants of the Power Share (R98). -/
def shareGrants (s : State) : State :=
  if s.forcedZero then
    s.setHeat { s.heat with
      zones := s.heat.zones.mapZones (fun _ z => { z with grant := 0 })
      pot := { s.heat.pot with grant := 0 } }
  else
    let a := shareAvailable s.budget s.potRating s.heat.pot.demand
    let u := s.zoneUse (·.demand)
    s.setHeat { s.heat with
      zones := s.heat.zones.mapZones (fun _ z => { z with grant := shareGrant a u z.demand })
      pot := { s.heat.pot with grant := s.heat.pot.demand } }

/-- The cut marks at a frame start (R100). -/
def setCutMarks (s : State) : State :=
  s.setHeat { s.heat with
    zones := s.heat.zones.mapZones (fun _ z => { z with cut := decide (z.grant < z.demand) })
    pot := { s.heat.pot with cut := decide (s.heat.pot.grant < s.heat.pot.demand) } }

/-- Whether slot `n` fires at a grant (R99). -/
def slotFires (grant n : Nat) : Bool := decide (n * grant / 256 < (n + 1) * grant / 256)

/-- The heater outputs of the current slot (R99). DEDUCED (log 43): an output is on or off for a whole slot, so a grant cut
within a slot ends the firing with that slot. -/
def fireSlot (s : State) : State :=
  s.setHeat { s.heat with
    potFiring := slotFires s.heat.pot.grant s.heat.frameSlot
    zoneFiring := s.heat.zones.mapZones (fun _ z => slotFires z.grant s.heat.frameSlot) }

/-- A new burst frame begins (R97, R98, R100). -/
def startFrame (s : State) : State :=
  fireSlot (setCutMarks (shareGrants (s.setHeat { s.heat with frameSlot := 0 })))

/-- The end of a half-cycle slot (R97). -/
def slotEnds (s : State) : State :=
  if s.heat.frameSlot < 255 then fireSlot (s.setHeat { s.heat with frameSlot := s.heat.frameSlot + 1 })
  else startFrame s

/-- Every grant becomes 0 within the frame (R107). -/
def zeroGrants (s : State) : State :=
  s.setHeat { s.heat with
    zones := s.heat.zones.mapZones (fun _ z => { z with grant := 0 })
    pot := { s.heat.pot with grant := 0 } }

/-- The sum over all seven loads of rating × grant (R98, R109). -/
def State.totalUse (s : State) : Nat := s.potRating * s.heat.pot.grant + s.zoneUse (·.grant)

/-! ### The supply watch (R107) and the marks -/

/-- Whether the supply counts as low by channel 10 in the present mode (R107). -/
def State.supplyJudged (s : State) : Bool :=
  let below := match (s.slot 10).freshValue with
    | some v => s.configured && decide (v < s.param 35)
    | none => false
  if s.modes.mode = .idle then below else below || (s.slot 10).freshValue.isNone

/-- Judge the supply where no mode can follow: appear with every grant 0, or disappear (R107). -/
def judgeSupply (s : State) : State :=
  if s.supplyJudged then zeroGrants (conditionAppears .supplyLow s) else conditionEnds .supplyLow s

/-- Whether some zone is marked WARM_FAIL (R9). -/
def State.anyWarmFail (s : State) : Bool := allZones.any (fun k => (s.zone k).warmFail)

/-- Whether some zone's over mark is set (R105). -/
def State.anyOver (s : State) : Bool := allZones.any (fun k => (s.zone k).overMark)

/-- Clear every WARM_FAIL mark, which ends ZONE_WARM_FAIL (R9). -/
def clearWarmFail (s : State) : State :=
  conditionEnds .zoneWarmFail (s.mapZones (fun _ z => { z with warmFail := false }))

/-- Set the started marks anew from the standby setpoints (R2, R20). -/
def startStandbyZones (s : State) : State :=
  s.mapZones (fun k z => { z with started := s.activeField (·.zoneStandby k) != 0 })

/-- The zone marks at entry into IDLE: started and WARM_FAIL marks, over marks and trims (R3, R92, R105). -/
def idleMarks (s : State) : State :=
  conditionEnds .zoneOvertemp (clearWarmFail
    (s.mapZones (fun _ z => { z with started := false, trim := 0, overMark := false })))

/-- The zones' boosts from the records overlapping them (R46). -/
def giveBoosts (s : State) : State :=
  s.mapZones (fun k z => { z with
    boost := if s.zoneRating k = 0 then 0
      else ((s.tracker.records.filter (fun r => r.zonesIn.get k)).map (fun r => (s.recipeOf r.slot).boost)).foldl max 0 })

end Sys2Proof.Machine
end

