-- ==== Sys2Proof/Machine/Pot.lean ====
section
/-! DEFINITION. The Pot Controller's wave output, drive-change hold, wave drive and feeder (R119 to R124, R131 to R136). -/

namespace Sys2Proof.Machine

/-- Change the Pot Controller's pot items. -/
def State.setPot (s : State) (x : PotCtl) : State := { s with pot := x }
/-- Change the Pot Controller's wave items. -/
def State.setWave (s : State) (x : Wave) : State := { s with wave := x }

/-- The contact finger input as it stands at an event that shows its level (R138, R143, log 8). -/
def readFinger (wetted : Bool) (s : State) : State := s.setWave { s.wave with finger := wetted }

/-! ### The drive-change hold (R120) -/

/-- The distance between two drives. -/
def driveGap (a b : Nat) : Nat := (a - b) + (b - a)

/-- The drive-change watch at a new output (R120): a qualifying change starts the hold and makes a LIVE standing HELD. -/
def watchDrive (threshold new : Nat) (p : PotCtl) : PotCtl :=
  if threshold ≤ driveGap new p.refDrive then
    { p with refDrive := new, driveHold := some 0, standing := if p.standing = .live then .held else p.standing }
  else p

/-- A record that overlaps the wave window takes a new output into its min and max (R48). -/
def Record.takeDrive (out : Nat) (r : Record) : Record :=
  if r.inWave then
    { r with wave := match r.wave with
      | some (lo, hi) => some (min lo out, max hi out)
      | none => some (out, out) }
  else r

/-- Put a value on the wave output; a change is handed to the drive-change watch and to the Tracker (R135). -/
def driveWave (out : Nat) (s : State) : State :=
  if out = s.wave.output then s
  else mapRecords (Record.takeDrive out)
    { s with wave := { s.wave with output := out }, pot := watchDrive s.driveThreshold out s.pot }

/-- The wave is on in RUN, DRAIN and HOLD (R131). -/
def Mode.waveOn : Mode → Bool
  | .run | .drain | .hold => true
  | .idle | .warmup | .ready | .standby | .calibrating | .safe => false

/-- The wave output that the table of R131 gives. -/
def State.waveTarget (s : State) : Nat :=
  if !s.pot.molten then 0
  else if s.modes.mode.waveOn then s.wave.computed.getD 0
  else match s.modes.mode, s.wave.phase with
    | .calibrating, .search _ test _ => test
    | _, _ => 0

/-- Bring the wave output to what R131 gives. -/
def waveSync (s : State) : State := driveWave s.waveTarget s

/-! ### The computed drive (R132 to R134) -/

/-- The raw drive of R132: D_ref and the steps for the height difference, rounded toward plus infinity. -/
def rawDrive (dRef : Nat) (lRef : Int) (height finger rise : Nat) (level : Int) : Int :=
  dRef + ceilDiv (((height : Int) - finger + lRef - level) * 100) rise

/-- The computed drive and its side from a raw drive (R132). -/
def clampDrive (dMin : Nat) (raw : Int) : Nat × WaveSide :=
  if 255 < raw then (255, .high)
  else if raw < dMin then (dMin, .low)
  else (raw.toNat, .none)

/-- WAVE_SHORT on a record that overlaps the wave window (R49). -/
def Record.waveShort (r : Record) : Record := if r.inWave then r.except .waveShort else r

/-- Judge the WAVE_LIMIT side (R134); a change to HIGH reaches the overlapping records (R49). -/
def judgeSide (side : WaveSide) (s : State) : State :=
  let t := s.setWave { s.wave with side := side }
  let u := if side = .none then conditionEnds .waveLimit t else conditionAppears .waveLimit t
  if side = .high ∧ s.wave.side ≠ .high then mapRecords Record.waveShort u else u

/-- The computation of R132 at a level. -/
def computeDrive (level : Int) (s : State) : State :=
  let pair := s.wave.cal.pair.getD (0, 0)
  let raw := rawDrive pair.1 pair.2 (s.activeField (·.waveHeight)) (s.param 76) (s.param 77) level
  let d := clampDrive s.minDrive raw
  let t := judgeSide d.2 s
  waveSync (t.setWave { t.wave with computed := some d.1 })

/-- The level that the turn-on computation takes: the estimate while it is valid, else L_ref (R133). -/
def State.turnOnLevel (s : State) : Int :=
  match s.pot.standing with
  | .invalid => (s.wave.cal.pair.getD (0, 0)).2
  | .held | .live => s.pot.level.getD 0

/-- The wave at a mode change: turn-on (R133), turn-off (R136), or no change of the wave. -/
def waveAtMode (old new : Mode) (s : State) : State :=
  if new.waveOn ∧ ¬ old.waveOn then computeDrive s.turnOnLevel s
  else if old.waveOn ∧ ¬ new.waveOn then
    judgeSide .none (waveSync (s.setWave { s.wave with computed := none }))
  else waveSync s

/-! ### The feeder (R122 to R124) -/

/-- Stop the feeder (R123). -/
def stopFeeder (s : State) : State := s.setPot { s.pot with feeder := .off }

/-- Whether the feeder may start on a LIVE value (R122, conditions 1, 3 and 4). -/
def State.feedWanted (s : State) (v : Int) : Bool :=
  s.pot.feeder == .off && s.potActive && decide (v < s.param 82) && !s.inForce .feedFault

/-- The start test of R122 at an update that delivered the value `v` with the standing LIVE. -/
def feedTest (v : Int) (s : State) : State :=
  if s.feedWanted v then s.setPot { s.pot with feeder := .running v 0 } else s

/-- The start test of R122 on the estimate as it stands. -/
def feedTestNow (s : State) : State :=
  match s.pot.standing, s.pot.level with
  | .live, some v => feedTest v s
  | _, _ => s

/-- The feeder at an update that delivered the value `v` with the standing LIVE (R122, R123, R124). -/
def feedUpdate (v : Int) (s : State) : State :=
  match s.pot.feeder with
  | .running base _ =>
    if (s.param 83 : Int) ≤ v then stopFeeder s
    else if base + (s.param 88 : Int) ≤ v then s.setPot { s.pot with feeder := .running v 0 }
    else s
  | .off => feedTest v s

/-- The feeder at a change of the pot loop's activity: stopped while inactive, tested while active (R122, R123). -/
def feedAtActivity (s : State) : State := if s.potActive then feedTestNow s else stopFeeder s

/-- What follows a change of mode, stage, marks or setpoints at the loops and the feeder (R93, R122, R123). -/
def afterLoops (s : State) : State := feedAtActivity (settleLoops s)

/-! ### The soak (R115, R116) -/

/-- A soak in progress is discarded and waits for melt-safe afresh (R115). -/
def Soak.interrupted : Soak → Soak
  | .soaking _ => .waiting
  | .waiting => .waiting
  | .none => .none

/-- The soak at a FRESH result at or above melt-safe (R115). -/
def Soak.atMelt : Soak → Soak
  | .waiting => .soaking 0
  | .soaking t => .soaking t
  | .none => .none

end Sys2Proof.Machine
end

