-- ==== Sys2Proof/Machine/Extract.lean ====
section
/-! DEFINITION. The Extraction Monitor (R144 to R153): fan command, suction class, timers, state changes, filter watch. What a
state change does to the mode is in Machine/Warmup.lean. -/

namespace Sys2Proof.Machine

/-- Change the Extraction Monitor's items. -/
def State.setExtr (s : State) (x : Extraction) : State := { s with extr := x }

/-- The duct is qualifying: STRONG with the feedback present (R146). -/
def Extraction.qualifying (e : Extraction) : Bool := e.suction == .strong && e.feedback
/-- The duct is below warn (R146). -/
def Extraction.belowWarn (e : Extraction) : Bool := e.suction == .weak || e.suction == .lost
/-- The duct is below fail (R146). -/
def Extraction.belowFail (e : Extraction) : Bool := e.suction == .lost
/-- The feedback is lost (R146). -/
def Extraction.feedbackLost (e : Extraction) : Bool := e.fan && !e.feedback

/-- A timer of a state's set: it runs while its test holds (R147). -/
def runWhile (holds : Bool) (t : Option Nat) : Option Nat := if holds then some (t.getD 0) else none

/-- The timers of the present state by their tests; a timer outside the state's set is absent (R147). -/
def Extraction.retime (e : Extraction) : Extraction :=
  match e.state with
  | .off => { e with prove := none, qualify := none, recover := none, warn := none, fail := none, feedbackTimer := none }
  | .proving => { e with prove := some (e.prove.getD 0), qualify := runWhile e.qualifying e.qualify, recover := none,
                         warn := none, fail := none, feedbackTimer := none }
  | .proven => { e with prove := none, qualify := none, recover := none, warn := runWhile e.belowWarn e.warn,
                        fail := runWhile e.belowFail e.fail,
                        feedbackTimer := runWhile e.feedbackLost e.feedbackTimer }
  | .warn => { e with prove := none, qualify := none, recover := runWhile (!e.belowWarn) e.recover, warn := none,
                      fail := runWhile e.belowFail e.fail,
                      feedbackTimer := runWhile e.feedbackLost e.feedbackTimer }
  | .failed => { e with prove := none, qualify := runWhile e.qualifying e.qualify, recover := none, warn := none,
                        fail := none, feedbackTimer := none }

/-- Take a new state: between PROVEN and WARN the fail and feedback timers keep their values, every other timer starts anew
(R147, R148). -/
def Extraction.enter (new : ExtState) (e : Extraction) : Extraction :=
  let keep := e.state.sound && new.sound
  Extraction.retime { e with
    state := new, prove := none, qualify := none, recover := none, warn := none,
    fail := if keep then e.fail else none, feedbackTimer := if keep then e.feedbackTimer else none }

/-- The grace timer when EXTRACT_FAIL's condition is judged: it starts at the entry's going ACTIVE and is discarded, with
forced standby due, when the condition ends (R151); it needs a configured grace time (R144). -/
def Extraction.graceAt (failed configured : Bool) (e : Extraction) : Extraction :=
  if failed then
    match e.grace with
    | .absent => { e with grace := if configured then .running 0 else .absent }
    | .running _ => e
    | .expired _ => e
  else { e with grace := .absent, forcedDue := false }

/-- Judge a condition where no mode can follow (R166). -/
def judgeQuiet (k : AlarmKind) (present : Bool) (s : State) : State :=
  if present then conditionAppears k s else conditionEnds k s

/-- A change of the extraction state at the monitor, its alarms and the Spray Controller (R148, R149, R150, R151). -/
def changeExtraction (new : ExtState) (s : State) : State :=
  let was := s.extr.state
  let t := s.setExtr ((s.extr.enter new).graceAt (new == .failed) s.configured)
  let u := judgeQuiet .extractFail (new == .failed) (judgeQuiet .extractWarn (new == .warn) t)
  if was.sound ∧ ¬ new.sound then sprayExtractionLost u else u

/-- The fan command that R145 gives. -/
def State.fanWanted (s : State) : Bool :=
  match s.modes.mode with
  | .idle => s.pot.fumeHot
  | _ => true

/-- Set the fan command (R145); turning on begins PROVING, turning off makes the state OFF and discards the clog timer (R152). -/
def fanSync (s : State) : State :=
  if s.fanWanted = s.extr.fan then s
  else if s.fanWanted then changeExtraction .proving (s.setExtr { s.extr with fan := true })
  else changeExtraction .off (s.setExtr { s.extr with fan := false, clog := none })

/-- The suction class of a FRESH suction (R146). -/
def suctionOf (pProve pWarn pFail : Nat) (v : Int) : Suction :=
  if (pProve : Int) ≤ v then .strong
  else if (pWarn : Int) ≤ v then .adequate
  else if (pFail : Int) ≤ v then .weak
  else .lost

/-- Update the suction class, and with it the timers (R146, R147). -/
def takeSuction (c : Suction) (s : State) : State := s.setExtr (Extraction.retime { s.extr with suction := c })

/-- The filter watch at a FRESH result of channel 9 (R152). -/
def watchFilter (v : Int) (s : State) : State :=
  if s.extr.fan && s.configured then
    if (s.param 95 : Int) < v then
      if s.condition .filterClog then s
      else s.setExtr { s.extr with clog := some (s.extr.clog.getD 0) }
    else conditionEnds .filterClog (s.setExtr { s.extr with clog := none })
  else s

/-- The fan-run feedback changes (R146, R147). -/
def takeFeedback (b : Bool) (s : State) : State := s.setExtr (Extraction.retime { s.extr with feedback := b })

end Sys2Proof.Machine
end

