-- ==== Sys2Proof/Machine/Modes.lean ====
section
/-! DEFINITION. The Mode Controller (R1 to R25): entry into a mode with its effects on every block, drains, forced standby, and
the effect of alarm severity on the mode. Warm-up is in Machine/Warmup.lean. -/

namespace Sys2Proof.Machine

/-- Change the Mode Controller's items. -/
def State.setModes (s : State) (x : ModeCtl) : State := { s with modes := x }
/-- Change the Board Tracker's items. -/
def State.setTracker (s : State) (x : Tracker) : State := { s with tracker := x }

/-! ### Entry into a mode -/

/-- The Mode Controller's own items at entry into a mode (R3, R14, R18, R20, R21, R23). A hold's return mode and a drain's
target are set by the entry operations below. -/
def ModeCtl.enter (new : Mode) (molten : Bool) (c : ModeCtl) : ModeCtl :=
  match new with
  | .idle => { c with mode := .idle, drain := .none, holdPending := false, ret := .none, holdTimer := 0, meltKept := false,
                      warm := none }
  | .safe => { c with mode := .safe, drain := .none, holdPending := false, ret := .none, holdTimer := 0, meltKept := false,
                      warm := none }
  | .standby => { c with mode := .standby, drain := .none, holdPending := false, ret := .none, holdTimer := 0,
                         meltKept := molten, warm := none }
  | .ready => { c with mode := .ready, drain := .none, holdPending := false, ret := .none, holdTimer := 0, warm := none }
  | .run => { c with mode := .run, drain := .none, ret := .none, holdTimer := 0, warm := none }
  | .drain => { c with mode := .drain, ret := .none, holdTimer := 0, warm := none }
  | .hold => { c with mode := .hold, holdPending := false, holdTimer := 0, warm := none }
  | .calibrating => { c with mode := .calibrating, drain := .none, holdPending := false, ret := .none, holdTimer := 0,
                             warm := none }
  | .warmup => { c with mode := .warmup, drain := .none, holdPending := false, ret := .none, holdTimer := 0 }

/-- The conveyor command that R29 gives. -/
def State.conveyorWanted (s : State) : Bool :=
  match s.modes.mode with
  | .ready | .run | .drain => true
  | .safe => !s.tracker.records.isEmpty
  | .idle | .warmup | .standby | .calibrating | .hold => false

/-- The conveyor speed reference while the command is RUN (R29). -/
def State.speedReference (s : State) : Nat := min 255 (roundDiv (s.activeField (·.speed) * 256) s.fullSpeed)

/-- Set the conveyor command and the speed reference (R29); a change begins or abandons the speed window (R30). -/
def conveyorSync (s : State) : State :=
  if s.conveyorWanted = s.tracker.conveyorRun then s
  else if s.conveyorWanted then
    s.setTracker { s.tracker with conveyorRun := true, speedRef := s.speedReference, windowCounts := 0, windowFirst := true }
  else conditionEnds .conveyorDev
    (s.setTracker { s.tracker with conveyorRun := false, speedRef := 0, windowCounts := 0, windowFirst := true,
                                   outsideRun := 0, insideRun := 0 })

/-- The end of the warm-up at a mode change: POT_WARM_FAIL's condition ends (R7) and the soak is withdrawn (R116). -/
def leaveWarmup (s : State) : State :=
  conditionEnds .potWarmFail (s.setPot { s.pot with soak := .none })

/-- The marks and conditions that an entry into IDLE, STANDBY or SAFE changes (R3, R9, R20, R23, R118). -/
def entryMarks (new : Mode) (s : State) : State :=
  match new with
  | .idle => conditionEnds .potCold (idleMarks s)
  | .standby => conditionEnds .potCold (clearWarmFail (startStandbyZones s))
  | .safe => clearWarmFail s
  | .warmup | .ready | .run | .drain | .hold | .calibrating => s

/-- A calibration search fails with a cause, its mode change apart (R141). -/
def failSearch (cause : CalCause) (s : State) : State :=
  eventOccurs .calFail (waveSync (s.setWave { s.wave with phase := .none, outcome := .failed, cause := cause }))

/-- A search in progress fails at entry into SAFE (R141). -/
def searchAtSafe (s : State) : State :=
  match s.wave.phase with
  | .search _ _ _ => failSearch .safeAlarm s
  | .none | .writing _ _ => s

/-- SAFE_PASS on every record that overlaps the wave window at entry into SAFE (R49). -/
def passAtSafe (s : State) : State := mapRecords (fun r => if r.inWave then r.safePass else r) s

/-- The gate closes at entry into SAFE (R23, R37), IDLE (R3), READY (R14) and STANDBY (R20). -/
def closeGate (s : State) : State := s.setTracker { s.tracker with gateOpen := false }

/-- The Board Tracker at a mode entry: the gate closed in IDLE, READY, STANDBY and SAFE (R3, R14, R20, R23), and SAFE_PASS at
SAFE (R49). -/
def trackAtMode (new : Mode) (s : State) : State :=
  match new with
  | .idle | .ready | .standby => closeGate s
  | .safe => passAtSafe (closeGate s)
  | .warmup | .run | .drain | .hold | .calibrating => s

/-- The Spray Controller at a mode entry (R83, R87). -/
def sprayAtMode (new : Mode) (s : State) : State :=
  match new with
  | .safe => spraySafe s
  | .idle | .warmup | .calibrating =>
    match s.spray.running with
    | .purge _ _ => serveQueue (cutPurge s)
    | .idle => s
    | .stroke _ => s
  | .ready | .run | .drain | .hold | .standby => s

/-- The supply is judged at a mode change into or out of IDLE (R107). -/
def supplyAtMode (old new : Mode) (s : State) : State :=
  if (old = .idle) = (new = .idle) then s else judgeSupply s

/-- Entry into a mode, with the effects of every block within the event. -/
def setMode (new : Mode) (s : State) : State :=
  let old := s.modes.mode
  let s1 := s.setModes (s.modes.enter new s.pot.molten)
  let s2 := if old = .warmup ∧ new ≠ .warmup then leaveWarmup s1 else s1
  let s3 := fanSync (supplyAtMode old new (entryMarks new s2))
  let s4 := sprayAtMode new s3
  let s5 := waveAtMode old new (if new = .safe then searchAtSafe s4 else s4)
  afterLoops (conveyorSync (trackAtMode new s5))

/-! ### Drains and forced standby (R16, R20, R25) -/

/-- The mode that a drain target leads to. -/
def DrainTarget.mode : DrainTarget → Mode
  | .none => .ready
  | .ready => .ready
  | .standby => .standby
  | .idle => .idle

/-- Enter DRAIN with a target; hold-pending keeps its value (R16, R19, R22, R25). -/
def toDrain (t : DrainTarget) (s : State) : State :=
  setMode .drain (s.setModes { s.modes with drain := t })

/-- Drain completion: the Transit Table is empty in DRAIN (R16). -/
def drainCompletes (s : State) : State :=
  if s.modes.mode = .drain ∧ s.tracker.records = [] then setMode s.modes.drain.mode s else s

/-- Forced standby acts by the mode (R25). -/
def forceStandby (s : State) : State :=
  match s.modes.mode with
  | .ready => setMode .standby s
  | .run => drainCompletes (toDrain .standby s)
  | .drain => if s.modes.drain = .ready then s.setModes { s.modes with drain := .standby } else s
  | .hold => drainCompletes (toDrain (if s.modes.drain = .idle then .idle else .standby) s)
  | .idle | .warmup | .standby | .calibrating | .safe => s

/-- READY, RUN, DRAIN and HOLD, in which forced standby acts (R25, R151). -/
def Mode.forcible : Mode → Bool
  | .ready | .run | .drain | .hold => true
  | .idle | .warmup | .standby | .calibrating | .safe => false

/-- Forced standby acts where it is due and the mode lets it (R25, R151). -/
def forcedTest (s : State) : State :=
  if s.extr.forcedDue && s.modes.mode.forcible then
    forceStandby (s.setExtr { s.extr with forcedDue := false })
  else s

/-- The drain completion test (R16). -/
def drainTest (s : State) : State := forcedTest (drainCompletes s)

/-- Enter READY (R14). -/
def enterReady (s : State) : State := forcedTest (setMode .ready s)

/-- Enter RUN from READY, DRAIN or HOLD (R15, R18). -/
def enterRun (s : State) : State := forcedTest (setMode .run s)

/-- Enter DRAIN with a target and make the completion test at once (R16). -/
def enterDrain (t : DrainTarget) (s : State) : State := drainTest (toDrain t s)

/-- Enter HOLD from RUN or DRAIN; a target held from DRAIN is kept (R17, R18). -/
def enterHold (s : State) : State :=
  let back : ReturnMode := if s.modes.mode = .drain then .drain else .run
  forcedTest (setMode .hold (s.setModes { s.modes with ret := back }))

/-! ### Severity and the mode (R22, R23) -/

/-- An alarm of a severity has gone ACTIVE or occurred. -/
def react (sev : Severity) (s : State) : State :=
  match sev with
  | .notice => s
  | .stop => if s.modes.mode = .run then enterDrain .ready s else s
  | .safe => if s.modes.mode = .safe then s else setMode .safe s

/-- The condition of `k` appears, and its severity acts, unless it is present already (R166, R22, R23). -/
def raise (k : AlarmKind) (s : State) : State :=
  if s.condition k then s else react (severity k) (conditionAppears k s)

/-- One occurrence of an event alarm, whose severity acts (R167, R22). -/
def occur (k : AlarmKind) (s : State) : State := react (severity k) (eventOccurs k s)

/-- Judge a condition: it appears with its severity's effect, or disappears (R166). -/
def judge (k : AlarmKind) (present : Bool) (s : State) : State :=
  if present then raise k s else conditionEnds k s

end Sys2Proof.Machine
end

