-- ==== Sys2Proof/Machine/Warmup.lean ====
section
/-! DEFINITION. The warm-up sequence (R4 to R13) and what a change of the extraction state does to the mode (R6, R22, R150). -/

namespace Sys2Proof.Machine

/-- Change the warm-up record while it is present. -/
def State.updWarm (s : State) (f : WarmUp → WarmUp) : State := s.setModes { s.modes with warm := s.modes.warm.map f }

/-- A warm-up record as a START creates it (R4, R13). -/
def WarmUp.fresh : WarmUp :=
  { stage := .extraction, cursor := some .z1, zonesEntered := false, timers := Six.same .unstarted, melt := 0,
    meltExpired := false, meltReached := false, settle := 0 }

/-- Every zone is unstarted (R4, R13). -/
def unstartZones (s : State) : State := s.mapZones (fun _ z => { z with started := false })

/-! ### Zones (R8, R9) -/

/-- Start one zone: its started mark, and its warm timer at 0, stopped at once when the zone is in band already (log 9). -/
def startZone (k : ZoneId) (s : State) : State :=
  let t := s.updZone k (fun z => { z with started := true })
  t.updWarm (fun w => { w with timers := w.timers.set k (if s.zoneInBand k then .stopped else .running 0) })

/-- Move the cursor over the zones ahead of it: start the next zone that takes part, and go on while that zone is in band
already; with no further zone the cursor is past the last (R8). -/
def advanceCursor : List ZoneId → State → State
  | [], s => s.updWarm (fun w => { w with cursor := none })
  | k :: ks, s =>
    if s.takesPart k then
      let t := (startZone k s).updWarm (fun w => { w with cursor := some k })
      if s.zoneInBand k then advanceCursor ks t else t
    else advanceCursor ks s

/-- A running warm timer is stopped by band entry (R8). -/
def WarmTimer.atBand : WarmTimer → WarmTimer
  | .running _ => .stopped
  | .unstarted => .unstarted
  | .stopped => .stopped

/-- Band entries: a started zone in band has its warm timer stopped and its mark cleared; the last mark cleared ends
ZONE_WARM_FAIL (R8, R9). -/
def bandEntries (s : State) : State :=
  let t := s.updWarm (fun w => { w with
    timers := w.timers.mapZones (fun k x => if (s.zone k).started && s.zoneInBand k then x.atBand else x) })
  let u := t.mapZones (fun k z => if z.started && s.zoneInBand k then { z with warmFail := false } else z)
  if s.anyWarmFail && !u.anyWarmFail then conditionEnds .zoneWarmFail u else u

/-- The cursor moves on when the zone at it has had its warm timer stopped (R8). -/
def moveCursor (s : State) : State :=
  match s.modes.warm with
  | some w =>
    match w.stage, w.cursor with
    | .zones, some k => if w.timers.get k = .stopped then advanceCursor (zonesAfter k) s else s
    | _, _ => s
  | none => s

/-! ### Settle (R10) -/

/-- The SETTLE entry condition (R10). -/
def State.settleReady (s : State) : Bool :=
  allZones.all (fun k => !s.takesPart k || (s.zone k).started)
    && allZones.all (fun k => !(s.zone k).started || s.zoneInBand k || (s.zone k).warmFail)
    && s.potInBand

/-- The pot and every started zone are in band (R10). -/
def State.allInBand (s : State) : Bool :=
  s.potInBand && allZones.all (fun k => !(s.zone k).started || s.zoneInBand k)

/-- The SETTLE entry test, and the settle timer set back by a loop out of band (R10). -/
def settleTest (s : State) : State :=
  match s.stage? with
  | some .zones => if s.settleReady then s.updWarm (fun w => { w with stage := .settle, settle := 0 }) else s
  | some .settle => if s.allInBand then s else s.updWarm (fun w => { w with settle := 0 })
  | some .extraction => s
  | some .melt => s
  | none => s

/-- What every band entry and exit, zone start and mark does to a warm-up (R8, R9, R10). -/
def warmSweep (s : State) : State :=
  if s.modes.mode = .warmup then afterLoops (settleTest (moveCursor (bandEntries s))) else s

/-! ### Stages (R5, R7, R12, R13) -/

/-- Enter stage MELT: the melt timer at 0 and a melt soak asked for (R7, R12, R115). -/
def enterMelt (s : State) : State :=
  let t := s.updWarm (fun w => { w with stage := .melt, melt := 0, meltExpired := false, meltReached := false, settle := 0 })
  afterLoops (t.setPot { t.pot with soak := .waiting })

/-- Enter stage ZONES: for the first time with the cursor's first zone, or again with the cursor where it stood (R8, R12). -/
def enterZones (s : State) : State :=
  let entered := match s.modes.warm with
    | some w => w.zonesEntered
    | none => true
  let t := s.updWarm (fun w => { w with stage := .zones, zonesEntered := true })
  warmSweep (if entered then t else advanceCursor allZones t)

/-- Enter stage ZONES of a recovery that passes over MELT: every zone that takes part started together (R13). -/
def enterZonesTogether (s : State) : State :=
  let t := s.mapZones (fun k z => { z with started := s.takesPart k })
  let u := t.updWarm (fun w => { w with
    stage := .zones, cursor := none, zonesEntered := true,
    timers := w.timers.mapZones (fun k _ => if s.takesPart k then .running 0 else .unstarted) })
  warmSweep (settleLoops u)

/-- Stage EXTRACTION ends (R5, R13). -/
def endExtraction (s : State) : State := if s.modes.meltKept then enterZonesTogether s else enterMelt s

/-- The warm-up looks at the extraction state: abort at FAILED, end of stage EXTRACTION at PROVEN or WARN (R5, R6). -/
def warmExtraction (s : State) : State :=
  if s.modes.mode = .warmup then
    if s.extr.state = .failed then setMode .idle s
    else if s.extr.state.sound && s.stage? == some .extraction then endExtraction s
    else s
  else s

/-- A taken START: the warm-up record, the mode WARMUP, and what the extraction state does at once (R4 to R6, R13). -/
def beginWarmup (s : State) : State :=
  let t := if s.modes.mode = .standby && s.modes.meltKept then s else unstartZones s
  warmExtraction (setMode .warmup (t.setModes { t.modes with warm := some WarmUp.fresh }))

/-- POT_MOLTEN has become false: the warm-up's and STANDBY's part of it (R12, R13, R20). -/
def warmMoltenLost (s : State) : State :=
  match s.modes.mode with
  | .standby => s.setModes { s.modes with meltKept := false }
  | .warmup =>
    match s.stage? with
    | some .zones => enterMelt s
    | some .settle => enterMelt s
    | some .extraction => settleLoops (unstartZones (s.setModes { s.modes with meltKept := false }))
    | some .melt => s
    | none => s
  | .idle | .ready | .run | .drain | .hold | .calibrating | .safe => s

/-! ### The extraction state reaches the mode (R6, R22, R149, R150) -/

/-- A change of the extraction state with everything it reaches. -/
def extractionTo (new : ExtState) (s : State) : State :=
  let t := changeExtraction new s
  let u := if new = .failed ∧ s.condition .extractFail = false then react .stop t else t
  warmExtraction u

/-! ### Timers of the warm-up -/

/-- The melt timer reaches twice the melt soak time (R7). -/
def meltTimerExpires (s : State) : State :=
  match s.modes.warm with
  | some w =>
    if w.stage = .melt ∧ w.meltExpired = false ∧ s.supplyLow = false then
      let t := s.updWarm (fun w => { w with meltExpired := true })
      if w.meltReached then t else raise .potWarmFail t
    else s
  | none => s

/-- A zone warm timer reaches the zone warm timeout (R8, R9). -/
def zoneTimesOut (k : ZoneId) (s : State) : State :=
  match s.modes.warm with
  | some w =>
    match w.timers.get k with
    | .running _ =>
      if (w.stage = .zones ∨ w.stage = .settle) ∧ s.supplyLow = false then
        let t := s.updWarm (fun w => { w with timers := w.timers.set k .stopped })
        warmSweep (raise .zoneWarmFail (t.updZone k (fun z => { z with warmFail := true })))
      else s
    | .unstarted => s
    | .stopped => s
  | none => s

/-- The settle timer reaches the settle time (R10). -/
def settleEnds (s : State) : State :=
  if s.stage? = some .settle ∧ s.allInBand = true ∧ s.supplyLow = false then enterReady s else s

/-- The soak timer reaches the melt soak time (R115); it ends stage MELT (R7). -/
def soakCompletes (s : State) : State :=
  match s.pot.soak with
  | .soaking _ =>
    if s.supplyLow then s
    else
      let t := s.setPot { s.pot with molten := true, soak := .none }
      if t.stage? = some .melt then enterZones (conditionEnds .potWarmFail t) else t
  | .none => s
  | .waiting => s

end Sys2Proof.Machine
end

