-- ==== Sys2Proof/Machine/Delivery.lean ====
section
/-! DEFINITION. What the owner of a channel does with a result or a stale marking (R161): the zone loops and their watches, the
pot loop, the molten state, the level estimate, the duct, the filter, the supply and the flux pressure. -/

namespace Sys2Proof.Machine

/-! ### Zone watches (R104, R105) -/

/-- Judge ZONE_SENSOR from the last delivered results; after a RESTART its first judgement waits until every watched zone has
delivered one (R104, R108). -/
def judgeSensor (s : State) : State :=
  let watched := allZones.filter s.zoneWatched
  let open? := watched.any (fun k => (s.zone k).last == .opened)
  let complete := watched.all (fun k => (s.zone k).last != .none)
  if s.heat.sensorWaits && !complete then s
  else judge .zoneSensor open? (s.setHeat { s.heat with sensorWaits := false })

/-- The reference of a zone's over mark, if it has one (R105). -/
def State.overReference (s : State) (k : ZoneId) : Option Int :=
  match s.activeSet? with
  | some t =>
    let sp := max (t.zone k) (t.zoneStandby k)
    if sp = 0 then none else some ((sp : Int) + (s.zone k).trim)
  | none => none

/-- Judge a zone's over mark at a FRESH temperature, and with it ZONE_OVERTEMP (R105). -/
def judgeOver (k : ZoneId) (t : Int) (s : State) : State :=
  if s.modes.mode ≠ .idle ∧ s.zoneWatched k = true then
    match s.overReference k with
    | some r =>
      let u := s.updZone k (fun z => { z with overMark := decide (r + s.zoneMargin k < t) })
      judge .zoneOvertemp u.anyOver u
    | none => s
  else s

/-- Note the standing of a zone's delivered result (R104). -/
def noteResult (k : ZoneId) (x : LastResult) (s : State) : State := s.updZone k (fun z => { z with last := x })

/-- A zone's channel delivers its slot as it stands (R94, R96, R104, R105, R110). -/
def deliverZone (k : ZoneId) (s : State) : State :=
  let x := s.slot (zoneIndex k)
  match x.standing, x.value with
  | .fresh, some t =>
    let a := noteResult k .closed (if s.zoneActive k then updateZoneLoop k t s else s)
    warmSweep (judgeSensor (judgeOver k t a))
  | .fresh, none => s
  | .opened, _ => warmSweep (judgeSensor (noteResult k .opened (if s.zoneActive k then cutZoneLoop k s else s)))
  | .stale, _ => warmSweep (if s.zoneActive k then cutZoneLoop k s else s)

/-! ### The pot (R94, R96, R106, R113 to R118) -/

/-- Judge POT_OVERTEMP from its two parts (R106). -/
def judgePotTrip (s : State) : State := judge .potOvertemp (s.heat.pot.tripInput || s.heat.pot.overMark) s

/-- Set or clear the pot over mark, and judge POT_OVERTEMP (R106). -/
def setPotOver (b : Bool) (s : State) : State :=
  judgePotTrip (s.setHeat { s.heat with pot := { s.heat.pot with overMark := b } })

/-- With no configuration record the pot over mark is clear (R106). -/
def clearPotOver (s : State) : State := setPotOver false s

/-- The pot loop takes channel 6 (R94, R96, R106). -/
def deliverPotLoop (x : Slot) (s : State) : State :=
  match x.standing, x.value with
  | .fresh, some t =>
    setPotOver (s.configured && decide ((s.param 74 : Int) < t)) (if s.potActive then updatePotLoop t s else s)
  | .fresh, none => s
  | .opened, _ => if s.potActive then cutPotLoop s else s
  | .stale, _ => if s.potActive then cutPotLoop s else s

/-- Set the fume signal at a judgement, and hand a change to the Extraction Monitor (R113, R114, R145). -/
def judgeFume (hot : Bool) (s : State) : State := fanSync (s.setPot { s.pot with fumeHot := hot, fumeJudged := true })

/-- The wave pump runs at its computed drive (R118). -/
def coldIfWaveOn (s : State) : State := if s.modes.mode.waveOn then raise .potCold s else s

/-- POT_MOLTEN becomes false, with everything that R117 lists. -/
def moltenLost (s : State) : State :=
  let a := waveSync (stopFeeder (s.setPot { s.pot with molten := false, standing := .invalid, feeder := .off }))
  let b := match a.wave.phase with
    | .search _ _ _ => enterReady (failSearch .potNotMolten a)
    | .none => a
    | .writing _ _ => a
  warmMoltenLost (coldIfWaveOn b)

/-- A pot result at or above melt-safe: POT_COLD and POT_WARM_FAIL end, and the soak runs (R7, R115, R118). -/
def potAtMelt (s : State) : State :=
  let a := conditionEnds .potWarmFail (conditionEnds .potCold s)
  (a.setPot { a.pot with soak := a.pot.soak.atMelt }).updWarm (fun w => { w with meltReached := true })

/-- The soak in progress is interrupted (R115). -/
def soakInterrupted (s : State) : State := s.setPot { s.pot with soak := s.pot.soak.interrupted }

/-- The molten state and the soak take channel 6 (R115, R117, R118); melt-safe needs a configuration record. -/
def deliverMelt (x : Slot) (s : State) : State :=
  match x.standing, x.value with
  | .fresh, some t =>
    if ¬ s.configured then s
    else if (s.meltSafe : Int) ≤ t then potAtMelt s
    else
      let a := soakInterrupted s
      if a.pot.molten = true ∧ t < (s.meltSafe : Int) - 50 then moltenLost a else a
  | .fresh, none => s
  | .opened, _ =>
    let a := soakInterrupted s
    if a.pot.molten then moltenLost a else a
  | .stale, _ => soakInterrupted s

/-- Whether channel 6 makes the fume signal HOT (R113). -/
def fumeHotBy (off : Nat) (x : Slot) : Bool :=
  match x.freshValue with
  | some t => decide ((off : Int) ≤ t)
  | none => true

/-- Channel 6 delivers its slot to its two owners (R161). -/
def deliverPot (s : State) : State :=
  let x := s.slot 6
  warmSweep (deliverMelt x (judgeFume (fumeHotBy s.fumeOff x) (deliverPotLoop x s)))

/-! ### The level (R119, R121, R126) -/

/-- Judge LEVEL_LOW at a LIVE value (R126). DEDUCED (log 17): with no configuration record there is no minimum level, and no
judgement is made. -/
def judgeLevel (v : Int) (s : State) : State :=
  if ¬ s.configured then s
  else if s.condition .levelLow then (if (s.param 84 : Int) + 10 < v then conditionEnds .levelLow s else s)
  else if v < (s.param 84 : Int) then raise .levelLow s else s

/-- The wave drive takes a LIVE level while the wave is on (R133). -/
def waveAtLevel (v : Int) (s : State) : State := if s.modes.mode.waveOn then computeDrive v s else s

/-- Channel 7 delivers its slot (R119, R121): an update is handed to the wave drive, to LEVEL_LOW and to the feeder. -/
def deliverLevel (s : State) : State :=
  let x := s.slot 7
  match x.standing, x.value with
  | .fresh, some v =>
    if s.pot.molten = true ∧ s.pot.driveHold = none then
      feedUpdate v (judgeLevel v (waveAtLevel v (s.setPot { s.pot with level := some v, standing := .live })))
    else s
  | .fresh, none => s
  | _, _ => s.setPot { s.pot with standing := if s.pot.standing = .live then .held else s.pot.standing }

/-! ### Duct, filter, supply, flux pressure (R146, R152, R107, R84) -/

/-- Channel 8 delivers its slot (R146). -/
def deliverDuct (s : State) : State :=
  takeSuction (match (s.slot 8).freshValue with
    | some v => suctionOf s.pProve s.pWarn s.pFail v
    | none => .lost) s

/-- Channel 9 delivers its slot (R152). -/
def deliverFilter (s : State) : State :=
  match (s.slot 9).freshValue with
  | some v => watchFilter v s
  | none => s.setExtr { s.extr with clog := none }

/-- Channel 10 delivers its slot (R107). -/
def deliverSupply (s : State) : State :=
  if s.supplyJudged then (if s.supplyLow then s else raise .supplyLow (zeroGrants s)) else conditionEnds .supplyLow s

/-- Channel 11 delivers its slot (R84). -/
def deliverFluxPressure (s : State) : State :=
  match (s.slot 11).freshValue with
  | some v => if s.configured && decide ((s.minFluxPressure : Int) ≤ v) then conditionEnds .fluxPressLow s else s
  | none => s

/-- Tell the owner of a channel of its slot as it stands (R161). -/
def deliver (ch : Nat) (s : State) : State :=
  match zoneAt ch with
  | some k => deliverZone k s
  | none =>
    match ch with
    | 6 => deliverPot s
    | 7 => deliverLevel s
    | 8 => deliverDuct s
    | 9 => deliverFilter s
    | 10 => deliverSupply s
    | 11 => deliverFluxPressure s
    | _ => s

end Sys2Proof.Machine
end

