-- ==== Sys2Proof/Machine/Tracker.lean ====
section
/-! DEFINITION. The Board Tracker's events (R28, R30, R36 to R42, R44 to R54): encoder steps and stage events, admissions, the
entry and exit sensors, and the making of a report. -/

namespace Sys2Proof.Machine

/-! ### Spans (R44) -/

/-- A span in mm along the conveyor; its start may lie before the entry sensor. -/
structure SpanMm where
  a : Int
  b : Int
  deriving DecidableEq, Repr

/-- The span of a zone (R46). -/
def State.zoneSpan (s : State) (k : ZoneId) : SpanMm := { a := s.zoneStart k, b := s.zoneEnd k }

/-- The wave window (R48). -/
def State.waveSpan (s : State) : SpanMm :=
  { a := (s.waveCentre : Int) - s.waveHalf, b := (s.waveCentre : Int) + s.waveHalf }

/-- Where a board stands against a span: whether it overlaps it, and whether its trailing edge is at or beyond the end. -/
structure Overlap where
  inside : Bool
  past : Bool
  deriving DecidableEq, Repr

/-- The overlap test at a leading edge `d` and a board length in counts (R44). -/
def overlapTest (k : Nat) (w : SpanMm) (d len : Int) : Overlap :=
  { inside := decide (w.a * k < d) && decide (d - len < w.b * k), past := decide (w.b * k ≤ d - len) }

/-- The mark of an overlap after a test: `again` lets an overlap begin that has ended before (R40, R44). -/
def overlapMark (again : Bool) (o : Overlap) (marked done : Bool) : Bool :=
  if marked then !o.past else o.inside && (again || !done)

/-! ### Stage events of one record (R45 to R49) -/

/-- The compositor's lookup at a row due event (R65 to R67). -/
def rowDue (tag row : Nat) (b : BufferId) (s : State) : State :=
  match s.maps.buffers.get b with
  | none => s
  | some m =>
    if m.composing then skipRow tag b .fluxLate 0 s
    else
      match m.spans.getD row none with
      | none => sprayRow tag b 0 s
      | some (first, last) =>
        rowArrives { tag := tag, buffer := b, row := row, front := s.counts (s.sprayLine + 10 * row), first := first,
                     last := last } s

/-- Issue the row due events of a record, in row order, for at most `n` rows (R45). -/
def dueRows : Nat → Nat → State → State
  | 0, _, s => s
  | n + 1, tag, s =>
    match s.record? tag with
    | none => s
    | some r =>
      match s.position r with
      | none => s
      | some d =>
        if r.nextRow < r.rowsTotal ∧ s.counts (s.sprayLine + 10 * r.nextRow) ≤ d then
          let t := updateRecord tag (fun r => { r with nextRow := r.nextRow + 1 }) s
          dueRows n tag (match r.buffer with
            | some b => rowDue tag r.nextRow b t
            | none => t)
        else s

/-- The sample point of a record that a leading edge `d` stands on, if any: its index, where d − Y × K is that many times
20 × K (R47). -/
def State.samplePoint? (s : State) (d : Int) : Option Nat :=
  let past := d - s.counts s.pyroLine
  let step := s.counts 20
  if 0 ≤ past ∧ past % step = 0 then some (past / step).toNat else none

/-- The tracker acts at sample point `n`, with its sample if it has one; the next-sample index moves on to the point after it
(R47). -/
def Record.passPoint (n : Nat) (v : Option Int) (r : Record) : Record :=
  { r with nextSample := n + 1
           peak := match v, r.peak with
             | none, p => p
             | some x, none => some x
             | some x, some p => some (max p x) }

/-- The pyrometer evaluation against the recipe's exit window (R47). -/
def Record.evaluate (recipe : Recipe) (r : Record) : Record :=
  let marked := { r with pyroDone := true }
  match r.peak with
  | none => marked.except .notMeasured
  | some p =>
    if p < recipe.exitMin then marked.except .tempLow
    else if recipe.exitMax < p then marked.except .tempHigh
    else marked

/-- Sample point `n` is crossed, once in the life of the record (R28). The tracker acts at it only while the trailing edge is
`ahead` of reaching the line (R47). DEDUCED (log 37): a point crossed without that is crossed for good. -/
def Record.crossPoint (n : Nat) (ahead : Bool) (v : Option Int) (r : Record) : Record :=
  if r.pointsCrossed ≤ n then
    let q := { r with pointsCrossed := n + 1 }
    if ahead then q.passPoint n v else q
  else r

/-- The pyrometer part of a forward step (R47): the sample point that the step stands on, then the evaluation. -/
def pyroStep (s : State) (d len : Int) (r : Record) : Record :=
  let ahead := decide (d - len < s.counts s.pyroLine)
  let q := match s.samplePoint? d with
    | some n => r.crossPoint n ahead (s.slot 12).freshValue
    | none => r
  if ahead || r.pyroDone then q else q.evaluate (s.recipeOf r.slot)

/-- The marks of the zones that a record overlaps (R46). -/
def zoneMarks (s : State) (again : Bool) (d len : Int) (r : Record) : Record :=
  let test := fun k => overlapTest s.kScale (s.zoneSpan k) d len
  { r with
    zonesIn := r.zonesIn.mapZones (fun k m =>
      s.zoneRating k != 0 && overlapMark again (test k) m (r.zonesDone.get k))
    zonesDone := r.zonesDone.mapZones (fun k e => e || (r.zonesIn.get k && (test k).past)) }

/-- What the beginning of a wave window overlap takes: the output, and the exceptions of R49 (R48). -/
def Record.meetWave (out : Nat) (high safe : Bool) (r : Record) : Record :=
  let a := { r with inWave := true, wave := some (out, out) }
  let b := if high then a.except .waveShort else a
  if safe then b.safePass else b

/-- The wave window part of a test (R48, R49). DEDUCED (log 41): a window that begins before the entry sensor is met at the first
forward step after the entry edge. -/
def waveMark (s : State) (again : Bool) (d len : Int) (r : Record) : Record :=
  let o := overlapTest s.kScale s.waveSpan d len
  if r.inWave then (if o.past then { r with inWave := false, waveDone := true } else r)
  else if overlapMark again o false r.waveDone then
    r.meetWave s.wave.output (s.wave.side == .high) (s.modes.mode == .safe)
  else r

/-- The stage events of one record at a forward step, its rows apart (R46 to R49). -/
def stageStep (s : State) (r : Record) : Record :=
  match s.position r with
  | some d =>
    let len := s.boardCounts r
    waveMark s false d len (zoneMarks s false d len (pyroStep s d len r))
  | none => r

/-- The stage events of the records with the given tags, oldest first (R45 to R49; log 34). -/
def stageEvents : List Nat → State → State
  | [], s => s
  | tag :: rest, s =>
    let t := match s.record? tag with
      | some r => dueRows (r.rowsTotal - r.nextRow) tag s
      | none => s
    stageEvents rest (updateRecord tag (stageStep t) t)

/-- The wave window clear event, if the window was occupied before: a pending hold enters HOLD (R17, R48). -/
def waveClearTest (occupied : Bool) (s : State) : State :=
  if occupied && !s.waveOccupied && s.modes.holdPending then enterHold s else s

/-! ### From record to report (R54) -/

/-- Count the unresolved rows of a record as skipped (step 1 of R54). -/
def Record.skipUnresolved (r : Record) : Record :=
  let n := r.unresolved
  if n = 0 then r else { r with skipped := r.skipped + n, exc := r.exc.add .fluxSkip n }

/-- Every overlap of a record ends (step 3 of R54). -/
def Record.endOverlaps (r : Record) : Record := { r with zonesIn := Six.same false, inWave := false }

/-- The outcome of a report (R54). -/
def outcomeOf (lost : Bool) (e : ExcList) : ReportOutcome :=
  if lost then .lost else if e.items = [] ∧ e.more = false then .good else .flagged

/-- The report of a record (R54, R172). -/
def makeReport (number time : Nat) (lost : Bool) (r : Record) : Report :=
  { number := number, tag := r.tag, slot := r.slot, outcome := outcomeOf lost r.exc, sprayed := r.sprayed,
    skipped := r.skipped, dose := r.dose, peak := r.peak, wave := r.wave, measured := r.measured, exc := r.exc,
    exitTime := time }

/-- A report joins the Report Queue (R172), the attention flag and the ALERT output (R174, R175). -/
def joinReport (p : Report) (s : State) : State :=
  { s with reports := { queue := s.reports.queue ++ [p], next := (s.reports.next + 1) % 65536 }
           alert := s.alert.onReport }

/-- Step 5 of R54: the report of the record as it stands, and its removal. -/
def reportRecord (tag : Nat) (lost : Bool) (s : State) : State :=
  match s.record? tag with
  | some r => joinReport (makeReport s.reports.next s.seconds lost r) (dropRecord tag s)
  | none => s

/-- Release the buffer that a record still names (step 4 of R54). -/
def releaseOwned (tag : Nat) (s : State) : State :=
  match (s.record? tag).bind (·.buffer) with
  | some b => releaseBuffer b s
  | none => s

/-- A record leaves the Transit Table as a report, by the five steps of R54; then the drain test (R16) and the conveyor (R29). -/
def removeAsReport (tag : Nat) (lost : Bool) (s : State) : State :=
  let occupied := s.waveOccupied
  let s1 := updateRecord tag Record.skipUnresolved (sprayClear tag s)
  let s2 := updateRecord tag (fun r => if r.pyroDone then r else r.evaluate (s1.recipeOf r.slot)) s1
  let s3 := waveClearTest occupied (giveBoosts (updateRecord tag Record.endOverlaps s2))
  conveyorSync (drainTest (reportRecord tag lost (releaseOwned tag s3)))

/-! ### Exit limits (R52, R53) -/

/-- The far end of the exit window in counts. -/
def State.exitLimit (s : State) : Int := s.counts (s.exitLine + s.exitTol)

/-- The oldest matched record whose trailing edge is at or beyond the exit limit (R52). -/
def State.overrun? (s : State) : Option Record :=
  s.tracker.records.find? (fun r => r.matched && (match s.position r with
    | some d => decide (s.exitLimit ≤ d - s.boardCounts r)
    | none => false))

/-- Matched records that overran the exit sensor leave as reports with TRACK_LOST (R52). -/
def overrunExits : Nat → State → State
  | 0, s => s
  | n + 1, s =>
    match s.overrun? with
    | some r => overrunExits n (occur .trackLost (removeAsReport r.tag false s))
    | none => s

/-- The oldest record that is not exit matched, if its position is past the exit limit (R53). -/
def State.missing? (s : State) : Option Record :=
  match s.tracker.records.find? (fun r => !r.matched) with
  | some r => match s.position r with
    | some d => if s.exitLimit < d then some r else none
    | none => none
  | none => none

/-- Unmatched records past the exit limit leave as LOST reports with BOARD_MISSING (R53). -/
def missingExits : Nat → State → State
  | 0, s => s
  | n + 1, s =>
    match s.missing? with
    | some r => missingExits n (occur .boardMissing (removeAsReport r.tag true s))
    | none => s

/-! ### Encoder steps (R28) -/

/-- Count a step: the encoder count, and the speed window in progress (R28, R30). -/
def countStep (forward : Bool) (s : State) : State :=
  s.setTracker { s.tracker with
    count := if forward then s.tracker.count + 1 else s.tracker.count - 1
    windowCounts := s.tracker.windowCounts + (if s.tracker.conveyorRun then (if forward then 1 else -1) else 0) }

/-- Everything that a forward step carries across a threshold (R44 to R53). DESIGN CHOICE (log 34): the stage events of every
record come first, then the boosts, the wave window clear event, the removals of R52 and those of R53. -/
def forwardEvents (s : State) : State :=
  let t := waveClearTest s.waveOccupied (giveBoosts (stageEvents s.tags s))
  missingExits t.tracker.records.length (overrunExits t.tracker.records.length t)

/-- A quadrature step of the encoder; a reverse step issues no stage event (R28). -/
def encoderSteps (forward : Bool) (s : State) : State :=
  if forward then forwardEvents (countStep true s) else countStep false s

/-! ### The speed window (R30) -/

/-- The measured speed of a window in mm/min, with the remainder discarded. -/
def windowSpeed (counts : Int) (k : Nat) : Int := Int.tdiv (counts * 60) k

/-- A window is outside when 20 times the difference exceeds v (R30). -/
def windowOutside (v : Nat) (m : Int) : Bool := decide ((v : Int) < 20 * (m - v).natAbs)

/-- The end of a speed window (R30). -/
def speedWindowEnds (s : State) : State :=
  if ¬ s.tracker.conveyorRun then s
  else if s.tracker.windowFirst then s.setTracker { s.tracker with windowCounts := 0, windowFirst := false }
  else
    let m := windowSpeed s.tracker.windowCounts s.kScale
    let out := windowOutside (s.activeField (·.speed)) m
    let o := if out then min 3 (s.tracker.outsideRun + 1) else 0
    let i := if out then 0 else min 3 (s.tracker.insideRun + 1)
    let t := s.setTracker { s.tracker with measuredSpeed := some m, windowCounts := 0, outsideRun := o, insideRun := i }
    if o = 3 then raise .conveyorDev t else if i = 3 then conditionEnds .conveyorDev t else t

/-! ### Admission (R36, R37) -/

/-- The gap condition (R36, condition 5). -/
def State.gapPassed (s : State) : Bool :=
  match s.tracker.gapRef with
  | some g => decide (s.counts s.gapMin ≤ (s.tracker.count - g).toInt)
  | none => true

/-- The nine conditions of R36. -/
def State.mayAdmit (s : State) : Bool :=
  s.modes.mode == .run && !s.modes.holdPending
    && s.tracker.stopper
    && !s.tracker.queue.isEmpty
    && s.tracker.admission.isNone
    && s.gapPassed
    && (freeBuffer s.maps).isSome
    && decide (s.tracker.records.length < Config.maxRecords)
    && decide (s.tracker.records.length + s.reports.queue.length < Config.maxReports)
    && !s.stopInForce
    && s.extr.state.sound

/-- A record as it joins at gate open (R34). -/
def newRecord (a : Announcement) (b : BufferId) (rows : Nat) : Record :=
  { tag := a.tag, slot := a.slot, orientation := a.orientation, stage := .entering, entry := none, measured := none,
    buffer := some b, rowsTotal := rows, sprayed := 0, skipped := 0, nextRow := 0, dose := 0, peak := none, nextSample := 0,
    pointsCrossed := 0, pyroDone := false, wave := none, zonesIn := Six.same false, zonesDone := Six.same false, inWave := false,
    waveDone := false, matched := false, exc := { items := [], more := false } }

/-- Gate open for an announcement into a buffer (R37, R58). -/
def openGate (a : Announcement) (rest : List Announcement) (b : BufferId) (s : State) : State :=
  let recipe := s.recipeOf a.slot
  let t := s.setTracker { s.tracker with
    queue := rest, records := s.tracker.records ++ [newRecord a b recipe.rows],
    admission := some { tag := a.tag, timer := some 0 }, gateOpen := true }
  compositionTest (takeBuffer b a.tag recipe t)

/-- The admission test (R36): the gate opens when all nine conditions hold. -/
def admissionTest (s : State) : State :=
  if s.mayAdmit then
    match s.tracker.queue, freeBuffer s.maps with
    | a :: rest, some b => openGate a rest b s
    | _, _ => s
  else s

/-! ### The entry sensor (R39 to R42) -/

/-- A rising edge of the entry sensor (R39, R42). DEDUCED (log 40): while the record of the admission is not ENTERING, or has left
the table, the edge is ignored. -/
def entryRises (s : State) : State :=
  match s.tracker.admission with
  | none => occur .trackLost s
  | some a =>
    match s.record? a.tag with
    | some r =>
      if r.stage = .entering then
        let t := updateRecord a.tag (fun r => { r with entry := some s.tracker.count, stage := .conveyed }) s
        t.setTracker { t.tracker with admission := some { a with timer := none } }
      else s
    | none => s

/-- The measured length of R40: counts to the nearest mm, halves up, from 0 to 65,535. -/
def measuredLength (counts : Int) (k : Nat) : Nat := min 65535 (roundDiv counts.toNat k)

/-- The length check of R40. -/
def Record.checkLength (recipe : Recipe) (m : Nat) (r : Record) : Record :=
  let t := { r with measured := some m }
  if m + recipe.tolerance < recipe.length ∨ recipe.length + recipe.tolerance < m then t.except .lengthMismatch else t

/-- Every overlap of a record is tested again with its measured length (R40, R44, R48). -/
def retest (s : State) (r : Record) : Record :=
  match s.position r with
  | some d => waveMark s true d (s.boardCounts r) (zoneMarks s true d (s.boardCounts r) r)
  | none => r

/-- The end of an admission at the trailing edge of its board (R40). -/
def endAdmission (tag : Nat) (d : Int) (s : State) : State :=
  let occupied := s.waveOccupied
  let a := updateRecord tag (fun r => r.checkLength (s.recipeOf r.slot) (measuredLength d s.kScale)) s
  let b := updateRecord tag (retest a) a
  let c := b.setTracker { b.tracker with gateOpen := false, gapRef := some s.tracker.count, admission := none }
  waveClearTest occupied (giveBoosts c)

/-- A falling edge of the entry sensor (R40, R42). DESIGN CHOICE (log 10): when the record of the admission has left the table
already, the edge ends the admission. -/
def entryFalls (s : State) : State :=
  match s.tracker.admission with
  | none => s
  | some a =>
    match s.record? a.tag with
    | some r =>
      if r.stage = .entering then occur .trackLost s
      else match s.position r with
        | some d => endAdmission r.tag d s
        | none => s
    | none =>
      s.setTracker { s.tracker with gateOpen := false, gapRef := some s.tracker.count, admission := none }

/-- The entry timer reaches the entry timeout (R38, R41). -/
def entryTimesOut (s : State) : State :=
  match s.tracker.admission with
  | some { tag := tag, timer := some _ } =>
    match s.record? tag with
    | some r =>
      if s.tracker.conveyorRun then
        let a := dropRecord tag (releaseOwned tag (closeGate s))
        let b := a.setTracker { a.tracker with
          queue := { tag := r.tag, slot := r.slot, orientation := r.orientation } :: a.tracker.queue, admission := none }
        conveyorSync (occur .entryTimeout (drainTest b))
      else s
    | none => s
  | some { tag := _, timer := none } => s
  | none => s

/-! ### The exit sensor (R51, R52) -/

/-- The oldest record that is not exit matched and lies in the exit window (R51). -/
def State.exitCandidate? (s : State) : Option Record :=
  s.tracker.records.find? (fun r => !r.matched && (match s.position r with
    | some d => decide (((s.exitLine : Int) - s.exitTol) * s.kScale ≤ d) && decide (d ≤ s.exitLimit)
    | none => false))

/-- A rising edge of the exit sensor (R51). -/
def exitRises (s : State) : State :=
  match s.exitCandidate? with
  | some r => updateRecord r.tag (fun r => { r with matched := true, stage := .exiting }) s
  | none => occur .trackLost s

/-- A falling edge of the exit sensor (R52). -/
def exitFalls (s : State) : State :=
  match s.tracker.records.find? (·.matched) with
  | some r => removeAsReport r.tag false s
  | none => s

/-! ### HELD_LONG (R19, R50) -/

/-- The hold timer reaches the hold limit (R19). -/
def holdLimitReached (s : State) : State :=
  if s.modes.mode = .hold then
    let t := mapRecords (Record.except .heldLong) s
    enterDrain (if s.modes.ret = .drain then s.modes.drain else .ready) t
  else s

end Sys2Proof.Machine
end

