-- ==== Sys2Proof/Machine/Scanner.lean ====
section
/-! DEFINITION. The Measurement Scanner's events (R102, R103, R156 to R164): the start-up pass, control conversions, stale
markings, the reference self-check and single-shot readings. -/

namespace Sys2Proof.Machine

/-- Change the Measurement Scanner's items. -/
def State.setScan (s : State) (x : Scanner) : State := { s with scan := x }

/-- The next channel of a range that wraps from 15 to 0, and returns to its start after its end (R157). -/
def nextChannel (first last ch : Nat) : Nat := if ch = last then first else (ch + 1) % 16

/-! ### Stale markings (R159 to R162) -/

/-- Mark the slots of some channels STALE; the values are kept (R160). -/
def markSlots : List Nat → State → State
  | [], s => s
  | ch :: rest, s => markSlots rest (s.setSlot ch { s.slot ch with standing := .stale })

/-- Tell the owners of some channels, one after another (R161). -/
def deliverAll : List Nat → State → State
  | [], s => s
  | ch :: rest, s => deliverAll rest (deliver ch s)

/-- The channels 0 to 15. -/
def allChannels : List Nat := List.range Config.channels

/-- The channels that a stale marking of those satisfying `p` marks: the ones that are not STALE already, and with channel 13
the FRESH ones of 0 to 6 (R159, R160). -/
def State.staleMarked (s : State) (p : Nat → Slot → Bool) : List Nat :=
  let due := fun ch => (s.slot ch).standing != .stale && p ch (s.slot ch)
  allChannels.filter (fun ch => due ch || (due 13 && decide (ch ≤ 6) && (s.slot ch).standing == .fresh))

/-- Mark STALE the channels that satisfy `p`, then tell their owners (R159 to R161). -/
def markStale (p : Nat → Slot → Bool) (s : State) : State :=
  deliverAll (s.staleMarked p) (markSlots (s.staleMarked p) s)

/-- The stale marking of one channel (R160). -/
def staleChannel (ch : Nat) (s : State) : State := markStale (fun c _ => c = ch) s

/-! ### The start-up pass (R102, R103, R156) -/

/-- Whether some zone carries a heater without a thermocouple (R103). -/
def State.anyMissing (s : State) : Bool :=
  allZones.any (fun k => s.zoneRating k != 0 && (s.zone k).presence == .absent)

/-- The outcome of the burnout test of one zone channel reaches the Heater Loops (R93, R102, R103). -/
def takePresence (k : ZoneId) (isOpen : Bool) (s : State) : State :=
  let t := settleLoops (s.updZone k (fun z => { z with presence := if isOpen then .absent else .present }))
  if t.anyMissing then raise .zoneMissing t else if k = .z6 then conditionEnds .zoneMissing t else t

/-- The activity after the start-up pass or a control conversion: SINGLE while a single shot is pending (R156, R163). -/
def Scanner.nextActivity (x : Scanner) : Activity := if x.single.isSome then .single else .control

/-- A burnout test of the start-up pass ends (R156). The pass runs from the end of the start-up check on. -/
def burnoutEnds (isOpen : Bool) (s : State) : State :=
  if s.scan.activity = .startUp ∧ s.store.checking = false then
    match zoneAt s.scan.burnout with
    | some k =>
      let t := takePresence k isOpen s
      t.setScan { t.scan with
        burnout := t.scan.burnout + 1, activity := if k = .z6 then t.scan.nextActivity else .startUp }
    | none => s
  else s

/-! ### Control conversions (R157 to R162) -/

/-- A reading outside the reference window, or over-range (R162). -/
def referenceOut : Option Int → Bool
  | some v => decide (v < 39200) || decide (40800 < v)
  | none => true

/-- The in-span value of a reading; channels 14 and 15 read in converter counts, of which 0 and 65,535 are over-range (R155,
R156). -/
def spanValue (ch : Nat) (r : Reading) : Option Int :=
  r.value.filter (fun v => decide (ch < 14) || (decide (0 < v) && decide (v < 65535)))

/-- What a conversion makes of a reading: a result to be stored, or none (R156, R158, R159). -/
def State.resultOf (s : State) (ch : Nat) (r : Reading) : Option (Option Int × Standing) :=
  if ch ≤ 6 then
    if r.circuitOpen then some (none, .opened)
    else match spanValue ch r, (s.slot 13).freshValue with
      | some v, some c => some (some (v + c), .fresh)
      | _, _ => none
  else (spanValue ch r).map (fun v => (some v, .fresh))

/-- Refresh a slot and deliver it (R160, R161). -/
def refresh (ch : Nat) (value : Option Int) (standing : Standing) (s : State) : State :=
  deliver ch (s.setSlot ch { value := value, standing := standing, refreshed := some s.uptime })

/-- The reference self-check at a conversion of channel 15 (R162). -/
def checkReference (v : Option Int) (s : State) : State :=
  if referenceOut v then
    if s.scan.refFault then s
    else markStale (fun ch _ => ch != 15) (s.setScan { s.scan with refFault := true })
  else s.setScan { s.scan with refFault := false }

/-- The end of the conversion of a channel: its slot, its delivery, and for channel 15 the self-check (R156 to R162). -/
def convert (ch : Nat) (r : Reading) (s : State) : State :=
  if ch = 15 then
    checkReference (spanValue 15 r) (match spanValue 15 r with
      | some v => refresh 15 (some v) .fresh s
      | none => s)
  else if s.scan.refFault then s
  else match s.resultOf ch r with
    | some (v, st) => refresh ch v st s
    | none => s

/-- The cursor and the activity after a control conversion (R157, R163). -/
def moveScan (s : State) : State :=
  s.setScan { s.scan with
    cursor := if s.scan.rescan then s.scanStart else nextChannel s.scanStart s.scanEnd s.scan.cursor
    rescan := false
    activity := s.scan.nextActivity }

/-- A control-scan conversion ends (R157). -/
def controlConversion (r : Reading) (s : State) : State :=
  if s.scan.activity = .control then convert s.scan.cursor r (moveScan s) else s

/-! ### Single shots (R163, R164) -/

/-- A taken MEASURE becomes the pending single shot (R163). -/
def beginSingle (first last : Nat) (s : State) : State :=
  s.setScan { s.scan with single := some { first := first, last := last, cursor := first, taken := [] } }

/-- A single-shot reading with its own standing (R163, R164). -/
def State.shotOf (s : State) (ch : Nat) (r : Reading) : ShotReading :=
  match s.resultOf ch r with
  | some (v, st) => { channel := ch, value := v, standing := st }
  | none => { channel := ch, value := none, standing := .stale }

/-! ### A new configuration record (R157, R160) -/

/-- The scanner takes a changed control range and stale time: the cursor's return, and the slots whose age exceeds the new
stale time (R157). -/
def scanReconfigured (s : State) : State :=
  let t := if s.scan.activity = .control then s.setScan { s.scan with rescan := true }
    else s.setScan { s.scan with cursor := s.scanStart }
  markStale (fun _ x => match x.refreshed with
    | some stamp => decide (millis s.staleMs < s.uptime - stamp)
    | none => false) t

/-- The scan range and the pass as the end of the start-up check leaves them (R155, R156). -/
def scanStarts (s : State) : State :=
  s.setScan { s.scan with cursor := s.scanStart, burnout := 0, activity := .startUp }

end Sys2Proof.Machine
end

