-- ==== Sys2Proof/Machine/Store.lean ====
section
/-! DEFINITION. The Recipe Store (R177, R178, R182 to R184) and the wave calibration, which writes to it (R137 to R142). -/

namespace Sys2Proof.Machine

/-- Change the Recipe Store's items. -/
def State.setStore (s : State) (x : Store) : State := { s with store := x }

/-! ### Items (R177, R183) -/

/-- An item after a successful write: VALID, its lock flag kept, or set after a write to a CORRUPT item (R183). -/
def Stored.write {α : Type} (x : Stored α) (a : α) : Stored α := { item := .valid a, lock := x.locked }

/-- A CORRUPT item; its lock flag counts as set (R177). -/
def Stored.corrupted {α : Type} : Stored α := { item := .corrupt, lock := true }

/-- Replace a recipe slot. -/
def StoreImage.setRecipe (m : StoreImage) (n : Nat) (x : Stored Recipe) : StoreImage := { m with recipes := m.recipes.set n x }
/-- Replace a thermal set. -/
def StoreImage.setSet (m : StoreImage) (n : Nat) (x : Stored ThermalSet) : StoreImage := { m with sets := m.sets.set n x }

/-- The item becomes CORRUPT. -/
def StoreImage.spoil (m : StoreImage) : StoreItem → StoreImage
  | .recipe n => m.setRecipe n Stored.corrupted
  | .thermal n => m.setSet n Stored.corrupted
  | .config => { m with config := .corrupt }
  | .calibration => { m with cal := .corrupt }

/-- The item that an operation works on. -/
def StoreOp.target : StoreOp → StoreItem
  | .writeRecipe n _ => .recipe n
  | .writeSet n _ => .thermal n
  | .writeConfig _ => .config
  | .writeCal _ _ => .calibration
  | .eraseRecipe n => .recipe n
  | .setLock item _ => item

/-- An image after an operation whose verify succeeds (R183). -/
def StoreImage.apply (m : StoreImage) : StoreOp → StoreImage
  | .writeRecipe n r => m.setRecipe n ((m.recipe n).write r)
  | .writeSet n t => m.setSet n ((m.set n).write t)
  | .writeConfig c => { m with config := .valid c }
  | .writeCal d l => { m with cal := .valid (d, l) }
  | .eraseRecipe n => m.setRecipe n Stored.blank
  | .setLock (.recipe n) b => m.setRecipe n { m.recipe n with lock := b }
  | .setLock (.thermal n) b => m.setSet n { m.set n with lock := b }
  | .setLock .config _ => m
  | .setLock .calibration _ => m

/-- An image after an operation (R183). -/
def StoreImage.finish (m : StoreImage) (op : StoreOp) (verified : Bool) : StoreImage :=
  if verified then m.apply op else m.spoil op.target

/-- Whether some item of an image is CORRUPT (R178). -/
def StoreImage.anyCorrupt (m : StoreImage) : Bool :=
  m.recipes.any (fun x => x.item = .corrupt) || m.sets.any (fun x => x.item = .corrupt)
    || decide (m.config = .corrupt) || decide (m.cal = .corrupt)

/-! ### In use (R182) -/

/-- A recipe slot is in use while an announcement or a record names it. -/
def State.recipeInUse (s : State) (n : Nat) : Bool :=
  s.tracker.queue.any (fun a => a.slot = n) || s.tracker.records.any (fun r => r.slot = n)

/-- A thermal set is in use while a recipe in use names it, or while it is the active set and the mode is not IDLE. -/
def State.setInUse (s : State) (n : Nat) : Bool :=
  s.tracker.queue.any (fun a => (s.recipeOf a.slot).set = n)
    || s.tracker.records.any (fun r => (s.recipeOf r.slot).set = n)
    || (decide (s.modes.activeSet = some n) && s.modes.mode != .idle)

/-! ### Acceptance (R182): the first check that fails -/

/-- A refusal: its code, and the index that a BAD_VALUE carries. -/
abbrev RefusalCode := ResultCode × Nat

/-- The first of a list of checks that fails; each is whether it holds, and the refusal it gives. -/
def firstRefusal : List (Bool × RefusalCode) → Option RefusalCode
  | [] => none
  | (okay, r) :: rest => if okay then firstRefusal rest else some r

/-- A BAD_VALUE check from a field fault. -/
def fieldCheck (fault : Option Nat) : Bool × RefusalCode := (fault.isNone, (.badValue, fault.getD 0))

/-- The checks of CONFIG_WRITE (R180, R182). -/
def configWriteChecks (c : ConfigRecord) (s : State) : List (Bool × RefusalCode) :=
  [(s.store.op.isNone, (.busy, 0)), (s.store.key, (.keyOff, 0)), fieldCheck (configFault c)]

/-- The checks of THERMAL_WRITE (R181, R182). -/
def thermalWriteChecks (n : Nat) (t : ThermalSet) (s : State) : List (Bool × RefusalCode) :=
  [(decide (n < Config.thermalSets), (.badValue, 0)), (s.store.op.isNone, (.busy, 0)),
   (s.store.key || !(s.store.work.set n).locked, (.locked, 0)), (!s.setInUse n, (.inUse, 0)), fieldCheck (thermalFault t)]

/-- The checks of RECIPE_WRITE (R181, R182). -/
def recipeWriteChecks (n : Nat) (f : RecipeFields) (s : State) : List (Bool × RefusalCode) :=
  [(decide (n < Config.recipeSlots), (.badValue, 0)), (s.store.op.isNone, (.busy, 0)),
   (s.store.key || !(s.store.work.recipe n).locked, (.locked, 0)), (!s.recipeInUse n, (.inUse, 0)),
   fieldCheck (recipeFault f)]

/-- The checks of RECIPE_ERASE (R182). -/
def recipeEraseChecks (n : Nat) (s : State) : List (Bool × RefusalCode) :=
  [(decide (n < Config.recipeSlots), (.badValue, 0)), (s.store.op.isNone, (.busy, 0)),
   (s.store.key || !(s.store.work.recipe n).locked, (.locked, 0)), (!s.recipeInUse n, (.inUse, 0))]

/-- The item that LOCK and UNLOCK name: kind 0 is a recipe slot, kind 1 a thermal set (R191). -/
def lockItem (kind number : Nat) : Option StoreItem :=
  if kind = 0 ∧ number < Config.recipeSlots then some (.recipe number)
  else if kind = 1 ∧ number < Config.thermalSets then some (.thermal number)
  else none

/-- Whether an item of an image is VALID. -/
def StoreImage.holds (m : StoreImage) : StoreItem → Bool
  | .recipe n => (m.recipe n).item.isValid
  | .thermal n => (m.set n).item.isValid
  | .config => m.config.isValid
  | .calibration => m.cal.isValid

/-- The refusal for an item that is not VALID (R182, check 7). -/
def unfitCode : StoreItem → ResultCode
  | .recipe _ => .badSlot
  | .thermal _ => .badSet
  | .config => .badSet
  | .calibration => .badSet

/-- The checks of LOCK and UNLOCK (R182). -/
def lockChecks (item : Option StoreItem) (s : State) : List (Bool × RefusalCode) :=
  [(item.isSome, (.badValue, 0)), (s.store.op.isNone, (.busy, 0)), (s.store.key, (.keyOff, 0)),
   (match item with
    | some i => s.store.work.holds i
    | none => true, ((item.map unfitCode).getD .badSlot, 0))]

/-- A store operation begins (R183). -/
def beginOp (op : StoreOp) (s : State) : State := s.setStore { s.store with op := some op }

/-! ### A new configuration record (R97, R103, R104, R111, R144, R157) -/

/-- The record is lost: what needs a value of it ends (R106, R151, R152, R180). -/
def configLost (s : State) : State :=
  clearPotOver (s.setExtr { s.extr with grace := .absent, clog := none })

/-- The blocks take a changed configuration record, or its loss, within the completion. -/
def configChanged (s : State) : State :=
  let a := startFrame s
  let b := judge .zoneMissing a.anyMissing a
  let c := judgeSensor (b.setHeat { b.heat with sensorWaits := false })
  scanReconfigured (if c.configured then c else configLost c)

/-! ### The calibration (R137 to R142) -/

/-- A taken WAVE_CAL (R137). -/
def beginSearch (s : State) : State :=
  setMode .calibrating (s.setWave { s.wave with
    phase := .search .down (s.param 79) 0, outcome := .running, cause := .none })

/-- A new test drive with the dwell restarted (R138). -/
def stepSearch (dir : Direction) (test : Nat) (s : State) : State :=
  waveSync (s.setWave { s.wave with phase := .search dir test 0 })

/-- The search fails in CALIBRATING, and the mode becomes READY (R141). -/
def searchFails (cause : CalCause) (s : State) : State := enterReady (failSearch cause s)

/-- A step up, or the failure at the top of the drive range (R138). -/
def climb (test : Nat) (s : State) : State :=
  if test + s.param 80 ≤ 255 then stepSearch .up (test + s.param 80) s else searchFails .noContact s

/-- The candidate drive is found (R139): its level is taken from a LIVE estimate, and the write begins (R140). -/
def candidateFound (test : Nat) (s : State) : State :=
  match s.pot.standing, s.pot.level with
  | .live, some l => beginOp (.writeCal test l) (waveSync (s.setWave { s.wave with phase := .writing test l }))
  | _, _ => searchFails .levelNotValid s

/-- A step dwell ends with a reading of the contact finger (R138). -/
def dwellEnds (wetted : Bool) (s : State) : State :=
  let t := readFinger wetted s
  match t.wave.phase with
  | .search .down test _ =>
    if wetted then
      if s.minDrive < test then stepSearch .down (max (test - s.param 80) s.minDrive) t else searchFails .wetAtMin t
    else climb test t
  | .search .up test _ => if wetted then candidateFound test t else climb test t
  | .none => t
  | .writing _ _ => t

/-- The search is aborted by a CAL_ABORT (R142). -/
def abortSearch (s : State) : State :=
  enterReady (waveSync (s.setWave { s.wave with phase := .none, outcome := .aborted }))

/-- The completion of the calibration write at the Pot Controller (R140). -/
def calWritten (d : Nat) (l : Int) (verified : Bool) (s : State) : State :=
  let t := s.setWave { s.wave with
    cal := { pair := some (d, l), valid := verified }, phase := .none, outcome := if verified then .ok else .storeFault }
  if t.modes.mode = .calibrating then enterReady t else t

/-! ### Completion (R183) -/

/-- What the completion of an operation hands to the other blocks (R140, R180). -/
def handCompletion (op : StoreOp) (verified : Bool) (s : State) : State :=
  match op with
  | .writeConfig _ => configChanged s
  | .writeCal d l => calWritten d l verified s
  | .writeRecipe _ _ => s
  | .writeSet _ _ => s
  | .eraseRecipe _ => s
  | .setLock _ _ => s

/-- The completion of the store operation in progress, its reply apart (R183); the loops take a setpoint that it changes, as the
loss of the set in force does (R91, R93, R110; log 5). -/
def completeOp (op : StoreOp) (verified : Bool) (s : State) : State :=
  let a := { s with
    store := { s.store with work := s.store.work.finish op verified, array := s.store.array.finish op verified, op := none }
    freeIndex := s.freeIndex + 1 }
  let b := if verified then a else occur .storeFault a
  warmSweep (settleLoops (handCompletion op verified (compositionTest b)))

/-! ### The start-up check (R178) -/

/-- An item that the range and cross-field checks of its kind refuse is CORRUPT (R178). -/
def Stored.judged {α : Type} (sound : α → Bool) (x : Stored α) : Stored α :=
  match x.item with
  | .valid a => if sound a then x else Stored.corrupted
  | .empty => x
  | .corrupt => x

/-- Every field of every item is judged by the range and cross-field checks of R179 to R181 (R178); they give the calibration
record none (log 39). -/
def StoreImage.judged (m : StoreImage) : StoreImage :=
  { recipes := m.recipes.map (Stored.judged recipeSound), sets := m.sets.map (Stored.judged thermalSound),
    config := match m.config with
      | .valid c => if configSound c then .valid c else .corrupt
      | .empty => .empty
      | .corrupt => .corrupt
    cal := m.cal }

/-- The array as the start-up check finds it. -/
def StoreImage.checked (m : StoreImage) (abandoned : Option StoreOp) (found : StartUpFindings) : StoreImage :=
  let decided := match abandoned with
    | some op => match found.abandoned with
      | .former => m
      | .written => m.apply op
      | .corrupt => m.spoil op.target
    | none => m
  (found.corrupt.foldl StoreImage.spoil decided).judged

/-- The Pot Controller's copy of the calibration record as the working copy gives it (R130). -/
def calRecordOf (m : StoreImage) : CalRecord :=
  match m.cal with
  | .valid p => { pair := some p, valid := true }
  | .empty => { pair := none, valid := false }
  | .corrupt => { pair := none, valid := false }

/-- The end of the start-up check: the working copy, the stored values the blocks take, STORE_FAULT, and the start of the
scanner's pass (R178). -/
def startUpCheckEnds (found : StartUpFindings) (s : State) : State :=
  if s.store.checking then
    let image := s.store.array.checked s.store.abandoned found
    let a := { s with
      store := { s.store with work := image, array := image, abandoned := none, checking := false }
      wave := { s.wave with cal := calRecordOf image }
      freeIndex := s.freeIndex + 1 }
    scanStarts (if image.anyCorrupt then occur .storeFault a else a)
  else s

end Sys2Proof.Machine
end

