-- ==== Sys2Proof/Machine/Replies.lean ====
section
/-! DEFINITION. What the replies carry (R55, R109, R128, R143, R154, R164, R171, R173, R185, R191, R192). A field that its
owner gives only while something holds is preceded by its presence byte (log 11). -/

namespace Sys2Proof.Machine

/-! ### Common parts -/

/-- The first byte of every reply (R190). -/
def codeByte (c : ResultCode) : Bytes := u8 (codeNumber c)

/-- A slot's value, marked absent where it has none, and its standing (R155). -/
def slotBytes (x : Slot) : Bytes := opt i16 x.value ++ u8 (standingNumber x.standing)

/-- The fields of every mode request's reply: mode, drain target, return mode (R191). -/
def State.modeFields (s : State) : Bytes :=
  u8 (modeNumber s.modes.mode) ++ u8 (drainNumber s.modes.drain) ++ u8 (returnNumber s.modes.ret)

/-- The fields of the replies to HOLD and RESUME (R191). -/
def State.holdFields (s : State) : Bytes := s.modeFields ++ flag s.modes.holdPending

/-- The numbers of alarms in force at each severity (R171, R192). -/
def State.forceCounts (s : State) : Bytes :=
  u8 (s.countInForce .notice) ++ u8 (s.countInForce .stop) ++ u8 (s.countInForce .safe)

/-! ### STATUS (R192) -/

/-- The payload of the STATUS reply. -/
def statusPayload (s : State) : Bytes :=
  codeByte .ok
    ++ (u8 (modeNumber s.modes.mode) ++ u8 (drainNumber s.modes.drain) ++ flag s.modes.holdPending
        ++ u8 (returnNumber s.modes.ret) ++ opt (fun w => u8 (stageNumber w)) s.stage?)
    ++ opt u8 s.modes.activeSet
    ++ (u8 (extNumber s.extr.state) ++ flag s.pot.molten)
    ++ flag s.alert.attention
    ++ (u8 s.tracker.queue.length ++ u8 s.freePlaces ++ u8 s.tracker.records.length ++ u8 s.reports.queue.length
        ++ u16 s.reports.next ++ u8 (freeBuffers s.maps))
    ++ (u8 (activityNumber s.spray.running) ++ u8 s.spray.queue.length ++ u8 (purgeNumber s.spray.purge))
    ++ opt i16 s.tracker.measuredSpeed
    ++ s.forceCounts
    ++ u32 s.seconds
    ++ (u16 s.link.badCrc ++ u16 s.link.badLength ++ u16 s.link.overlap)

/-! ### ZONE_READ and POT_READ (R109, R128, R143) -/

/-- One zone of the ZONE_READ reply. -/
def State.zoneBytes (s : State) (k : ZoneId) : Bytes :=
  let z := s.zone k
  u16 (s.zoneRating k) ++ u8 (presenceNumber z.presence) ++ flag z.started ++ flag z.warmFail
    ++ (i8 z.trim ++ i16 (s.zoneSetpoint k) ++ i16 (s.zoneWorking k))
    ++ slotBytes (s.slot (zoneIndex k))
    ++ (u8 z.demand ++ u16 z.integral ++ u8 z.grant ++ flag z.cut)
    ++ (u8 z.boost ++ flag z.overMark ++ flag (s.zoneInBand k))

/-- The supply record (R109). -/
def State.supplyBytes (s : State) : Bytes :=
  slotBytes (s.slot 10) ++ flag s.supplyLow ++ u8 s.heat.frameSlot ++ u16 s.budget ++ u32 s.totalUse

/-- The payload of the ZONE_READ reply; its six zone records have no count byte (log 13). -/
def zonePayload (s : State) : Bytes := codeByte .ok ++ (allZones.map s.zoneBytes).flatten ++ s.supplyBytes

/-- The pot loop record (R109). -/
def State.potLoopBytes (s : State) : Bytes :=
  let p := s.heat.pot
  u16 s.potRating ++ i16 s.potSetpoint ++ slotBytes (s.slot 6)
    ++ (u8 p.demand ++ u16 p.integral ++ u8 p.grant ++ flag p.cut)
    ++ (firstNamed p.tripInput ++ flag p.overMark ++ flag s.potInBand)

/-- The soak timer while SOAKING (R128). -/
def Soak.timer? : Soak → Option Nat
  | .soaking t => some t
  | .none => Option.none
  | .waiting => Option.none

/-- The prove base while the feeder is RUNNING (R128). -/
def Feeder.base? : Feeder → Option Int
  | .running b _ => some b
  | .off => none

/-- The prove timer while the feeder is RUNNING (R128). -/
def Feeder.timer? : Feeder → Option Nat
  | .running _ t => some t
  | .off => none

/-- The pot items (R128). -/
def State.potBytes (s : State) : Bytes :=
  flag s.pot.molten ++ u8 (soakNumber s.pot.soak) ++ opt timerMs s.pot.soak.timer? ++ firstNamed s.pot.fumeHot
    ++ (opt i16 s.pot.level ++ u8 (levelNumber s.pot.standing))
    ++ (u8 s.pot.refDrive ++ opt timerMs s.pot.driveHold)
    ++ slotBytes (s.slot 7)
    ++ (u8 (feederNumber s.pot.feeder) ++ opt i16 s.pot.feeder.base? ++ opt timerMs s.pot.feeder.timer?)
    ++ (flag (s.condition .potCold) ++ flag (s.condition .levelLow))

/-- The search items while the phase is SEARCH (R143). -/
def CalPhase.search? : CalPhase → Option (Direction × Nat × Nat)
  | .search d t w => some (d, t, w)
  | .none => Option.none
  | .writing _ _ => Option.none

/-- The wave and calibration items (R143). -/
def State.waveBytes (s : State) : Bytes :=
  u8 s.wave.output ++ opt u8 s.wave.computed ++ u8 (sideNumber s.wave.side)
    ++ (opt (fun p => u8 p.1) s.wave.cal.pair ++ opt (fun p => i16 p.2) s.wave.cal.pair ++ flag s.wave.cal.valid)
    ++ (u8 (phaseNumber s.wave.phase) ++ opt (fun p => u8 (directionNumber p.1)) s.wave.phase.search?
        ++ opt (fun p => u8 p.2.1) s.wave.phase.search? ++ opt (fun p => timerMs p.2.2) s.wave.phase.search?)
    ++ (flag s.wave.finger ++ u8 (calOutcomeNumber s.wave.outcome) ++ u8 (causeNumber s.wave.cause))

/-- The payload of the POT_READ reply. -/
def potPayload (s : State) : Bytes := codeByte .ok ++ s.potLoopBytes ++ s.potBytes ++ s.waveBytes

/-! ### EXTRACT_READ (R154) -/

/-- The value of a grace timer that is present (R144, R151). -/
def Grace.timer? : Grace → Option Nat
  | .running t => some t
  | .expired t => some t
  | .absent => none

/-- A field of the configuration record, marked absent while none is present. -/
def State.configured? (s : State) (i : Nat) : Option Nat := if s.configured then some (s.param i) else none

/-- The payload of the EXTRACT_READ reply; the fan feedback is sent as present 0, absent 1 (log 13). -/
def extractPayload (s : State) : Bytes :=
  codeByte .ok
    ++ (firstNamed s.extr.fan ++ firstNamed s.extr.feedback)
    ++ (u8 (extNumber s.extr.state) ++ u8 (suctionNumber s.extr.suction))
    ++ (slotBytes (s.slot 8) ++ slotBytes (s.slot 9))
    ++ (opt timerMs s.extr.prove ++ opt timerMs s.extr.qualify ++ opt timerMs s.extr.recover ++ opt timerMs s.extr.warn
        ++ opt timerMs s.extr.fail ++ opt timerMs s.extr.feedbackTimer ++ opt timerMs s.extr.grace.timer?
        ++ opt timerMs s.extr.clog)
    ++ flag s.extr.forcedDue
    ++ (flag (s.condition .extractWarn) ++ flag (s.condition .extractFail) ++ flag (s.condition .filterClog))
    ++ (u16 s.pProve ++ u16 s.pWarn ++ u16 s.pFail ++ u16 s.tProve ++ u16 s.tWarn ++ u16 s.tFail)
    ++ (opt u16 (s.configured? 95) ++ opt u16 (s.configured? 96) ++ opt u16 (s.configured? 97))

/-! ### TRANSIT_READ (R55) -/

/-- One announcement. -/
def announcementBytes (a : Announcement) : Bytes := u16 a.tag ++ u8 a.slot ++ u8 (orientationNumber a.orientation)

/-- An exception list with its "more" flag (R43). -/
def exceptionBytes (e : ExcList) : Bytes :=
  counted (fun p => u8 (exceptionNumber p.1) ++ u8 p.2) e.items ++ flag e.more

/-- One record of the Transit Table with its position (R34, R55); the wave drive's min and max share one presence byte, and the
next-sample index takes two bytes (log 13). -/
def State.recordBytes (s : State) (r : Record) : Bytes :=
  u16 r.tag ++ u8 r.slot ++ u8 (orientationNumber r.orientation) ++ u8 (recordStageNumber r.stage)
    ++ (opt (fun (c : Count24) => u24 c.toNat) r.entry ++ opt u16 r.measured
        ++ opt (fun b => u8 (bufferIndex b)) r.buffer)
    ++ (u8 r.rowsTotal ++ u8 r.sprayed ++ u8 r.skipped ++ u8 r.nextRow)
    ++ (u32 r.dose ++ opt i16 r.peak ++ u16 r.nextSample ++ flag r.pyroDone)
    ++ opt (fun p => u8 p.1 ++ u8 p.2) r.wave
    ++ (zoneSet r.zonesIn ++ flag r.inWave ++ flag r.matched)
    ++ exceptionBytes r.exc
    ++ opt i24 (s.position r)

/-- The payload of the TRANSIT_READ reply: at most three records from a position on (R55, R191). DEDUCED (log 13): the count
byte of R190 before the list of records is left out, since R191 ends the reply with the number of records it carries. -/
def transitPayload (position : Nat) (s : State) : Bytes :=
  let shown := (s.tracker.records.drop position).take 3
  codeByte .ok
    ++ (u24 s.tracker.count.toNat ++ firstNamed s.tracker.conveyorRun ++ opt i16 s.tracker.measuredSpeed
        ++ firstNamed s.tracker.gateOpen ++ flag s.waveOccupied ++ flag s.tracker.admission.isSome)
    ++ (u8 s.freePlaces ++ counted announcementBytes s.tracker.queue)
    ++ u8 s.tracker.records.length
    ++ (shown.map s.recordBytes).flatten
    ++ u8 shown.length

/-! ### MEASURE (R164) -/

/-- The age of a slot in whole ms, the fraction dropped (log 44), capped (R164). -/
def State.slotAge (s : State) (x : Slot) : Option Nat :=
  x.refreshed.map (fun t => min 65535 ((s.uptime - t) / Config.ticksPerMs))

/-- One channel of the MEASURE reply. -/
def State.shotBytes (s : State) (r : ShotReading) : Bytes :=
  u8 r.channel ++ (opt i16 r.value ++ u8 (standingNumber r.standing)) ++ slotBytes (s.slot r.channel)
    ++ opt u16 (s.slotAge (s.slot r.channel))

/-- The payload of the MEASURE reply; each channel of the control range takes one byte (log 13). -/
def measurePayload (taken : List ShotReading) (s : State) : Bytes :=
  codeByte .ok ++ counted s.shotBytes taken
    ++ (u8 s.scanStart ++ u8 s.scanEnd ++ u16 s.staleMs ++ flag s.scan.refFault)

/-! ### Reports and alarms (R171, R173) -/

/-- A report with every field of R54, in the order of R54's table. DEDUCED (log 13): the exception list stands before the exit
time, though R173 names it after the fields, and the wave drive's min and max share one presence byte. -/
def reportBytes (p : Report) : Bytes :=
  u16 p.number ++ u16 p.tag ++ u8 p.slot ++ u8 (outcomeNumber p.outcome)
    ++ (u8 p.sprayed ++ u8 p.skipped ++ u32 p.dose)
    ++ (opt i16 p.peak ++ opt (fun w => u8 w.1 ++ u8 w.2) p.wave ++ opt u16 p.measured)
    ++ exceptionBytes p.exc ++ u32 p.exitTime

/-- One entry of the ALARM_READ reply. -/
def alarmBytes (k : AlarmKind) (e : AlarmEntry) : Bytes :=
  u8 (alarmNumber k) ++ flag (isEventAlarm k) ++ u8 (severityNumber (severity k)) ++ u8 (alarmStateNumber e.state)
    ++ u8 e.count ++ opt (fun t => u32 t.1 ++ u8 (epochNumber t.2)) e.time

/-- The payload of the ALARM_READ reply. -/
def alarmPayload (s : State) : Bytes :=
  codeByte .ok ++ (allAlarms.map (fun k => alarmBytes k (s.alarm k))).flatten ++ s.forceCounts ++ u32 s.seconds

/-! ### The store (R185) -/

/-- The state and lock flag of an item. -/
def storedBytes {α : Type} (x : Stored α) : Bytes := u8 (itemNumber x.item) ++ flag x.locked

/-- The payload of the CONFIG_READ reply. -/
def configPayload (s : State) : Bytes :=
  codeByte .ok ++ u8 (itemNumber s.store.work.config)
    ++ opt (fun (c : ConfigRecord) => (c.fields.map u16).flatten) s.store.work.config.contents?

/-- The payload of the THERMAL_READ reply. -/
def thermalPayload (n : Nat) (s : State) : Bytes :=
  codeByte .ok ++ storedBytes (s.store.work.set n)
    ++ (flag (s.setInUse n) ++ flag (decide (s.modes.activeSet = some n)))
    ++ opt (fun (t : ThermalSet) => (t.fields.map u16).flatten) (s.store.work.set n).item.contents?

/-- One rectangle as it is sent (R190). -/
def rectangleBytes (r : Rect) : Bytes :=
  u8 (rectNumber r.kind) ++ i8 r.level ++ u8 r.row0 ++ u8 r.row1 ++ u8 r.col0 ++ u8 r.col1

/-- The fields of a recipe as they are sent (R181, R190). -/
def recipeFieldBytes (r : Recipe) : Bytes :=
  nameField r.name ++ u8 r.set ++ (u16 r.length ++ u16 r.width ++ u16 r.tolerance) ++ (u8 r.base ++ u8 r.boost)
    ++ (i16 r.exitMin ++ i16 r.exitMax) ++ counted rectangleBytes r.rects

/-- The payload of the RECIPE_READ reply. -/
def recipePayload (n : Nat) (s : State) : Bytes :=
  codeByte .ok ++ storedBytes (s.store.work.recipe n) ++ flag (s.recipeInUse n)
    ++ opt recipeFieldBytes (s.store.work.recipe n).item.contents?

/-- The identity: family Pagmor, device WSC-630, silicon revision C, sent as names (R185). -/
def identityBytes : Bytes :=
  nameField [0x50#8, 0x61#8, 0x67#8, 0x6D#8, 0x6F#8, 0x72#8]
    ++ nameField [0x57#8, 0x53#8, 0x43#8, 0x2D#8, 0x36#8, 0x33#8, 0x30#8]
    ++ nameField [0x43#8]

/-- The capacities in the order of R185. -/
def capacityBytes : Bytes :=
  u8 Config.maxAnnouncements ++ u8 Config.maxRecords ++ u8 Config.maxReports ++ u8 Config.mapBuffers
    ++ u8 Config.maxStrokes ++ u8 Config.recipeSlots ++ u8 Config.thermalSets ++ u8 Config.alarmKinds
    ++ u8 Config.channels

/-- The payload of the CAPS reply; the line speed is sent as its place in the list of R186, and the slot
and set states have no count byte (log 13). -/
def capsPayload (s : State) : Bytes :=
  codeByte .ok ++ identityBytes ++ u8 (speedNumber s.link.speed) ++ capacityBytes ++ u32 s.seconds
    ++ (firstNamed s.store.key ++ flag s.store.op.isSome)
    ++ (u8 (itemNumber s.store.work.config) ++ u8 (itemNumber s.store.work.cal))
    ++ (s.store.work.recipes.map storedBytes).flatten ++ (s.store.work.sets.map storedBytes).flatten

/-- The reply to a store operation at its completion: the item's state, and its lock flag where it has one (R183, R191). -/
def completionPayload (op : StoreOp) (verified : Bool) (s : State) : Bytes :=
  codeByte (if verified then .ok else .storeFault)
    ++ match op.target with
      | .recipe n => storedBytes (s.store.work.recipe n)
      | .thermal n => storedBytes (s.store.work.set n)
      | .config => u8 (itemNumber s.store.work.config)
      | .calibration => u8 (itemNumber s.store.work.cal)

end Sys2Proof.Machine
end

