-- ==== Sys2Proof/Machine/Requests.lean ====
section
/-! DEFINITION. The requests of the catalogue at their owners (R26, R191): the mode check, the payload check, each owner's own
checks in their order, its effects, and its reply. -/

namespace Sys2Proof.Machine

/-! ### Answering (R189, R190) -/

/-- Change the Link Interface's items. -/
def State.setLink (s : State) (x : Link) : State := { s with link := x }

/-- Build the reply owed with a payload and begin to send it; a partial frame is discarded (R188, R189). -/
def answer (payload : Bytes) (s : State) : State :=
  match s.link.owed with
  | some (kind, tag) =>
    s.setLink { s.link with receiver := .hunt, tx := .sending (frameBytes (replyKind kind) tag payload) }
  | none => s

/-- The fields that a refusal of a request kind carries beside its code (R191, R32, R33). -/
def refusalFields (k : RequestKind) (s : State) : Bytes :=
  match k with
  | .start | .run | .stop | .standby | .shutdown | .clearSafe => s.modeFields
  | .hold | .resume => s.holdFields
  | .announce | .withdraw => u8 s.freePlaces
  | .caps | .status | .zoneRead | .potRead | .extractRead | .transitRead | .measure | .selectSet | .purge | .waveCal
  | .calAbort | .trim | .reportTake | .alarmRead | .alarmAck | .alertMode | .configRead | .configWrite | .thermalRead
  | .thermalWrite | .recipeRead | .recipeWrite | .recipeErase | .lock | .unlock | .restart => []

/-- The zone that a TRIM names (R92). -/
def trimZone (z : Byte) : Option ZoneId := if z.toNat = 0 then none else zoneAt (z.toNat - 1)

/-- The trim that every reply to a TRIM carries, where its zone number names a zone (R92). -/
def trimField (z : Byte) (s : State) : Bytes :=
  match trimZone z with
  | some k => i8 (s.zone k).trim
  | none => []

/-- The fields that a refusal of a request carries beside its code. -/
def requestFields (r : Request) (s : State) : Bytes :=
  match r with
  | .trim z _ => trimField z s
  | _ => refusalFields (requestKind r) s

/-- The payload of a refusal: its code, the index with BAD_VALUE, and the fields that the owning rule names (R190). -/
def refusalPayload (c : ResultCode) (index : Nat) (fields : Bytes) : Bytes :=
  codeByte c ++ (if c = .badValue then u8 index else []) ++ fields

/-- Refuse a request: it changes nothing but the reply. -/
def refuse (r : Request) (c : ResultCode) (index : Nat) (s : State) : State :=
  answer (refusalPayload c index (requestFields r s)) s

/-- Answer OK with some fields. -/
def accept (fields : State → Bytes) (s : State) : State := answer (codeByte .ok ++ fields s) s

/-- Refuse by the first check that fails, or go on. -/
def checked (r : Request) (checks : List (Bool × RefusalCode)) (go : State → State) (s : State) : State :=
  match firstRefusal checks with
  | some (c, i) => refuse r c i s
  | none => go s

/-! ### The mode check (R26) -/

/-- Whether a request passes the mode check. -/
def modeAllows : RequestKind → Mode → Bool
  | .caps, _ | .status, _ | .zoneRead, _ | .potRead, _ | .extractRead, _ | .transitRead, _ | .measure, _ | .alarmRead, _
  | .reportTake, _ | .configRead, _ | .thermalRead, _ | .recipeRead, _ | .alarmAck, _ => true
  | .trim, m | .alertMode, m | .thermalWrite, m | .recipeWrite, m | .recipeErase, m | .lock, m | .unlock, m =>
    m != .calibrating
  | .configWrite, m => m == .idle
  | .restart, m => m == .idle || m == .safe
  | .start, m | .selectSet, m => m == .idle || m == .standby
  | .run, m => m == .ready || m == .run || m == .drain || m == .hold
  | .stop, m | .hold, m | .resume, m => m == .run || m == .drain || m == .hold
  | .standby, m => m != .idle && m != .calibrating && m != .safe
  | .shutdown, m => m != .calibrating && m != .safe
  | .clearSafe, m => m == .safe
  | .announce, m => m != .calibrating && m != .safe
  | .withdraw, m => m != .calibrating
  | .purge, m => m == .ready || m == .hold || m == .standby
  | .waveCal, m => m == .ready
  | .calAbort, m => m == .calibrating

/-! ### Mode requests (R4, R15 to R18, R20, R24) -/

/-- A thermal set asks for no heat in a zone that is not fitted (R2, R184). -/
def State.setFits (s : State) (t : ThermalSet) : Bool :=
  allZones.all (fun k => (t.zone k = 0 && t.zoneStandby k = 0) || s.zoneRating k != 0)

/-- The active set is fit for a START (R2). -/
def State.activeFit (s : State) : Bool :=
  match s.modes.activeSet with
  | some n => match (s.store.work.set n).item with
    | .valid t => s.setFits t
    | .empty => false
    | .corrupt => false
  | none => false

/-- START (R4, R13). -/
def actStart (s : State) : State :=
  checked .start [(s.configured, (.noConfig, 0)), (s.activeFit, (.badSet, 0)), (!s.safeInForce, (.alarm, 0))]
    (fun s => accept State.modeFields (beginWarmup s)) s

/-- What a taken RUN does, or the checks it fails (R15). -/
def actRun (s : State) : State :=
  match s.modes.mode with
  | .ready =>
    checked .run [(s.wave.cal.valid, (.uncalibrated, 0)), (s.pot.molten, (.wrongMode, 0)),
        (!s.stopInForce, (.alarm, 0))]
      (fun s => accept State.modeFields (admissionTest (enterRun s))) s
  | .drain =>
    checked .run [(decide (s.modes.drain = .ready), (.wrongMode, 0)), (!s.stopInForce, (.alarm, 0))]
      (fun s => accept State.modeFields (admissionTest (enterRun s))) s
  | .hold =>
    if s.modes.ret = .drain then
      checked .run [(decide (s.modes.drain = .ready), (.wrongMode, 0)), (!s.stopInForce, (.alarm, 0))]
        (fun s => accept State.modeFields (s.setModes { s.modes with ret := .run, drain := .none })) s
    else accept State.modeFields s
  | .run => accept State.modeFields s
  | .idle | .warmup | .standby | .calibrating | .safe => refuse .run .wrongMode 0 s

/-- In HOLD: the return mode becomes DRAIN with a target (R18). -/
def holdToDrain (t : DrainTarget) (s : State) : State := s.setModes { s.modes with ret := .drain, drain := t }

/-- STOP (R16, R18). -/
def actStop (s : State) : State :=
  accept State.modeFields (match s.modes.mode with
    | .run => enterDrain .ready s
    | .hold => if s.modes.ret = .drain then s else holdToDrain .ready s
    | .drain | .idle | .warmup | .ready | .standby | .calibrating | .safe => s)

/-- STANDBY (R14, R16, R18, R20). -/
def actStandby (s : State) : State :=
  accept State.modeFields (match s.modes.mode with
    | .warmup | .ready => setMode .standby s
    | .run => enterDrain .standby s
    | .drain => s.setModes { s.modes with drain := .standby }
    | .hold => holdToDrain .standby s
    | .standby | .idle | .calibrating | .safe => s)

/-- SHUTDOWN (R14, R16, R18, R20). -/
def actShutdown (s : State) : State :=
  accept State.modeFields (match s.modes.mode with
    | .warmup | .ready | .standby => setMode .idle s
    | .run => enterDrain .idle s
    | .drain => s.setModes { s.modes with drain := .idle }
    | .hold => holdToDrain .idle s
    | .idle | .calibrating | .safe => s)

/-- HOLD (R17). -/
def actHold (s : State) : State :=
  accept State.holdFields (match s.modes.mode with
    | .run | .drain =>
      if s.modes.holdPending then s
      else if s.waveOccupied then s.setModes { s.modes with holdPending := true }
      else enterHold s
    | .hold | .idle | .warmup | .ready | .standby | .calibrating | .safe => s)

/-- A hold ends by RESUME: the return mode, with a drain's kept target (R18). -/
def resumeHold (s : State) : State := if s.modes.ret = .drain then enterDrain s.modes.drain s else enterRun s

/-- RESUME (R17, R18). -/
def actResume (s : State) : State :=
  match s.modes.mode with
  | .hold =>
    checked .resume [(!s.spray.running.isPurge, (.busy, 0))]
      (fun s => accept State.holdFields (admissionTest (resumeHold s))) s
  | .run | .drain =>
    accept State.holdFields (admissionTest (s.setModes { s.modes with holdPending := false }))
  | .idle | .warmup | .ready | .standby | .calibrating | .safe => refuse .resume .wrongMode 0 s

/-- CLEAR_SAFE (R24). -/
def actClearSafe (s : State) : State :=
  checked .clearSafe [(s.tracker.records.isEmpty, (.busy, 0)), (!s.safeInForce, (.alarm, 0))]
    (fun s => accept State.modeFields (setMode .idle s)) s

/-! ### Sets, boards, purge, calibration, trim (R2, R32, R33, R85, R92, R137, R142, R184) -/

/-- Whether a VALID set fits the ratings of a present configuration record (R184; log 36). -/
def State.setUsable (s : State) (n : Nat) : Bool :=
  match (s.store.work.set n).item with
  | .valid t => s.configured && s.setFits t
  | .empty => false
  | .corrupt => false

/-- The effects of a taken SELECT_SET (R2, R92). -/
def selectSet (n : Nat) (s : State) : State :=
  let a := s.setModes { s.modes with activeSet := some n }
  let b := a.mapZones (fun _ z => { z with trim := 0 })
  afterLoops (if s.modes.mode = .standby then startStandbyZones b else b)

/-- SELECT_SET (R184). -/
def actSelectSet (n : Nat) (s : State) : State :=
  checked (.selectSet (BitVec.ofNat 8 n))
    [(decide (n < Config.thermalSets), (.badValue, 0)), (s.setUsable n, (.badSet, 0)),
     (s.tracker.queue.all (fun a => (s.recipeOf a.slot).set = n), (.inUse, 0))]
    (fun s => accept (fun _ => u8 n) (selectSet n s)) s

/-- The orientation that a byte names (R31, R190). -/
def orientationOf (b : Byte) : Option Orientation :=
  match b.toNat with
  | 0 => some .normal
  | 1 => some .rotated
  | _ => none

/-- Whether a tag is in the Announce Queue. -/
def State.announced (s : State) (tag : Nat) : Bool := s.tracker.queue.any (fun a => a.tag = tag)

/-- Whether a tag is in the Transit Table. -/
def State.inTransit (s : State) (tag : Nat) : Bool := s.tracker.records.any (fun r => r.tag = tag)

/-- The recipe of a slot names the active set, if one is in force (R32). -/
def State.classMatches (s : State) (slot : Nat) : Bool :=
  match s.modes.activeSet with
  | some n => (s.recipeOf slot).set = n
  | none => true

/-- Join the tail of the Announce Queue (R31, R32). -/
def announce (a : Announcement) (s : State) : State := s.setTracker { s.tracker with queue := s.tracker.queue ++ [a] }

/-- ANNOUNCE (R32). -/
def actAnnounce (t : Word16) (slot o : Byte) (s : State) : State :=
  checked (.announce t slot o)
    [(decide (t.toNat ≠ 0) && decide (slot.toNat < Config.recipeSlots) && (orientationOf o).isSome, (.badValue, 0)),
     (!(s.announced t.toNat || s.inTransit t.toNat), (.duplicateTag, 0)),
     (decide (s.freePlaces ≠ 0), (.full, 0)),
     ((s.store.work.recipe slot.toNat).item.isValid, (.badSlot, 0)),
     (s.classMatches slot.toNat, (.classMismatch, 0))]
    (fun s => accept (fun t => u8 t.freePlaces) (admissionTest
      (announce { tag := t.toNat, slot := slot.toNat, orientation := (orientationOf o).getD .normal } s))) s

/-- Take an announcement out of the queue (R33). -/
def withdraw (tag : Nat) (s : State) : State :=
  s.setTracker { s.tracker with queue := s.tracker.queue.filter (fun a => a.tag ≠ tag) }

/-- WITHDRAW (R33). -/
def actWithdraw (t : Word16) (s : State) : State :=
  if s.announced t.toNat then
    accept (fun t => u8 t.freePlaces) (admissionTest (withdraw t.toNat s))
  else refuse (.withdraw t) (if s.inTransit t.toNat then .inUse else .notFound) 0 s

/-- PURGE (R85). -/
def actPurge (s : State) : State :=
  checked .purge [(s.spray.running.isIdle && s.spray.queue.isEmpty && s.extr.state.sound, (.busy, 0))]
    (fun s => accept (fun t => u8 (purgeNumber t.spray.purge)) (beginPurge s)) s

/-- The reply field of the calibration requests (R191). -/
def State.outcomeField (s : State) : Bytes := u8 (calOutcomeNumber s.wave.outcome)

/-- WAVE_CAL (R137). -/
def actWaveCal (s : State) : State :=
  checked .waveCal [(s.store.key, (.keyOff, 0)), (s.pot.molten, (.wrongMode, 0))]
    (fun s => accept State.outcomeField (beginSearch s)) s

/-- Whether a calibration write is in progress (R129). -/
def CalPhase.isWriting : CalPhase → Bool
  | .writing _ _ => true
  | .none => false
  | .search _ _ _ => false

/-- CAL_ABORT (R142). -/
def actCalAbort (s : State) : State :=
  checked .calAbort [(!s.wave.phase.isWriting, (.busy, 0))] (fun s => accept State.outcomeField (abortSearch s)) s

/-- Give a zone its trim (R92); the working setpoint and with it the bands change (R91, R110). -/
def setTrim (k : ZoneId) (t : Int) (s : State) : State := warmSweep (afterLoops (s.updZone k (fun z => { z with trim := t })))

/-- TRIM (R92). -/
def actTrim (z : Byte) (v : Word16) (s : State) : State :=
  match trimZone z with
  | some k =>
    if s.zoneRating k = 0 then refuse (.trim z v) .badValue 0 s
    else
      let t := clampInt (-100) 100 v.toInt
      let u := setTrim k t s
      answer (codeByte (if t = v.toInt then .ok else .clamped) ++ trimField z u) u
  | none => refuse (.trim z v) .badValue 0 s

/-! ### Reports, alarms, ALERT (R168, R173, R174, R176) -/

/-- REPORT_TAKE (R173). -/
def actReportTake (s : State) : State :=
  match s.reports.queue with
  | [] => answer (codeByte .empty ++ u8 0) s
  | p :: rest =>
    accept (fun t => reportBytes p ++ u8 t.reports.queue.length)
      (admissionTest { s with reports := { s.reports with queue := rest } })

/-- The alarm kind of a number (R165). -/
def alarmOf (n : Nat) : Option AlarmKind := allAlarms[n - 1]?

/-- Acknowledge one entry; FEED_FAULT's becoming CLEAR leads to the feeder's start test (R122, R125, R168). -/
def acknowledge (k : AlarmKind) (s : State) : State :=
  let t := { s with alarms := s.alarms.set k (s.alarm k).acknowledge }
  if k = .feedFault ∧ s.inForce .feedFault = true ∧ t.inForce .feedFault = false then feedTestNow t else t

/-- Acknowledge every entry in turn (R168). -/
def acknowledgeAll : List AlarmKind → State → State
  | [], s => s
  | k :: rest, s => acknowledgeAll rest (acknowledge k s)

/-- The number of entries whose state an acknowledgement of all changes (R168). -/
def State.ackChanges (s : State) : Nat :=
  (allAlarms.filter (fun k => (s.alarm k).acknowledge.state ≠ (s.alarm k).state)).length

/-- ALARM_ACK (R168). -/
def actAlarmAck (n : Byte) (s : State) : State :=
  if n.toNat = 0 then
    accept (fun t => u8 s.ackChanges ++ t.forceCounts) (admissionTest (acknowledgeAll allAlarms s))
  else match alarmOf n.toNat with
    | some k =>
      accept (fun t => u8 n.toNat ++ u8 (alarmStateNumber (t.alarm k).state)) (admissionTest (acknowledge k s))
    | none => refuse (.alarmAck n) .badValue 0 s

/-- ALERT_MODE (R176). -/
def actAlertMode (m : Byte) (s : State) : State :=
  match alertModeOf m with
  | some x =>
    accept (fun _ => u8 (alertModeNumber x)) { s with alert := { s.alert with mode := x, phase := .rest, pending := 0 } }
  | none => refuse (.alertMode m) .badValue 0 s

/-- STATUS: the reply carries the attention flag as it stood, and clears it (R174, R192). -/
def actStatus (s : State) : State :=
  let t := answer (statusPayload s) s
  { t with alert := { t.alert with attention := false } }

/-- MEASURE (R163): answered at the end of its last conversion. -/
def actMeasure (first last : Byte) (s : State) : State :=
  checked (.measure first last) [(decide (first.toNat < Config.channels) && decide (last.toNat < Config.channels),
      (.badValue, 0))]
    (beginSingle first.toNat last.toNat) s

/-! ### Store requests (R182, R185) -/

/-- THERMAL_READ (R185). -/
def actThermalRead (n : Byte) (s : State) : State :=
  checked (.thermalRead n) [(decide (n.toNat < Config.thermalSets), (.badValue, 0))]
    (fun s => answer (thermalPayload n.toNat s) s) s

/-- RECIPE_READ (R185). -/
def actRecipeRead (n : Byte) (s : State) : State :=
  checked (.recipeRead n) [(decide (n.toNat < Config.recipeSlots), (.badValue, 0))]
    (fun s => answer (recipePayload n.toNat s) s) s

/-- CONFIG_WRITE (R180, R182): answered at the operation's completion, as every store request that is accepted. -/
def actConfigWrite (fields : List Word16) (s : State) : State :=
  let c : ConfigRecord := { fields := fields.map BitVec.toNat }
  checked (.configWrite fields) (configWriteChecks c s) (beginOp (.writeConfig c)) s

/-- THERMAL_WRITE (R181, R182). -/
def actThermalWrite (n : Byte) (fields : List Word16) (s : State) : State :=
  let t : ThermalSet := { fields := fields.map BitVec.toNat }
  checked (.thermalWrite n fields) (thermalWriteChecks n.toNat t s) (beginOp (.writeSet n.toNat t)) s

/-- RECIPE_WRITE (R181, R182). -/
def actRecipeWrite (n : Byte) (f : RecipeFields) (s : State) : State :=
  checked (.recipeWrite n f) (recipeWriteChecks n.toNat f s) (beginOp (.writeRecipe n.toNat (recipeOfFields f))) s

/-- RECIPE_ERASE (R182). -/
def actRecipeErase (n : Byte) (s : State) : State :=
  checked (.recipeErase n) (recipeEraseChecks n.toNat s) (beginOp (.eraseRecipe n.toNat)) s

/-- LOCK and UNLOCK (R182). -/
def actLock (r : Request) (kind number : Byte) (lock : Bool) (s : State) : State :=
  let item := lockItem kind.toNat number.toNat
  checked r (lockChecks item s) (beginOp (.setLock (item.getD (.recipe 0)) lock)) s

/-- RESTART: answered before it acts at the end of its reply (R193). -/
def actRestart (s : State) : State :=
  let t := accept (fun _ => []) s
  t.setLink { t.link with restartDue := true }

/-! ### Every request -/

/-- A request that has passed the mode check and the payload check, at its owner. -/
def act : Request → State → State
  | .caps, s => answer (capsPayload s) s
  | .status, s => actStatus s
  | .zoneRead, s => answer (zonePayload s) s
  | .potRead, s => answer (potPayload s) s
  | .extractRead, s => answer (extractPayload s) s
  | .transitRead p, s => answer (transitPayload p.toNat s) s
  | .measure a b, s => actMeasure a b s
  | .start, s => actStart s
  | .run, s => actRun s
  | .stop, s => actStop s
  | .hold, s => actHold s
  | .resume, s => actResume s
  | .standby, s => actStandby s
  | .shutdown, s => actShutdown s
  | .clearSafe, s => actClearSafe s
  | .selectSet n, s => actSelectSet n.toNat s
  | .announce t slot o, s => actAnnounce t slot o s
  | .withdraw t, s => actWithdraw t s
  | .purge, s => actPurge s
  | .waveCal, s => actWaveCal s
  | .calAbort, s => actCalAbort s
  | .trim z v, s => actTrim z v s
  | .reportTake, s => actReportTake s
  | .alarmRead, s => answer (alarmPayload s) s
  | .alarmAck n, s => actAlarmAck n s
  | .alertMode m, s => actAlertMode m s
  | .configRead, s => answer (configPayload s) s
  | .configWrite f, s => actConfigWrite f s
  | .thermalRead n, s => actThermalRead n s
  | .thermalWrite n f, s => actThermalWrite n f s
  | .recipeRead n, s => actRecipeRead n s
  | .recipeWrite n f, s => actRecipeWrite n f s
  | .recipeErase n, s => actRecipeErase n s
  | .lock k n, s => actLock (.lock k n) k n true s
  | .unlock k n, s => actLock (.unlock k n) k n false s
  | .restart, s => actRestart s

/-- A request at its owner: the mode check (R26), the payload check (R190), then its own checks and effects. -/
def handle (r : Request) (s : State) : State :=
  if !modeAllows (requestKind r) s.modes.mode then refuse r .wrongMode 0 s
  else if !r.wellFormed then refuse r .badValue 0 s
  else act r s

/-- A request kind with its payload as received: a payload of the wrong length is refused after the mode check (R190), a TRIM
without a trim (log 13). -/
def handleFrame (k : RequestKind) (payload : Bytes) (s : State) : State :=
  match readRequest k payload with
  | some r => handle r s
  | none =>
    answer (refusalPayload (if modeAllows k s.modes.mode then .badValue else .wrongMode) 0 (refusalFields k s)) s

end Sys2Proof.Machine
end

