-- ==== Sys2Proof/Machine/Link.lean ====
section
/-! DEFINITION. The Link Interface (R187 to R189, R193) and the two resets: bytes and frames, the end of a reply, the pin reset
and the RESTART. -/

namespace Sys2Proof.Machine

/-! ### Frames (R189) -/

/-- A link counter saturates at 65,535 (R187). -/
def bumpCounter (n : Nat) : Nat := satAdd 65535 n 1

/-- A frame completes while a reply is owed (R189, case 1). -/
def frameOverlaps (s : State) : State := s.setLink { s.link with overlap := bumpCounter s.link.overlap }

/-- A frame is accepted: the reply owed becomes its kind and tag (R189, case 4). -/
def owe (kind tag : Byte) (s : State) : State := s.setLink { s.link with owed := some (kind, tag) }

/-- The part answers an unknown kind at once (R189, case 3). -/
def answerUnknown (kind tag : Byte) (s : State) : State :=
  s.setLink { s.link with
    owed := some (kind, tag), receiver := .hunt,
    tx := .sending (frameBytes unknownKindByte tag (codeByte .unknownKind)) }

/-- The judgement of a complete frame whose CRC either matches or not (R189). -/
def judgeFrame (crcOk : Bool) (kind tag : Byte) (payload : Bytes) (s : State) : State :=
  if s.link.owed.isSome then frameOverlaps s
  else if !crcOk then s.setLink { s.link with badCrc := bumpCounter s.link.badCrc }
  else match kindOf kind with
    | none => answerUnknown kind tag s
    | some k => handleFrame k payload (owe kind tag s)

/-- Take the bytes of a complete frame, its start byte apart, to the judgement (R186, R189); the receiver returns to HUNT. -/
def completeFrame (bytes : Bytes) (s : State) : State :=
  let t := s.setLink { s.link with receiver := .hunt }
  match bytes with
  | len :: kind :: tag :: rest =>
    let n := len.toNat
    let body := len :: kind :: tag :: rest.take n
    judgeFrame (decide (rest.drop n = wordBytes (crc body))) kind tag (rest.take n) t
  | _ => t

/-- Whether a partial frame has reached its byte 5 + N (R188). -/
def frameComplete : Bytes → Bool
  | [] => false
  | len :: rest => decide (rest.length = len.toNat + 4)

/-- A byte arrives while the transmitter is QUIET (R188). -/
def takeByte (b : Byte) (s : State) : State :=
  match s.link.receiver with
  | .hunt => if b = startByte then s.setLink { s.link with receiver := .inFrame [] } else s
  | .inFrame [] =>
    if 240 < b.toNat then
      s.setLink { s.link with receiver := .hunt, badLength := bumpCounter s.link.badLength }
    else s.setLink { s.link with receiver := .inFrame [b] }
  | .inFrame (len :: rest) =>
    let bytes := len :: rest ++ [b]
    if frameComplete bytes then completeFrame bytes s else s.setLink { s.link with receiver := .inFrame bytes }

/-- Whether the transmitter is SENDING (R187). -/
def Transmitter.isSending : Transmitter → Bool
  | .sending _ => true
  | .quiet => false

/-- Whether arriving bytes are ignored: while the transmitter is SENDING (R188) or the start-up check runs (R193). -/
def State.deaf (s : State) : Bool := s.link.tx.isSending || s.store.checking

/-- A byte arrives on the line (R188, R193). -/
def byteArrives (b : Byte) (s : State) : State := if s.deaf then s else takeByte b s

/-- The gap of a partial frame expires (R188). -/
def gapExpires (s : State) : State := s.setLink { s.link with receiver := .hunt }

/-- A whole frame of a request arrives with a good CRC, after the gap of any partial frame (R188, R189; log 4). -/
def requestArrives (tag : Byte) (r : Request) (s : State) : State :=
  if s.deaf then s
  else
    let t := s.setLink { s.link with receiver := .hunt }
    if t.link.owed.isSome then frameOverlaps t else handle r (owe (kindByte (requestKind r)) tag t)

/-! ### The end of a single shot (R163, R164) and of a store operation (R183), with their replies -/

/-- The last single-shot conversion has ended: the reply is sent and the control scan goes on (R163). -/
def finishSingle (taken : List ShotReading) (s : State) : State :=
  answer (measurePayload taken s) (s.setScan { s.scan with single := none, activity := .control })

/-- A single-shot conversion ends (R163). -/
def singleConversion (r : Reading) (s : State) : State :=
  match s.scan.activity, s.scan.single with
  | .single, some q =>
    let taken := q.taken ++ [s.shotOf q.cursor r]
    if q.cursor = q.last then finishSingle taken s
    else s.setScan { s.scan with single := some { q with
      cursor := nextChannel q.first q.last q.cursor, taken := taken } }
  | _, _ => s

/-- Whether an operation is the Pot Controller's, which no request waits for (R140, R183). -/
def StoreOp.isCalibration : StoreOp → Bool
  | .writeCal _ _ => true
  | .writeRecipe _ _ => false
  | .writeSet _ _ => false
  | .writeConfig _ => false
  | .eraseRecipe _ => false
  | .setLock _ _ => false

/-- The store operation in progress ends, and its request is answered (R183). -/
def storeCompletes (verified : Bool) (s : State) : State :=
  match s.store.op with
  | some op =>
    let t := admissionTest (completeOp op verified s)
    if op.isCalibration then t else answer (completionPayload op verified t) t
  | none => s

/-! ### Resets (R1, R27, R165, R170, R177, R187, R193) -/

/-- The Recipe Store at either reset: the operation in progress is abandoned and the start-up check begins (R177, R178). -/
def Store.atReset (key : Bool) (x : Store) : Store :=
  { work := StoreImage.blank, array := x.array, op := none,
    abandoned := match x.op with
      | some op => some op
      | none => x.abandoned
    checking := true, key := key }

/-- What both resets make of the part, with the alarm table, ALERT items and link items given. -/
def resetWith (pins : ResetPins) (alarms : AlarmTable) (alert : Alert) (link : Link) (mark waits : Bool) (s : State) : State :=
  { modes := ModeCtl.afterReset, tracker := Tracker.afterReset pins.stopper, maps := Compositor.afterReset,
    spray := Spray.afterReset, heat := Heaters.afterReset pins.trip mark waits, pot := PotCtl.afterReset,
    wave := Wave.afterReset pins.finger, extr := Extraction.afterReset pins.fanFeedback, scan := Scanner.afterReset,
    alarms := alarms, alert := alert, reports := { queue := [], next := 0 }, store := s.store.atReset pins.key,
    link := link, uptime := 0, freeIndex := s.freeIndex, pending := s.pending }

/-- POT_OVERTEMP as both resets judge it, from the trip input read and the pot over mark (R106, R108). DEDUCED (log 45): the
appearance at a reset is an occurrence that acts after the reset values of R174 and R175, so it sets the attention flag and acts
on the ALERT output. -/
def tripAtReset (s : State) : State := if s.heat.pot.tripInput || s.heat.pot.overMark then raise .potOvertemp s else s

/-- A pin reset: everything takes its reset value but the array, the store's lock flags among it (R177, R193). -/
def pinReset (pins : ResetPins) (s : State) : State :=
  tripAtReset (resetWith pins AlarmTable.afterReset { attention := false, mode := .level, phase := .rest, pending := 0 }
    { speed := pins.speed, receiver := .hunt, owed := none, tx := .quiet, badCrc := 0, badLength := 0, overlap := 0,
      restartDue := false } false false s)

/-- The kinds whose condition starts absent at a RESTART (R108, R127, R134, R153, R170). -/
def endsAtRestart : AlarmKind → Bool
  | .extractWarn | .extractFail | .potCold | .waveLimit | .zoneOvertemp | .supplyLow | .conveyorDev | .potWarmFail
  | .zoneWarmFail => true
  | .filterClog | .feedFault | .levelLow | .potOvertemp | .zoneSensor | .zoneMissing | .entryTimeout | .boardMissing
  | .trackLost | .fluxPressLow | .calFail | .storeFault => false

/-- A kept entry at a RESTART: its epoch PREVIOUS, and the disappearance where its condition starts absent (R170). -/
def restartEntry (k : AlarmKind) (e : AlarmEntry) : AlarmEntry :=
  let f := { e with time := e.time.map (fun t => (t.1, .previous)) }
  if endsAtRestart k then f.disappear else f

/-- A RESTART at the end of its reply (R193). The pot over mark starts set where POT_OVERTEMP's condition was present (R108),
whether or not a configuration record is present (DEDUCED, log 38). -/
def restartPart (pins : ResetPins) (s : State) : State :=
  tripAtReset (resetWith pins (s.alarms.mapEntries restartEntry)
    { attention := false, mode := s.alert.mode, phase := .rest, pending := 0 }
    { speed := pins.speed, receiver := .hunt, owed := none, tx := .quiet, badCrc := s.link.badCrc,
      badLength := s.link.badLength, overlap := s.link.overlap, restartDue := false }
    (s.condition .potOvertemp) true s)

/-- The stop bit of a reply's last byte ends (R189); a taken RESTART then acts (R193). -/
def replyEnds (pins : ResetPins) (s : State) : State :=
  if s.link.tx.isSending then
    if s.link.restartDue then restartPart pins s
    else s.setLink { s.link with tx := .quiet, owed := none }
  else s

end Sys2Proof.Machine
end

