-- ==== Sys2Proof/Machine/Timers.lean ====
section
/-! DEFINITION. The timers: what each expiry does, and the passing of one tick of 0.1 ms over every running timer (log 2, log 3).
An expiry command is the event of its timer reaching its length; it changes nothing while that timer does not run. -/

namespace Sys2Proof.Machine

/-! ### Extraction timers (R147, R148) -/

/-- A timer of the present state expires and leads to a new state; nothing happens while it does not run. -/
def extractionExpiry (states : List ExtState) (timer : Option Nat) (new : ExtState) (s : State) : State :=
  if s.extr.state ∈ states ∧ timer.isSome = true then extractionTo new s else s

/-- The prove timer expires in PROVING (R148). -/
def proveExpires (s : State) : State := extractionExpiry [.proving] s.extr.prove .failed s
/-- The qualify timer expires in PROVING or FAILED (R148). -/
def qualifyExpires (s : State) : State := extractionExpiry [.proving, .failed] s.extr.qualify .proven s
/-- The warn timer expires in PROVEN (R148). -/
def warnExpires (s : State) : State := extractionExpiry [.proven] s.extr.warn .warn s
/-- The fail timer expires in PROVEN or WARN (R148). -/
def failExpires (s : State) : State := extractionExpiry [.proven, .warn] s.extr.fail .failed s
/-- The feedback timer expires in PROVEN or WARN (R148). -/
def feedbackExpires (s : State) : State := extractionExpiry [.proven, .warn] s.extr.feedbackTimer .failed s
/-- The recover timer expires in WARN (R148). -/
def recoverExpires (s : State) : State := extractionExpiry [.warn] s.extr.recover .proven s

/-- The grace timer expires: it stops at the grace time, and forced standby becomes due (R151). -/
def graceExpires (s : State) : State :=
  match s.extr.grace with
  | .running _ => forcedTest (s.setExtr { s.extr with grace := .expired s.graceTicks, forcedDue := true })
  | .absent => s
  | .expired _ => s

/-- The clog timer expires: it is discarded, and FILTER_CLOG appears (R152). -/
def clogExpires (s : State) : State :=
  match s.extr.clog with
  | some _ => conditionAppears .filterClog (s.setExtr { s.extr with clog := none })
  | none => s

/-! ### Pot timers and the ALERT pulse -/

/-- The drive-hold timer reaches the level-hold time and stops (R120). -/
def driveHoldEnds (s : State) : State := s.setPot { s.pot with driveHold := none }

/-- The prove timer of the feeder reaches the feed prove time (R124); it pauses while the estimate is not LIVE. -/
def feedProveExpires (s : State) : State :=
  match s.pot.feeder with
  | .running _ _ => if s.pot.standing = .live then occur .feedFault (stopFeeder s) else s
  | .off => s

/-- No result of channel 6 has come within the stale time since the reset: the fume signal becomes HOT (R114). -/
def fumeTimesOut (s : State) : State := if s.pot.fumeJudged then s else judgeFume true s

/-- The low half of a pulse ends (R175). -/
def pulseEnds (a : Alert) : Alert :=
  match a.phase with
  | .low => { a with phase := .recovery }
  | .rest => a
  | .recovery => a

/-- The recovery of a pulse ends: a pending pulse begins (R175). -/
def recoveryEnds (a : Alert) : Alert :=
  match a.phase with
  | .recovery => if a.pending = 0 then { a with phase := .rest } else { a with phase := .low, pending := a.pending - 1 }
  | .rest => a
  | .low => a

/-! ### Edges of inputs -/

/-- The stopper sensor shows a board waiting, or none (R36). -/
def stopperEdge (present : Bool) (s : State) : State := s.setTracker { s.tracker with stopper := present }

/-- The pot trip thermostat changes (R106). -/
def tripEdge (active : Bool) (s : State) : State :=
  judgePotTrip (s.setHeat { s.heat with pot := { s.heat.pot with tripInput := active } })

/-- The maintenance key turns (R177). -/
def keyEdge (on : Bool) (s : State) : State := s.setStore { s.store with key := on }

/-! ### One tick (log 2) -/

/-- One tick of a timer that runs up to a length. -/
def tickTo (limit t : Nat) : Nat := min limit (t + 1)

/-- One tick of the Mode Controller's timers (R10, R11, R12, R19). -/
def tickModes (s : State) : ModeCtl :=
  let c := s.modes
  { c with
    holdTimer := if c.mode = .hold then tickTo s.holdLimitTicks c.holdTimer else c.holdTimer
    warm := c.warm.map fun w =>
      if s.supplyLow then w
      else match w.stage with
        | .extraction => w
        | .melt => { w with melt := tickTo (2 * s.soakTicks) w.melt }
        | .zones | .settle => { w with
            timers := w.timers.mapZones (fun _ x => match x with
              | .running t => .running (tickTo s.warmTimeoutTicks t)
              | .unstarted => .unstarted
              | .stopped => .stopped)
            settle := if w.stage = .settle ∧ s.allInBand = true then tickTo s.settleTicks w.settle else w.settle } }

/-- One tick of the entry timer (R38). -/
def tickTracker (s : State) : Tracker :=
  if s.tracker.conveyorRun then
    { s.tracker with admission := s.tracker.admission.map fun a =>
        { a with timer := a.timer.map (tickTo s.entryTimeoutTicks) } }
  else s.tracker

/-- One tick of the stroke or purge (R72, R78). -/
def tickSpray (x : Spray) : Spray :=
  { x with running := match x.running with
      | .idle => .idle
      | .stroke r => .stroke { r with elapsed := r.elapsed + 1, cellElapsed := r.cellElapsed + 1 }
      | .purge p t => .purge p (t + 1) }

/-- One tick of the Pot Controller's timers (R115, R116, R120, R124). -/
def tickPot (s : State) : PotCtl :=
  { s.pot with
    soak := match s.pot.soak with
      | .soaking t => .soaking (if s.supplyLow then t else tickTo s.soakTicks t)
      | .waiting => .waiting
      | .none => .none
    driveHold := s.pot.driveHold.map (tickTo s.levelHoldTicks)
    feeder := match s.pot.feeder with
      | .running b t => .running b (if s.pot.standing = .live then tickTo s.feedProveTicks t else t)
      | .off => .off }

/-- One tick of the dwell timer (R138). -/
def tickWave (s : State) : Wave :=
  { s.wave with phase := match s.wave.phase with
      | .search d t w => .search d t (tickTo s.dwellTicks w)
      | .writing d l => .writing d l
      | .none => .none }

/-- One tick of the Extraction Monitor's timers (R147, R151, R152). -/
def tickExtraction (s : State) : Extraction :=
  let e := s.extr
  { e with
    prove := e.prove.map (tickTo (secs s.tProve))
    qualify := e.qualify.map (tickTo (secs 2))
    recover := e.recover.map (tickTo (secs 2))
    warn := e.warn.map (tickTo (secs s.tWarn))
    fail := e.fail.map (tickTo (secs s.tFail))
    feedbackTimer := e.feedbackTimer.map (tickTo (secs 2))
    grace := match e.grace with
      | .running t => .running (tickTo s.graceTicks t)
      | .absent => .absent
      | .expired t => .expired t
    clog := e.clog.map (tickTo s.clogTicks) }

/-- One tick of 0.1 ms passes with no command waiting. -/
def tick (s : State) : State :=
  { s with modes := tickModes s, tracker := tickTracker s, spray := tickSpray s.spray, pot := tickPot s, wave := tickWave s,
           extr := tickExtraction s, uptime := s.uptime + 1 }

end Sys2Proof.Machine
end

