-- ==== Sys2Proof/Machine/RequestCommands.lean ====
section
/-! DEFINITION. The meanings of the requests: a whole frame of the request arrives (R188, R189), and its owner acts on it. -/

namespace Sys2Proof.Machine

/-- The outcome of a command that goes on. -/
abbrev Result := Host.Outcome State Fault Refusal

/-- CAPS (R185). -/
def execCaps (tag : Byte) (s : State) : Result := .next (requestArrives tag .caps s)
/-- STATUS (R174, R192). -/
def execStatus (tag : Byte) (s : State) : Result := .next (requestArrives tag .status s)
/-- ZONE_READ (R109). -/
def execZoneRead (tag : Byte) (s : State) : Result := .next (requestArrives tag .zoneRead s)
/-- POT_READ (R109, R128, R143), with the contact finger input as it stands at the event. -/
def execPotRead (tag : WithFinger Byte) (s : State) : Result :=
  .next (requestArrives tag.value .potRead (readFinger tag.finger s))
/-- EXTRACT_READ (R154). -/
def execExtractRead (tag : Byte) (s : State) : Result := .next (requestArrives tag .extractRead s)
/-- TRANSIT_READ (R55). -/
def execTransitRead (tag : Byte) (position : Byte) (s : State) : Result := .next (requestArrives tag (.transitRead position) s)
/-- MEASURE (R163). -/
def execMeasure (tag : Byte) (first last : Byte) (s : State) : Result := .next (requestArrives tag (.measure first last) s)
/-- START (R4, R13). -/
def execStart (tag : Byte) (s : State) : Result := .next (requestArrives tag .start s)
/-- RUN (R15). -/
def execRun (tag : Byte) (s : State) : Result := .next (requestArrives tag .run s)
/-- STOP (R16, R18). -/
def execStop (tag : Byte) (s : State) : Result := .next (requestArrives tag .stop s)
/-- HOLD (R17). -/
def execHold (tag : Byte) (s : State) : Result := .next (requestArrives tag .hold s)
/-- RESUME (R17, R18). -/
def execResume (tag : Byte) (s : State) : Result := .next (requestArrives tag .resume s)
/-- STANDBY (R14, R16, R18, R20). -/
def execStandby (tag : Byte) (s : State) : Result := .next (requestArrives tag .standby s)
/-- SHUTDOWN (R14, R16, R18, R20). -/
def execShutdown (tag : Byte) (s : State) : Result := .next (requestArrives tag .shutdown s)
/-- CLEAR_SAFE (R24). -/
def execClearSafe (tag : Byte) (s : State) : Result := .next (requestArrives tag .clearSafe s)
/-- SELECT_SET (R2, R184). -/
def execSelectSet (tag : Byte) (set : Byte) (s : State) : Result := .next (requestArrives tag (.selectSet set) s)
/-- ANNOUNCE (R32). -/
def execAnnounce (tag : Byte) (boardTag : Word16) (slot orientation : Byte) (s : State) : Result := .next (requestArrives tag (.announce boardTag slot orientation) s)
/-- WITHDRAW (R33). -/
def execWithdraw (tag : Byte) (boardTag : Word16) (s : State) : Result := .next (requestArrives tag (.withdraw boardTag) s)
/-- PURGE (R85). -/
def execPurge (tag : Byte) (s : State) : Result := .next (requestArrives tag .purge s)
/-- WAVE_CAL (R137). -/
def execWaveCal (tag : Byte) (s : State) : Result := .next (requestArrives tag .waveCal s)
/-- CAL_ABORT (R142). -/
def execCalAbort (tag : Byte) (s : State) : Result := .next (requestArrives tag .calAbort s)
/-- TRIM (R92). -/
def execTrim (tag : Byte) (zone : Byte) (value : Word16) (s : State) : Result := .next (requestArrives tag (.trim zone value) s)
/-- REPORT_TAKE (R173). -/
def execReportTake (tag : Byte) (s : State) : Result := .next (requestArrives tag .reportTake s)
/-- ALARM_READ (R171). -/
def execAlarmRead (tag : Byte) (s : State) : Result := .next (requestArrives tag .alarmRead s)
/-- ALARM_ACK (R168). -/
def execAlarmAck (tag : Byte) (kind : Byte) (s : State) : Result := .next (requestArrives tag (.alarmAck kind) s)
/-- ALERT_MODE (R176). -/
def execAlertMode (tag : Byte) (mode : Byte) (s : State) : Result := .next (requestArrives tag (.alertMode mode) s)
/-- CONFIG_READ (R185). -/
def execConfigRead (tag : Byte) (s : State) : Result := .next (requestArrives tag .configRead s)
/-- CONFIG_WRITE (R179, R180, R182). -/
def execConfigWrite (tag : Byte) (fields : List Word16) (s : State) : Result := .next (requestArrives tag (.configWrite fields) s)
/-- THERMAL_READ (R185). -/
def execThermalRead (tag : Byte) (set : Byte) (s : State) : Result := .next (requestArrives tag (.thermalRead set) s)
/-- THERMAL_WRITE (R181, R182). -/
def execThermalWrite (tag : Byte) (set : Byte) (fields : List Word16) (s : State) : Result := .next (requestArrives tag (.thermalWrite set fields) s)
/-- RECIPE_READ (R185). -/
def execRecipeRead (tag : Byte) (slot : Byte) (s : State) : Result := .next (requestArrives tag (.recipeRead slot) s)
/-- RECIPE_WRITE (R181, R182). -/
def execRecipeWrite (tag : Byte) (slot : Byte) (fields : RecipeFields) (s : State) : Result := .next (requestArrives tag (.recipeWrite slot fields) s)
/-- RECIPE_ERASE (R182). -/
def execRecipeErase (tag : Byte) (slot : Byte) (s : State) : Result := .next (requestArrives tag (.recipeErase slot) s)
/-- LOCK (R182). -/
def execLock (tag : Byte) (item number : Byte) (s : State) : Result := .next (requestArrives tag (.lock item number) s)
/-- UNLOCK (R182). -/
def execUnlock (tag : Byte) (item number : Byte) (s : State) : Result := .next (requestArrives tag (.unlock item number) s)
/-- RESTART (R193). -/
def execRestart (tag : Byte) (s : State) : Result := .next (requestArrives tag .restart s)

end Sys2Proof.Machine
end

