-- ==== Sys2Proof/Machine/BoardCommands.lean ====
section
/-! DEFINITION. The meanings of the commands of the Board Tracker, the Map Compositor and the Spray Controller. -/

namespace Sys2Proof.Machine

/-- COMPOSITION_COMPLETE (R60). -/
def execCompositionComplete (s : State) : Result := .next (completeComposition s)
/-- ENCODER_STEP (R28). -/
def execEncoderStep (forward : Bool) (s : State) : Result := .next (admissionTest (encoderSteps forward s))
/-- STOPPER_SENSOR_EDGE (R36). -/
def execStopperSensorEdge (present : Bool) (s : State) : Result := .next (admissionTest (stopperEdge present s))
/-- ENTRY_SENSOR_RISE (R39, R42). -/
def execEntrySensorRise (s : State) : Result := .next (admissionTest (entryRises s))
/-- ENTRY_SENSOR_FALL (R40, R42). -/
def execEntrySensorFall (s : State) : Result := .next (admissionTest (entryFalls s))
/-- ENTRY_TIMER_EXPIRY (R41). -/
def execEntryTimerExpiry (s : State) : Result := .next (admissionTest (entryTimesOut s))
/-- EXIT_SENSOR_RISE (R51). -/
def execExitSensorRise (s : State) : Result := .next (admissionTest (exitRises s))
/-- EXIT_SENSOR_FALL (R52, R54). -/
def execExitSensorFall (s : State) : Result := .next (admissionTest (exitFalls s))
/-- SPEED_WINDOW_END (R30). -/
def execSpeedWindowEnd (s : State) : Result := .next (admissionTest (speedWindowEnds s))
/-- STROKE_PHASE_END (R77). -/
def execStrokePhaseEnd (s : State) : Result := .next (strokePhaseEnds s)
/-- CELL_ENTRY (R78). -/
def execCellEntry (s : State) : Result := .next (cellEntered s)
/-- VALVE_OPEN_TIME_END (R78). -/
def execValveOpenTimeEnd (s : State) : Result := .next (valveTimeEnds s)
/-- STROKE_COMPLETION (R79). -/
def execStrokeCompletion (s : State) : Result := .next (admissionTest (strokeCompletes s))
/-- PURGE_PARK_END (R86). -/
def execPurgeParkEnd (s : State) : Result := .next (purgeParks s)
/-- PURGE_TIME_END (R86). -/
def execPurgeTimeEnd (s : State) : Result := .next (admissionTest (purgeCompletes s))

end Sys2Proof.Machine
end

