-- ==== Sys2Proof/Machine/LinkCommands.lean ====
section
/-! DEFINITION. The meanings of the resets, the start-up check, the line, the store operation, the key and the ALERT output. -/

namespace Sys2Proof.Machine

/-- PIN_RESET (R193). -/
def execPinReset (pins : ResetPins) (s : State) : Result := .next (pinReset pins s)
/-- STORE_START_UP_CHECK_END (R178). -/
def execStoreStartUpCheckEnd (found : StartUpFindings) (s : State) : Result := .next (startUpCheckEnds found s)
/-- BYTE_RECEIVED (R188, R189), with the contact finger input as it stands at the event. -/
def execByteReceived (b : WithFinger Byte) (s : State) : Result := .next (byteArrives b.value (readFinger b.finger s))
/-- BYTE_GAP_EXPIRY (R188). -/
def execByteGapExpiry (s : State) : Result := .next (gapExpires s)
/-- REPLY_SENT (R189, R193). -/
def execReplySent (pins : ResetPins) (s : State) : Result := .next (replyEnds pins s)
/-- STORE_OPERATION_COMPLETE (R183). -/
def execStoreOperationComplete (verified : Bool) (s : State) : Result := .next (storeCompletes verified s)
/-- MAINTENANCE_KEY_EDGE (R177). -/
def execMaintenanceKeyEdge (on : Bool) (s : State) : Result := .next (keyEdge on s)
/-- ALERT_PULSE_END (R175). -/
def execAlertPulseEnd (s : State) : Result := .next ({ s with alert := pulseEnds s.alert })
/-- ALERT_RECOVERY_END (R175). -/
def execAlertRecoveryEnd (s : State) : Result := .next ({ s with alert := recoveryEnds s.alert })

end Sys2Proof.Machine
end

