-- ==== Sys2Proof/Machine/ProcessCommands.lean ====
section
/-! DEFINITION. The meanings of the commands of the modes, the heaters, the pot, the wave, the extraction and the scanner. -/

namespace Sys2Proof.Machine

/-- HOLD_LIMIT_EXPIRY (R19). -/
def execHoldLimitExpiry (s : State) : Result := .next (admissionTest (holdLimitReached s))
/-- MELT_TIMER_EXPIRY (R7). -/
def execMeltTimerExpiry (s : State) : Result := .next (meltTimerExpires s)
/-- ZONE_WARM_TIMEOUT (R9). -/
def execZoneWarmTimeout (zone : ZoneId) (s : State) : Result := .next (zoneTimesOut zone s)
/-- SETTLE_TIME_EXPIRY (R10). -/
def execSettleTimeExpiry (s : State) : Result := .next (settleEnds s)
/-- SOAK_COMPLETE (R115). -/
def execSoakComplete (s : State) : Result := .next (soakCompletes s)
/-- HALF_CYCLE_SLOT_END (R97 to R100). -/
def execHalfCycleSlotEnd (s : State) : Result := .next (slotEnds s)
/-- BURNOUT_TEST_END (R156, R102). -/
def execBurnoutTestEnd (circuitOpen : Bool) (s : State) : Result := .next (admissionTest (burnoutEnds circuitOpen s))
/-- CONTROL_CONVERSION_END (R157 to R162). -/
def execControlConversionEnd (reading : Reading) (s : State) : Result := .next (admissionTest (controlConversion reading s))
/-- SINGLE_SHOT_CONVERSION_END (R163, R164). -/
def execSingleShotConversionEnd (reading : Reading) (s : State) : Result := .next (singleConversion reading s)
/-- STALE_MARKING (R160). -/
def execStaleMarking (channel : Fin 16) (s : State) : Result := .next (admissionTest (staleChannel channel.val s))
/-- FUME_FIRST_JUDGEMENT_TIMEOUT (R114). -/
def execFumeFirstJudgementTimeout (s : State) : Result := .next (admissionTest (fumeTimesOut s))
/-- POT_TRIP_EDGE (R106). -/
def execPotTripEdge (active : Bool) (s : State) : Result := .next (admissionTest (tripEdge active s))
/-- FAN_FEEDBACK_EDGE (R146). -/
def execFanFeedbackEdge (present : Bool) (s : State) : Result := .next (takeFeedback present s)
/-- DRIVE_HOLD_END (R120). -/
def execDriveHoldEnd (s : State) : Result := .next (driveHoldEnds s)
/-- FEED_PROVE_EXPIRY (R124). -/
def execFeedProveExpiry (s : State) : Result := .next (feedProveExpires s)
/-- DWELL_END (R138). -/
def execDwellEnd (wetted : Bool) (s : State) : Result := .next (dwellEnds wetted s)
/-- PROVE_TIMER_EXPIRY (R148). -/
def execProveTimerExpiry (s : State) : Result := .next (admissionTest (proveExpires s))
/-- QUALIFY_TIMER_EXPIRY (R148). -/
def execQualifyTimerExpiry (s : State) : Result := .next (admissionTest (qualifyExpires s))
/-- WARN_TIMER_EXPIRY (R148). -/
def execWarnTimerExpiry (s : State) : Result := .next (admissionTest (warnExpires s))
/-- FAIL_TIMER_EXPIRY (R148). -/
def execFailTimerExpiry (s : State) : Result := .next (admissionTest (failExpires s))
/-- FEEDBACK_TIMER_EXPIRY (R148). -/
def execFeedbackTimerExpiry (s : State) : Result := .next (admissionTest (feedbackExpires s))
/-- RECOVER_TIMER_EXPIRY (R148). -/
def execRecoverTimerExpiry (s : State) : Result := .next (admissionTest (recoverExpires s))
/-- GRACE_TIMER_EXPIRY (R151). -/
def execGraceTimerExpiry (s : State) : Result := .next (graceExpires s)
/-- CLOG_TIMER_EXPIRY (R152). -/
def execClogTimerExpiry (s : State) : Result := .next (clogExpires s)

end Sys2Proof.Machine
end

