-- ==== Sys2Proof/Machine/Dispatch.lean ====
section
/-! DEFINITION. The dispatch: one arm for each command, each one call of its meaning. -/

namespace Sys2Proof.Machine

def exec (i : Instr) (s : State) : Host.Outcome State Fault Refusal :=
  match i with
  | .pinReset pins => Sys2Proof.Machine.execPinReset pins s
  | .storeStartUpCheckEnd found => Sys2Proof.Machine.execStoreStartUpCheckEnd found s
  | .byteReceived b => Sys2Proof.Machine.execByteReceived b s
  | .byteGapExpiry => Sys2Proof.Machine.execByteGapExpiry s
  | .replySent pins => Sys2Proof.Machine.execReplySent pins s
  | .caps tag => Sys2Proof.Machine.execCaps tag s
  | .status tag => Sys2Proof.Machine.execStatus tag s
  | .zoneRead tag => Sys2Proof.Machine.execZoneRead tag s
  | .potRead tag => Sys2Proof.Machine.execPotRead tag s
  | .extractRead tag => Sys2Proof.Machine.execExtractRead tag s
  | .transitRead tag position => Sys2Proof.Machine.execTransitRead tag position s
  | .measure tag first last => Sys2Proof.Machine.execMeasure tag first last s
  | .start tag => Sys2Proof.Machine.execStart tag s
  | .run tag => Sys2Proof.Machine.execRun tag s
  | .stop tag => Sys2Proof.Machine.execStop tag s
  | .hold tag => Sys2Proof.Machine.execHold tag s
  | .resume tag => Sys2Proof.Machine.execResume tag s
  | .standby tag => Sys2Proof.Machine.execStandby tag s
  | .shutdown tag => Sys2Proof.Machine.execShutdown tag s
  | .clearSafe tag => Sys2Proof.Machine.execClearSafe tag s
  | .selectSet tag set => Sys2Proof.Machine.execSelectSet tag set s
  | .announce tag boardTag slot orientation => Sys2Proof.Machine.execAnnounce tag boardTag slot orientation s
  | .withdraw tag boardTag => Sys2Proof.Machine.execWithdraw tag boardTag s
  | .purge tag => Sys2Proof.Machine.execPurge tag s
  | .waveCal tag => Sys2Proof.Machine.execWaveCal tag s
  | .calAbort tag => Sys2Proof.Machine.execCalAbort tag s
  | .trim tag zone value => Sys2Proof.Machine.execTrim tag zone value s
  | .reportTake tag => Sys2Proof.Machine.execReportTake tag s
  | .alarmRead tag => Sys2Proof.Machine.execAlarmRead tag s
  | .alarmAck tag kind => Sys2Proof.Machine.execAlarmAck tag kind s
  | .alertMode tag mode => Sys2Proof.Machine.execAlertMode tag mode s
  | .configRead tag => Sys2Proof.Machine.execConfigRead tag s
  | .configWrite tag fields => Sys2Proof.Machine.execConfigWrite tag fields s
  | .thermalRead tag set => Sys2Proof.Machine.execThermalRead tag set s
  | .thermalWrite tag set fields => Sys2Proof.Machine.execThermalWrite tag set fields s
  | .recipeRead tag slot => Sys2Proof.Machine.execRecipeRead tag slot s
  | .recipeWrite tag slot fields => Sys2Proof.Machine.execRecipeWrite tag slot fields s
  | .recipeErase tag slot => Sys2Proof.Machine.execRecipeErase tag slot s
  | .lock tag item number => Sys2Proof.Machine.execLock tag item number s
  | .unlock tag item number => Sys2Proof.Machine.execUnlock tag item number s
  | .restart tag => Sys2Proof.Machine.execRestart tag s
  | .storeOperationComplete verified => Sys2Proof.Machine.execStoreOperationComplete verified s
  | .compositionComplete => Sys2Proof.Machine.execCompositionComplete s
  | .encoderStep forward => Sys2Proof.Machine.execEncoderStep forward s
  | .stopperSensorEdge present => Sys2Proof.Machine.execStopperSensorEdge present s
  | .entrySensorRise => Sys2Proof.Machine.execEntrySensorRise s
  | .entrySensorFall => Sys2Proof.Machine.execEntrySensorFall s
  | .entryTimerExpiry => Sys2Proof.Machine.execEntryTimerExpiry s
  | .exitSensorRise => Sys2Proof.Machine.execExitSensorRise s
  | .exitSensorFall => Sys2Proof.Machine.execExitSensorFall s
  | .speedWindowEnd => Sys2Proof.Machine.execSpeedWindowEnd s
  | .holdLimitExpiry => Sys2Proof.Machine.execHoldLimitExpiry s
  | .meltTimerExpiry => Sys2Proof.Machine.execMeltTimerExpiry s
  | .zoneWarmTimeout zone => Sys2Proof.Machine.execZoneWarmTimeout zone s
  | .settleTimeExpiry => Sys2Proof.Machine.execSettleTimeExpiry s
  | .soakComplete => Sys2Proof.Machine.execSoakComplete s
  | .strokePhaseEnd => Sys2Proof.Machine.execStrokePhaseEnd s
  | .cellEntry => Sys2Proof.Machine.execCellEntry s
  | .valveOpenTimeEnd => Sys2Proof.Machine.execValveOpenTimeEnd s
  | .strokeCompletion => Sys2Proof.Machine.execStrokeCompletion s
  | .purgeParkEnd => Sys2Proof.Machine.execPurgeParkEnd s
  | .purgeTimeEnd => Sys2Proof.Machine.execPurgeTimeEnd s
  | .halfCycleSlotEnd => Sys2Proof.Machine.execHalfCycleSlotEnd s
  | .burnoutTestEnd circuitOpen => Sys2Proof.Machine.execBurnoutTestEnd circuitOpen s
  | .controlConversionEnd reading => Sys2Proof.Machine.execControlConversionEnd reading s
  | .singleShotConversionEnd reading => Sys2Proof.Machine.execSingleShotConversionEnd reading s
  | .staleMarking channel => Sys2Proof.Machine.execStaleMarking channel s
  | .fumeFirstJudgementTimeout => Sys2Proof.Machine.execFumeFirstJudgementTimeout s
  | .potTripEdge active => Sys2Proof.Machine.execPotTripEdge active s
  | .fanFeedbackEdge present => Sys2Proof.Machine.execFanFeedbackEdge present s
  | .maintenanceKeyEdge on => Sys2Proof.Machine.execMaintenanceKeyEdge on s
  | .driveHoldEnd => Sys2Proof.Machine.execDriveHoldEnd s
  | .feedProveExpiry => Sys2Proof.Machine.execFeedProveExpiry s
  | .dwellEnd wetted => Sys2Proof.Machine.execDwellEnd wetted s
  | .proveTimerExpiry => Sys2Proof.Machine.execProveTimerExpiry s
  | .qualifyTimerExpiry => Sys2Proof.Machine.execQualifyTimerExpiry s
  | .warnTimerExpiry => Sys2Proof.Machine.execWarnTimerExpiry s
  | .failTimerExpiry => Sys2Proof.Machine.execFailTimerExpiry s
  | .feedbackTimerExpiry => Sys2Proof.Machine.execFeedbackTimerExpiry s
  | .recoverTimerExpiry => Sys2Proof.Machine.execRecoverTimerExpiry s
  | .graceTimerExpiry => Sys2Proof.Machine.execGraceTimerExpiry s
  | .clogTimerExpiry => Sys2Proof.Machine.execClogTimerExpiry s
  | .alertPulseEnd => Sys2Proof.Machine.execAlertPulseEnd s
  | .alertRecoveryEnd => Sys2Proof.Machine.execAlertRecoveryEnd s

end Sys2Proof.Machine
end

