-- ==== Sys2Proof/Laws/State.lean ====
section
/-! SUPPORT. Each update of one block of the state, field by field. -/

namespace Sys2Proof.Machine

@[simp] theorem setModes_modes (s : State) (x : ModeCtl) : (s.setModes x).modes = x := rfl
@[simp] theorem setModes_tracker (s : State) (x : ModeCtl) : (s.setModes x).tracker = s.tracker := rfl
@[simp] theorem setModes_maps (s : State) (x : ModeCtl) : (s.setModes x).maps = s.maps := rfl
@[simp] theorem setModes_spray (s : State) (x : ModeCtl) : (s.setModes x).spray = s.spray := rfl
@[simp] theorem setModes_heat (s : State) (x : ModeCtl) : (s.setModes x).heat = s.heat := rfl
@[simp] theorem setModes_pot (s : State) (x : ModeCtl) : (s.setModes x).pot = s.pot := rfl
@[simp] theorem setModes_wave (s : State) (x : ModeCtl) : (s.setModes x).wave = s.wave := rfl
@[simp] theorem setModes_extr (s : State) (x : ModeCtl) : (s.setModes x).extr = s.extr := rfl
@[simp] theorem setModes_scan (s : State) (x : ModeCtl) : (s.setModes x).scan = s.scan := rfl
@[simp] theorem setModes_alarms (s : State) (x : ModeCtl) : (s.setModes x).alarms = s.alarms := rfl
@[simp] theorem setModes_alert (s : State) (x : ModeCtl) : (s.setModes x).alert = s.alert := rfl
@[simp] theorem setModes_reports (s : State) (x : ModeCtl) : (s.setModes x).reports = s.reports := rfl
@[simp] theorem setModes_store (s : State) (x : ModeCtl) : (s.setModes x).store = s.store := rfl
@[simp] theorem setModes_link (s : State) (x : ModeCtl) : (s.setModes x).link = s.link := rfl
@[simp] theorem setModes_uptime (s : State) (x : ModeCtl) : (s.setModes x).uptime = s.uptime := rfl
@[simp] theorem setModes_freeIndex (s : State) (x : ModeCtl) : (s.setModes x).freeIndex = s.freeIndex := rfl
@[simp] theorem setModes_pending (s : State) (x : ModeCtl) : (s.setModes x).pending = s.pending := rfl

@[simp] theorem setTracker_modes (s : State) (x : Tracker) : (s.setTracker x).modes = s.modes := rfl
@[simp] theorem setTracker_tracker (s : State) (x : Tracker) : (s.setTracker x).tracker = x := rfl
@[simp] theorem setTracker_maps (s : State) (x : Tracker) : (s.setTracker x).maps = s.maps := rfl
@[simp] theorem setTracker_spray (s : State) (x : Tracker) : (s.setTracker x).spray = s.spray := rfl
@[simp] theorem setTracker_heat (s : State) (x : Tracker) : (s.setTracker x).heat = s.heat := rfl
@[simp] theorem setTracker_pot (s : State) (x : Tracker) : (s.setTracker x).pot = s.pot := rfl
@[simp] theorem setTracker_wave (s : State) (x : Tracker) : (s.setTracker x).wave = s.wave := rfl
@[simp] theorem setTracker_extr (s : State) (x : Tracker) : (s.setTracker x).extr = s.extr := rfl
@[simp] theorem setTracker_scan (s : State) (x : Tracker) : (s.setTracker x).scan = s.scan := rfl
@[simp] theorem setTracker_alarms (s : State) (x : Tracker) : (s.setTracker x).alarms = s.alarms := rfl
@[simp] theorem setTracker_alert (s : State) (x : Tracker) : (s.setTracker x).alert = s.alert := rfl
@[simp] theorem setTracker_reports (s : State) (x : Tracker) : (s.setTracker x).reports = s.reports := rfl
@[simp] theorem setTracker_store (s : State) (x : Tracker) : (s.setTracker x).store = s.store := rfl
@[simp] theorem setTracker_link (s : State) (x : Tracker) : (s.setTracker x).link = s.link := rfl
@[simp] theorem setTracker_uptime (s : State) (x : Tracker) : (s.setTracker x).uptime = s.uptime := rfl
@[simp] theorem setTracker_freeIndex (s : State) (x : Tracker) : (s.setTracker x).freeIndex = s.freeIndex := rfl
@[simp] theorem setTracker_pending (s : State) (x : Tracker) : (s.setTracker x).pending = s.pending := rfl

@[simp] theorem setSpray_modes (s : State) (x : Spray) : (s.setSpray x).modes = s.modes := rfl
@[simp] theorem setSpray_tracker (s : State) (x : Spray) : (s.setSpray x).tracker = s.tracker := rfl
@[simp] theorem setSpray_maps (s : State) (x : Spray) : (s.setSpray x).maps = s.maps := rfl
@[simp] theorem setSpray_spray (s : State) (x : Spray) : (s.setSpray x).spray = x := rfl
@[simp] theorem setSpray_heat (s : State) (x : Spray) : (s.setSpray x).heat = s.heat := rfl
@[simp] theorem setSpray_pot (s : State) (x : Spray) : (s.setSpray x).pot = s.pot := rfl
@[simp] theorem setSpray_wave (s : State) (x : Spray) : (s.setSpray x).wave = s.wave := rfl
@[simp] theorem setSpray_extr (s : State) (x : Spray) : (s.setSpray x).extr = s.extr := rfl
@[simp] theorem setSpray_scan (s : State) (x : Spray) : (s.setSpray x).scan = s.scan := rfl
@[simp] theorem setSpray_alarms (s : State) (x : Spray) : (s.setSpray x).alarms = s.alarms := rfl
@[simp] theorem setSpray_alert (s : State) (x : Spray) : (s.setSpray x).alert = s.alert := rfl
@[simp] theorem setSpray_reports (s : State) (x : Spray) : (s.setSpray x).reports = s.reports := rfl
@[simp] theorem setSpray_store (s : State) (x : Spray) : (s.setSpray x).store = s.store := rfl
@[simp] theorem setSpray_link (s : State) (x : Spray) : (s.setSpray x).link = s.link := rfl
@[simp] theorem setSpray_uptime (s : State) (x : Spray) : (s.setSpray x).uptime = s.uptime := rfl
@[simp] theorem setSpray_freeIndex (s : State) (x : Spray) : (s.setSpray x).freeIndex = s.freeIndex := rfl
@[simp] theorem setSpray_pending (s : State) (x : Spray) : (s.setSpray x).pending = s.pending := rfl

@[simp] theorem setHeat_modes (s : State) (x : Heaters) : (s.setHeat x).modes = s.modes := rfl
@[simp] theorem setHeat_tracker (s : State) (x : Heaters) : (s.setHeat x).tracker = s.tracker := rfl
@[simp] theorem setHeat_maps (s : State) (x : Heaters) : (s.setHeat x).maps = s.maps := rfl
@[simp] theorem setHeat_spray (s : State) (x : Heaters) : (s.setHeat x).spray = s.spray := rfl
@[simp] theorem setHeat_heat (s : State) (x : Heaters) : (s.setHeat x).heat = x := rfl
@[simp] theorem setHeat_pot (s : State) (x : Heaters) : (s.setHeat x).pot = s.pot := rfl
@[simp] theorem setHeat_wave (s : State) (x : Heaters) : (s.setHeat x).wave = s.wave := rfl
@[simp] theorem setHeat_extr (s : State) (x : Heaters) : (s.setHeat x).extr = s.extr := rfl
@[simp] theorem setHeat_scan (s : State) (x : Heaters) : (s.setHeat x).scan = s.scan := rfl
@[simp] theorem setHeat_alarms (s : State) (x : Heaters) : (s.setHeat x).alarms = s.alarms := rfl
@[simp] theorem setHeat_alert (s : State) (x : Heaters) : (s.setHeat x).alert = s.alert := rfl
@[simp] theorem setHeat_reports (s : State) (x : Heaters) : (s.setHeat x).reports = s.reports := rfl
@[simp] theorem setHeat_store (s : State) (x : Heaters) : (s.setHeat x).store = s.store := rfl
@[simp] theorem setHeat_link (s : State) (x : Heaters) : (s.setHeat x).link = s.link := rfl
@[simp] theorem setHeat_uptime (s : State) (x : Heaters) : (s.setHeat x).uptime = s.uptime := rfl
@[simp] theorem setHeat_freeIndex (s : State) (x : Heaters) : (s.setHeat x).freeIndex = s.freeIndex := rfl
@[simp] theorem setHeat_pending (s : State) (x : Heaters) : (s.setHeat x).pending = s.pending := rfl

@[simp] theorem setPot_modes (s : State) (x : PotCtl) : (s.setPot x).modes = s.modes := rfl
@[simp] theorem setPot_tracker (s : State) (x : PotCtl) : (s.setPot x).tracker = s.tracker := rfl
@[simp] theorem setPot_maps (s : State) (x : PotCtl) : (s.setPot x).maps = s.maps := rfl
@[simp] theorem setPot_spray (s : State) (x : PotCtl) : (s.setPot x).spray = s.spray := rfl
@[simp] theorem setPot_heat (s : State) (x : PotCtl) : (s.setPot x).heat = s.heat := rfl
@[simp] theorem setPot_pot (s : State) (x : PotCtl) : (s.setPot x).pot = x := rfl
@[simp] theorem setPot_wave (s : State) (x : PotCtl) : (s.setPot x).wave = s.wave := rfl
@[simp] theorem setPot_extr (s : State) (x : PotCtl) : (s.setPot x).extr = s.extr := rfl
@[simp] theorem setPot_scan (s : State) (x : PotCtl) : (s.setPot x).scan = s.scan := rfl
@[simp] theorem setPot_alarms (s : State) (x : PotCtl) : (s.setPot x).alarms = s.alarms := rfl
@[simp] theorem setPot_alert (s : State) (x : PotCtl) : (s.setPot x).alert = s.alert := rfl
@[simp] theorem setPot_reports (s : State) (x : PotCtl) : (s.setPot x).reports = s.reports := rfl
@[simp] theorem setPot_store (s : State) (x : PotCtl) : (s.setPot x).store = s.store := rfl
@[simp] theorem setPot_link (s : State) (x : PotCtl) : (s.setPot x).link = s.link := rfl
@[simp] theorem setPot_uptime (s : State) (x : PotCtl) : (s.setPot x).uptime = s.uptime := rfl
@[simp] theorem setPot_freeIndex (s : State) (x : PotCtl) : (s.setPot x).freeIndex = s.freeIndex := rfl
@[simp] theorem setPot_pending (s : State) (x : PotCtl) : (s.setPot x).pending = s.pending := rfl

@[simp] theorem setWave_modes (s : State) (x : Wave) : (s.setWave x).modes = s.modes := rfl
@[simp] theorem setWave_tracker (s : State) (x : Wave) : (s.setWave x).tracker = s.tracker := rfl
@[simp] theorem setWave_maps (s : State) (x : Wave) : (s.setWave x).maps = s.maps := rfl
@[simp] theorem setWave_spray (s : State) (x : Wave) : (s.setWave x).spray = s.spray := rfl
@[simp] theorem setWave_heat (s : State) (x : Wave) : (s.setWave x).heat = s.heat := rfl
@[simp] theorem setWave_pot (s : State) (x : Wave) : (s.setWave x).pot = s.pot := rfl
@[simp] theorem setWave_wave (s : State) (x : Wave) : (s.setWave x).wave = x := rfl
@[simp] theorem setWave_extr (s : State) (x : Wave) : (s.setWave x).extr = s.extr := rfl
@[simp] theorem setWave_scan (s : State) (x : Wave) : (s.setWave x).scan = s.scan := rfl
@[simp] theorem setWave_alarms (s : State) (x : Wave) : (s.setWave x).alarms = s.alarms := rfl
@[simp] theorem setWave_alert (s : State) (x : Wave) : (s.setWave x).alert = s.alert := rfl
@[simp] theorem setWave_reports (s : State) (x : Wave) : (s.setWave x).reports = s.reports := rfl
@[simp] theorem setWave_store (s : State) (x : Wave) : (s.setWave x).store = s.store := rfl
@[simp] theorem setWave_link (s : State) (x : Wave) : (s.setWave x).link = s.link := rfl
@[simp] theorem setWave_uptime (s : State) (x : Wave) : (s.setWave x).uptime = s.uptime := rfl
@[simp] theorem setWave_freeIndex (s : State) (x : Wave) : (s.setWave x).freeIndex = s.freeIndex := rfl
@[simp] theorem setWave_pending (s : State) (x : Wave) : (s.setWave x).pending = s.pending := rfl

@[simp] theorem setExtr_modes (s : State) (x : Extraction) : (s.setExtr x).modes = s.modes := rfl
@[simp] theorem setExtr_tracker (s : State) (x : Extraction) : (s.setExtr x).tracker = s.tracker := rfl
@[simp] theorem setExtr_maps (s : State) (x : Extraction) : (s.setExtr x).maps = s.maps := rfl
@[simp] theorem setExtr_spray (s : State) (x : Extraction) : (s.setExtr x).spray = s.spray := rfl
@[simp] theorem setExtr_heat (s : State) (x : Extraction) : (s.setExtr x).heat = s.heat := rfl
@[simp] theorem setExtr_pot (s : State) (x : Extraction) : (s.setExtr x).pot = s.pot := rfl
@[simp] theorem setExtr_wave (s : State) (x : Extraction) : (s.setExtr x).wave = s.wave := rfl
@[simp] theorem setExtr_extr (s : State) (x : Extraction) : (s.setExtr x).extr = x := rfl
@[simp] theorem setExtr_scan (s : State) (x : Extraction) : (s.setExtr x).scan = s.scan := rfl
@[simp] theorem setExtr_alarms (s : State) (x : Extraction) : (s.setExtr x).alarms = s.alarms := rfl
@[simp] theorem setExtr_alert (s : State) (x : Extraction) : (s.setExtr x).alert = s.alert := rfl
@[simp] theorem setExtr_reports (s : State) (x : Extraction) : (s.setExtr x).reports = s.reports := rfl
@[simp] theorem setExtr_store (s : State) (x : Extraction) : (s.setExtr x).store = s.store := rfl
@[simp] theorem setExtr_link (s : State) (x : Extraction) : (s.setExtr x).link = s.link := rfl
@[simp] theorem setExtr_uptime (s : State) (x : Extraction) : (s.setExtr x).uptime = s.uptime := rfl
@[simp] theorem setExtr_freeIndex (s : State) (x : Extraction) : (s.setExtr x).freeIndex = s.freeIndex := rfl
@[simp] theorem setExtr_pending (s : State) (x : Extraction) : (s.setExtr x).pending = s.pending := rfl

@[simp] theorem setScan_modes (s : State) (x : Scanner) : (s.setScan x).modes = s.modes := rfl
@[simp] theorem setScan_tracker (s : State) (x : Scanner) : (s.setScan x).tracker = s.tracker := rfl
@[simp] theorem setScan_maps (s : State) (x : Scanner) : (s.setScan x).maps = s.maps := rfl
@[simp] theorem setScan_spray (s : State) (x : Scanner) : (s.setScan x).spray = s.spray := rfl
@[simp] theorem setScan_heat (s : State) (x : Scanner) : (s.setScan x).heat = s.heat := rfl
@[simp] theorem setScan_pot (s : State) (x : Scanner) : (s.setScan x).pot = s.pot := rfl
@[simp] theorem setScan_wave (s : State) (x : Scanner) : (s.setScan x).wave = s.wave := rfl
@[simp] theorem setScan_extr (s : State) (x : Scanner) : (s.setScan x).extr = s.extr := rfl
@[simp] theorem setScan_scan (s : State) (x : Scanner) : (s.setScan x).scan = x := rfl
@[simp] theorem setScan_alarms (s : State) (x : Scanner) : (s.setScan x).alarms = s.alarms := rfl
@[simp] theorem setScan_alert (s : State) (x : Scanner) : (s.setScan x).alert = s.alert := rfl
@[simp] theorem setScan_reports (s : State) (x : Scanner) : (s.setScan x).reports = s.reports := rfl
@[simp] theorem setScan_store (s : State) (x : Scanner) : (s.setScan x).store = s.store := rfl
@[simp] theorem setScan_link (s : State) (x : Scanner) : (s.setScan x).link = s.link := rfl
@[simp] theorem setScan_uptime (s : State) (x : Scanner) : (s.setScan x).uptime = s.uptime := rfl
@[simp] theorem setScan_freeIndex (s : State) (x : Scanner) : (s.setScan x).freeIndex = s.freeIndex := rfl
@[simp] theorem setScan_pending (s : State) (x : Scanner) : (s.setScan x).pending = s.pending := rfl

@[simp] theorem setStore_modes (s : State) (x : Store) : (s.setStore x).modes = s.modes := rfl
@[simp] theorem setStore_tracker (s : State) (x : Store) : (s.setStore x).tracker = s.tracker := rfl
@[simp] theorem setStore_maps (s : State) (x : Store) : (s.setStore x).maps = s.maps := rfl
@[simp] theorem setStore_spray (s : State) (x : Store) : (s.setStore x).spray = s.spray := rfl
@[simp] theorem setStore_heat (s : State) (x : Store) : (s.setStore x).heat = s.heat := rfl
@[simp] theorem setStore_pot (s : State) (x : Store) : (s.setStore x).pot = s.pot := rfl
@[simp] theorem setStore_wave (s : State) (x : Store) : (s.setStore x).wave = s.wave := rfl
@[simp] theorem setStore_extr (s : State) (x : Store) : (s.setStore x).extr = s.extr := rfl
@[simp] theorem setStore_scan (s : State) (x : Store) : (s.setStore x).scan = s.scan := rfl
@[simp] theorem setStore_alarms (s : State) (x : Store) : (s.setStore x).alarms = s.alarms := rfl
@[simp] theorem setStore_alert (s : State) (x : Store) : (s.setStore x).alert = s.alert := rfl
@[simp] theorem setStore_reports (s : State) (x : Store) : (s.setStore x).reports = s.reports := rfl
@[simp] theorem setStore_store (s : State) (x : Store) : (s.setStore x).store = x := rfl
@[simp] theorem setStore_link (s : State) (x : Store) : (s.setStore x).link = s.link := rfl
@[simp] theorem setStore_uptime (s : State) (x : Store) : (s.setStore x).uptime = s.uptime := rfl
@[simp] theorem setStore_freeIndex (s : State) (x : Store) : (s.setStore x).freeIndex = s.freeIndex := rfl
@[simp] theorem setStore_pending (s : State) (x : Store) : (s.setStore x).pending = s.pending := rfl

@[simp] theorem setLink_modes (s : State) (x : Link) : (s.setLink x).modes = s.modes := rfl
@[simp] theorem setLink_tracker (s : State) (x : Link) : (s.setLink x).tracker = s.tracker := rfl
@[simp] theorem setLink_maps (s : State) (x : Link) : (s.setLink x).maps = s.maps := rfl
@[simp] theorem setLink_spray (s : State) (x : Link) : (s.setLink x).spray = s.spray := rfl
@[simp] theorem setLink_heat (s : State) (x : Link) : (s.setLink x).heat = s.heat := rfl
@[simp] theorem setLink_pot (s : State) (x : Link) : (s.setLink x).pot = s.pot := rfl
@[simp] theorem setLink_wave (s : State) (x : Link) : (s.setLink x).wave = s.wave := rfl
@[simp] theorem setLink_extr (s : State) (x : Link) : (s.setLink x).extr = s.extr := rfl
@[simp] theorem setLink_scan (s : State) (x : Link) : (s.setLink x).scan = s.scan := rfl
@[simp] theorem setLink_alarms (s : State) (x : Link) : (s.setLink x).alarms = s.alarms := rfl
@[simp] theorem setLink_alert (s : State) (x : Link) : (s.setLink x).alert = s.alert := rfl
@[simp] theorem setLink_reports (s : State) (x : Link) : (s.setLink x).reports = s.reports := rfl
@[simp] theorem setLink_store (s : State) (x : Link) : (s.setLink x).store = s.store := rfl
@[simp] theorem setLink_link (s : State) (x : Link) : (s.setLink x).link = x := rfl
@[simp] theorem setLink_uptime (s : State) (x : Link) : (s.setLink x).uptime = s.uptime := rfl
@[simp] theorem setLink_freeIndex (s : State) (x : Link) : (s.setLink x).freeIndex = s.freeIndex := rfl
@[simp] theorem setLink_pending (s : State) (x : Link) : (s.setLink x).pending = s.pending := rfl

@[simp] theorem setSlot_modes (s : State) (ch : Nat) (x : Slot) : (s.setSlot ch x).modes = s.modes := rfl
@[simp] theorem setSlot_tracker (s : State) (ch : Nat) (x : Slot) : (s.setSlot ch x).tracker = s.tracker := rfl
@[simp] theorem setSlot_maps (s : State) (ch : Nat) (x : Slot) : (s.setSlot ch x).maps = s.maps := rfl
@[simp] theorem setSlot_spray (s : State) (ch : Nat) (x : Slot) : (s.setSlot ch x).spray = s.spray := rfl
@[simp] theorem setSlot_heat (s : State) (ch : Nat) (x : Slot) : (s.setSlot ch x).heat = s.heat := rfl
@[simp] theorem setSlot_pot (s : State) (ch : Nat) (x : Slot) : (s.setSlot ch x).pot = s.pot := rfl
@[simp] theorem setSlot_wave (s : State) (ch : Nat) (x : Slot) : (s.setSlot ch x).wave = s.wave := rfl
@[simp] theorem setSlot_extr (s : State) (ch : Nat) (x : Slot) : (s.setSlot ch x).extr = s.extr := rfl
@[simp] theorem setSlot_alarms (s : State) (ch : Nat) (x : Slot) : (s.setSlot ch x).alarms = s.alarms := rfl
@[simp] theorem setSlot_alert (s : State) (ch : Nat) (x : Slot) : (s.setSlot ch x).alert = s.alert := rfl
@[simp] theorem setSlot_reports (s : State) (ch : Nat) (x : Slot) : (s.setSlot ch x).reports = s.reports := rfl
@[simp] theorem setSlot_store (s : State) (ch : Nat) (x : Slot) : (s.setSlot ch x).store = s.store := rfl
@[simp] theorem setSlot_link (s : State) (ch : Nat) (x : Slot) : (s.setSlot ch x).link = s.link := rfl
@[simp] theorem setSlot_uptime (s : State) (ch : Nat) (x : Slot) : (s.setSlot ch x).uptime = s.uptime := rfl
@[simp] theorem setSlot_freeIndex (s : State) (ch : Nat) (x : Slot) : (s.setSlot ch x).freeIndex = s.freeIndex := rfl
@[simp] theorem setSlot_pending (s : State) (ch : Nat) (x : Slot) : (s.setSlot ch x).pending = s.pending := rfl

@[simp] theorem updZone_modes (s : State) (k : ZoneId) (f : Zone → Zone) : (s.updZone k f).modes = s.modes := rfl
@[simp] theorem mapZones_modes (s : State) (f : ZoneId → Zone → Zone) : (s.mapZones f).modes = s.modes := rfl
@[simp] theorem updZone_tracker (s : State) (k : ZoneId) (f : Zone → Zone) : (s.updZone k f).tracker = s.tracker := rfl
@[simp] theorem mapZones_tracker (s : State) (f : ZoneId → Zone → Zone) : (s.mapZones f).tracker = s.tracker := rfl
@[simp] theorem updZone_maps (s : State) (k : ZoneId) (f : Zone → Zone) : (s.updZone k f).maps = s.maps := rfl
@[simp] theorem mapZones_maps (s : State) (f : ZoneId → Zone → Zone) : (s.mapZones f).maps = s.maps := rfl
@[simp] theorem updZone_spray (s : State) (k : ZoneId) (f : Zone → Zone) : (s.updZone k f).spray = s.spray := rfl
@[simp] theorem mapZones_spray (s : State) (f : ZoneId → Zone → Zone) : (s.mapZones f).spray = s.spray := rfl
@[simp] theorem updZone_pot (s : State) (k : ZoneId) (f : Zone → Zone) : (s.updZone k f).pot = s.pot := rfl
@[simp] theorem mapZones_pot (s : State) (f : ZoneId → Zone → Zone) : (s.mapZones f).pot = s.pot := rfl
@[simp] theorem updZone_wave (s : State) (k : ZoneId) (f : Zone → Zone) : (s.updZone k f).wave = s.wave := rfl
@[simp] theorem mapZones_wave (s : State) (f : ZoneId → Zone → Zone) : (s.mapZones f).wave = s.wave := rfl
@[simp] theorem updZone_extr (s : State) (k : ZoneId) (f : Zone → Zone) : (s.updZone k f).extr = s.extr := rfl
@[simp] theorem mapZones_extr (s : State) (f : ZoneId → Zone → Zone) : (s.mapZones f).extr = s.extr := rfl
@[simp] theorem updZone_scan (s : State) (k : ZoneId) (f : Zone → Zone) : (s.updZone k f).scan = s.scan := rfl
@[simp] theorem mapZones_scan (s : State) (f : ZoneId → Zone → Zone) : (s.mapZones f).scan = s.scan := rfl
@[simp] theorem updZone_alarms (s : State) (k : ZoneId) (f : Zone → Zone) : (s.updZone k f).alarms = s.alarms := rfl
@[simp] theorem mapZones_alarms (s : State) (f : ZoneId → Zone → Zone) : (s.mapZones f).alarms = s.alarms := rfl
@[simp] theorem updZone_alert (s : State) (k : ZoneId) (f : Zone → Zone) : (s.updZone k f).alert = s.alert := rfl
@[simp] theorem mapZones_alert (s : State) (f : ZoneId → Zone → Zone) : (s.mapZones f).alert = s.alert := rfl
@[simp] theorem updZone_reports (s : State) (k : ZoneId) (f : Zone → Zone) : (s.updZone k f).reports = s.reports := rfl
@[simp] theorem mapZones_reports (s : State) (f : ZoneId → Zone → Zone) : (s.mapZones f).reports = s.reports := rfl
@[simp] theorem updZone_store (s : State) (k : ZoneId) (f : Zone → Zone) : (s.updZone k f).store = s.store := rfl
@[simp] theorem mapZones_store (s : State) (f : ZoneId → Zone → Zone) : (s.mapZones f).store = s.store := rfl
@[simp] theorem updZone_link (s : State) (k : ZoneId) (f : Zone → Zone) : (s.updZone k f).link = s.link := rfl
@[simp] theorem mapZones_link (s : State) (f : ZoneId → Zone → Zone) : (s.mapZones f).link = s.link := rfl
@[simp] theorem updZone_uptime (s : State) (k : ZoneId) (f : Zone → Zone) : (s.updZone k f).uptime = s.uptime := rfl
@[simp] theorem mapZones_uptime (s : State) (f : ZoneId → Zone → Zone) : (s.mapZones f).uptime = s.uptime := rfl
@[simp] theorem updZone_freeIndex (s : State) (k : ZoneId) (f : Zone → Zone) : (s.updZone k f).freeIndex = s.freeIndex := rfl
@[simp] theorem mapZones_freeIndex (s : State) (f : ZoneId → Zone → Zone) : (s.mapZones f).freeIndex = s.freeIndex := rfl
@[simp] theorem updZone_pending (s : State) (k : ZoneId) (f : Zone → Zone) : (s.updZone k f).pending = s.pending := rfl
@[simp] theorem mapZones_pending (s : State) (f : ZoneId → Zone → Zone) : (s.mapZones f).pending = s.pending := rfl

@[simp] theorem mapRecords_modes (f : Record → Record) (s : State) : (mapRecords f s).modes = s.modes := rfl
@[simp] theorem updateRecord_modes (t : Nat) (f : Record → Record) (s : State) : (updateRecord t f s).modes = s.modes := rfl
@[simp] theorem dropRecord_modes (t : Nat) (s : State) : (dropRecord t s).modes = s.modes := rfl
@[simp] theorem mapRecords_maps (f : Record → Record) (s : State) : (mapRecords f s).maps = s.maps := rfl
@[simp] theorem updateRecord_maps (t : Nat) (f : Record → Record) (s : State) : (updateRecord t f s).maps = s.maps := rfl
@[simp] theorem dropRecord_maps (t : Nat) (s : State) : (dropRecord t s).maps = s.maps := rfl
@[simp] theorem mapRecords_spray (f : Record → Record) (s : State) : (mapRecords f s).spray = s.spray := rfl
@[simp] theorem updateRecord_spray (t : Nat) (f : Record → Record) (s : State) : (updateRecord t f s).spray = s.spray := rfl
@[simp] theorem dropRecord_spray (t : Nat) (s : State) : (dropRecord t s).spray = s.spray := rfl
@[simp] theorem mapRecords_heat (f : Record → Record) (s : State) : (mapRecords f s).heat = s.heat := rfl
@[simp] theorem updateRecord_heat (t : Nat) (f : Record → Record) (s : State) : (updateRecord t f s).heat = s.heat := rfl
@[simp] theorem dropRecord_heat (t : Nat) (s : State) : (dropRecord t s).heat = s.heat := rfl
@[simp] theorem mapRecords_pot (f : Record → Record) (s : State) : (mapRecords f s).pot = s.pot := rfl
@[simp] theorem updateRecord_pot (t : Nat) (f : Record → Record) (s : State) : (updateRecord t f s).pot = s.pot := rfl
@[simp] theorem dropRecord_pot (t : Nat) (s : State) : (dropRecord t s).pot = s.pot := rfl
@[simp] theorem mapRecords_wave (f : Record → Record) (s : State) : (mapRecords f s).wave = s.wave := rfl
@[simp] theorem updateRecord_wave (t : Nat) (f : Record → Record) (s : State) : (updateRecord t f s).wave = s.wave := rfl
@[simp] theorem dropRecord_wave (t : Nat) (s : State) : (dropRecord t s).wave = s.wave := rfl
@[simp] theorem mapRecords_extr (f : Record → Record) (s : State) : (mapRecords f s).extr = s.extr := rfl
@[simp] theorem updateRecord_extr (t : Nat) (f : Record → Record) (s : State) : (updateRecord t f s).extr = s.extr := rfl
@[simp] theorem dropRecord_extr (t : Nat) (s : State) : (dropRecord t s).extr = s.extr := rfl
@[simp] theorem mapRecords_scan (f : Record → Record) (s : State) : (mapRecords f s).scan = s.scan := rfl
@[simp] theorem updateRecord_scan (t : Nat) (f : Record → Record) (s : State) : (updateRecord t f s).scan = s.scan := rfl
@[simp] theorem dropRecord_scan (t : Nat) (s : State) : (dropRecord t s).scan = s.scan := rfl
@[simp] theorem mapRecords_alarms (f : Record → Record) (s : State) : (mapRecords f s).alarms = s.alarms := rfl
@[simp] theorem updateRecord_alarms (t : Nat) (f : Record → Record) (s : State) : (updateRecord t f s).alarms = s.alarms := rfl
@[simp] theorem dropRecord_alarms (t : Nat) (s : State) : (dropRecord t s).alarms = s.alarms := rfl
@[simp] theorem mapRecords_alert (f : Record → Record) (s : State) : (mapRecords f s).alert = s.alert := rfl
@[simp] theorem updateRecord_alert (t : Nat) (f : Record → Record) (s : State) : (updateRecord t f s).alert = s.alert := rfl
@[simp] theorem dropRecord_alert (t : Nat) (s : State) : (dropRecord t s).alert = s.alert := rfl
@[simp] theorem mapRecords_reports (f : Record → Record) (s : State) : (mapRecords f s).reports = s.reports := rfl
@[simp] theorem updateRecord_reports (t : Nat) (f : Record → Record) (s : State) : (updateRecord t f s).reports = s.reports := rfl
@[simp] theorem dropRecord_reports (t : Nat) (s : State) : (dropRecord t s).reports = s.reports := rfl
@[simp] theorem mapRecords_store (f : Record → Record) (s : State) : (mapRecords f s).store = s.store := rfl
@[simp] theorem updateRecord_store (t : Nat) (f : Record → Record) (s : State) : (updateRecord t f s).store = s.store := rfl
@[simp] theorem dropRecord_store (t : Nat) (s : State) : (dropRecord t s).store = s.store := rfl
@[simp] theorem mapRecords_link (f : Record → Record) (s : State) : (mapRecords f s).link = s.link := rfl
@[simp] theorem updateRecord_link (t : Nat) (f : Record → Record) (s : State) : (updateRecord t f s).link = s.link := rfl
@[simp] theorem dropRecord_link (t : Nat) (s : State) : (dropRecord t s).link = s.link := rfl
@[simp] theorem mapRecords_uptime (f : Record → Record) (s : State) : (mapRecords f s).uptime = s.uptime := rfl
@[simp] theorem updateRecord_uptime (t : Nat) (f : Record → Record) (s : State) : (updateRecord t f s).uptime = s.uptime := rfl
@[simp] theorem dropRecord_uptime (t : Nat) (s : State) : (dropRecord t s).uptime = s.uptime := rfl
@[simp] theorem mapRecords_freeIndex (f : Record → Record) (s : State) : (mapRecords f s).freeIndex = s.freeIndex := rfl
@[simp] theorem updateRecord_freeIndex (t : Nat) (f : Record → Record) (s : State) : (updateRecord t f s).freeIndex = s.freeIndex := rfl
@[simp] theorem dropRecord_freeIndex (t : Nat) (s : State) : (dropRecord t s).freeIndex = s.freeIndex := rfl
@[simp] theorem mapRecords_pending (f : Record → Record) (s : State) : (mapRecords f s).pending = s.pending := rfl
@[simp] theorem updateRecord_pending (t : Nat) (f : Record → Record) (s : State) : (updateRecord t f s).pending = s.pending := rfl
@[simp] theorem dropRecord_pending (t : Nat) (s : State) : (dropRecord t s).pending = s.pending := rfl

@[simp] theorem updWarm_tracker (s : State) (f : WarmUp → WarmUp) : (s.updWarm f).tracker = s.tracker := rfl
@[simp] theorem updWarm_maps (s : State) (f : WarmUp → WarmUp) : (s.updWarm f).maps = s.maps := rfl
@[simp] theorem updWarm_spray (s : State) (f : WarmUp → WarmUp) : (s.updWarm f).spray = s.spray := rfl
@[simp] theorem updWarm_heat (s : State) (f : WarmUp → WarmUp) : (s.updWarm f).heat = s.heat := rfl
@[simp] theorem updWarm_pot (s : State) (f : WarmUp → WarmUp) : (s.updWarm f).pot = s.pot := rfl
@[simp] theorem updWarm_wave (s : State) (f : WarmUp → WarmUp) : (s.updWarm f).wave = s.wave := rfl
@[simp] theorem updWarm_extr (s : State) (f : WarmUp → WarmUp) : (s.updWarm f).extr = s.extr := rfl
@[simp] theorem updWarm_scan (s : State) (f : WarmUp → WarmUp) : (s.updWarm f).scan = s.scan := rfl
@[simp] theorem updWarm_alarms (s : State) (f : WarmUp → WarmUp) : (s.updWarm f).alarms = s.alarms := rfl
@[simp] theorem updWarm_alert (s : State) (f : WarmUp → WarmUp) : (s.updWarm f).alert = s.alert := rfl
@[simp] theorem updWarm_reports (s : State) (f : WarmUp → WarmUp) : (s.updWarm f).reports = s.reports := rfl
@[simp] theorem updWarm_store (s : State) (f : WarmUp → WarmUp) : (s.updWarm f).store = s.store := rfl
@[simp] theorem updWarm_link (s : State) (f : WarmUp → WarmUp) : (s.updWarm f).link = s.link := rfl
@[simp] theorem updWarm_uptime (s : State) (f : WarmUp → WarmUp) : (s.updWarm f).uptime = s.uptime := rfl
@[simp] theorem updWarm_freeIndex (s : State) (f : WarmUp → WarmUp) : (s.updWarm f).freeIndex = s.freeIndex := rfl
@[simp] theorem updWarm_pending (s : State) (f : WarmUp → WarmUp) : (s.updWarm f).pending = s.pending := rfl

@[simp] theorem occurrence_modes (k : AlarmKind) (st : AlarmState) (s : State) : (occurrence k st s).modes = s.modes := rfl
@[simp] theorem occurrence_tracker (k : AlarmKind) (st : AlarmState) (s : State) : (occurrence k st s).tracker = s.tracker := rfl
@[simp] theorem occurrence_maps (k : AlarmKind) (st : AlarmState) (s : State) : (occurrence k st s).maps = s.maps := rfl
@[simp] theorem occurrence_spray (k : AlarmKind) (st : AlarmState) (s : State) : (occurrence k st s).spray = s.spray := rfl
@[simp] theorem occurrence_heat (k : AlarmKind) (st : AlarmState) (s : State) : (occurrence k st s).heat = s.heat := rfl
@[simp] theorem occurrence_pot (k : AlarmKind) (st : AlarmState) (s : State) : (occurrence k st s).pot = s.pot := rfl
@[simp] theorem occurrence_wave (k : AlarmKind) (st : AlarmState) (s : State) : (occurrence k st s).wave = s.wave := rfl
@[simp] theorem occurrence_extr (k : AlarmKind) (st : AlarmState) (s : State) : (occurrence k st s).extr = s.extr := rfl
@[simp] theorem occurrence_scan (k : AlarmKind) (st : AlarmState) (s : State) : (occurrence k st s).scan = s.scan := rfl
@[simp] theorem occurrence_reports (k : AlarmKind) (st : AlarmState) (s : State) : (occurrence k st s).reports = s.reports := rfl
@[simp] theorem occurrence_store (k : AlarmKind) (st : AlarmState) (s : State) : (occurrence k st s).store = s.store := rfl
@[simp] theorem occurrence_link (k : AlarmKind) (st : AlarmState) (s : State) : (occurrence k st s).link = s.link := rfl
@[simp] theorem occurrence_uptime (k : AlarmKind) (st : AlarmState) (s : State) : (occurrence k st s).uptime = s.uptime := rfl
@[simp] theorem occurrence_freeIndex (k : AlarmKind) (st : AlarmState) (s : State) : (occurrence k st s).freeIndex = s.freeIndex := rfl
@[simp] theorem occurrence_pending (k : AlarmKind) (st : AlarmState) (s : State) : (occurrence k st s).pending = s.pending := rfl
@[simp] theorem conditionEnds_modes (k : AlarmKind) (s : State) : (conditionEnds k s).modes = s.modes := rfl
@[simp] theorem conditionEnds_tracker (k : AlarmKind) (s : State) : (conditionEnds k s).tracker = s.tracker := rfl
@[simp] theorem conditionEnds_maps (k : AlarmKind) (s : State) : (conditionEnds k s).maps = s.maps := rfl
@[simp] theorem conditionEnds_spray (k : AlarmKind) (s : State) : (conditionEnds k s).spray = s.spray := rfl
@[simp] theorem conditionEnds_heat (k : AlarmKind) (s : State) : (conditionEnds k s).heat = s.heat := rfl
@[simp] theorem conditionEnds_pot (k : AlarmKind) (s : State) : (conditionEnds k s).pot = s.pot := rfl
@[simp] theorem conditionEnds_wave (k : AlarmKind) (s : State) : (conditionEnds k s).wave = s.wave := rfl
@[simp] theorem conditionEnds_extr (k : AlarmKind) (s : State) : (conditionEnds k s).extr = s.extr := rfl
@[simp] theorem conditionEnds_scan (k : AlarmKind) (s : State) : (conditionEnds k s).scan = s.scan := rfl
@[simp] theorem conditionEnds_alert (k : AlarmKind) (s : State) : (conditionEnds k s).alert = s.alert := rfl
@[simp] theorem conditionEnds_reports (k : AlarmKind) (s : State) : (conditionEnds k s).reports = s.reports := rfl
@[simp] theorem conditionEnds_store (k : AlarmKind) (s : State) : (conditionEnds k s).store = s.store := rfl
@[simp] theorem conditionEnds_link (k : AlarmKind) (s : State) : (conditionEnds k s).link = s.link := rfl
@[simp] theorem conditionEnds_uptime (k : AlarmKind) (s : State) : (conditionEnds k s).uptime = s.uptime := rfl
@[simp] theorem conditionEnds_freeIndex (k : AlarmKind) (s : State) : (conditionEnds k s).freeIndex = s.freeIndex := rfl
@[simp] theorem conditionEnds_pending (k : AlarmKind) (s : State) : (conditionEnds k s).pending = s.pending := rfl

end Sys2Proof.Machine
end

