-- ==== Sys2Proof/Laws/Containers.lean ====
section
/-! SUPPORT. The small containers: what a read gives after a write. -/

namespace Sys2Proof.Machine

@[simp] theorem six_get_set_same {α : Type} (v : Six α) (k : ZoneId) (a : α) : (v.set k a).get k = a := by
  cases k <;> rfl

theorem six_get_set_other {α : Type} (v : Six α) (k j : ZoneId) (a : α) (h : j ≠ k) : (v.set k a).get j = v.get j := by
  cases k <;> cases j <;> first | rfl | exact absurd rfl h

@[simp] theorem six_get_mapZones {α β : Type} (f : ZoneId → α → β) (v : Six α) (k : ZoneId) :
    (v.mapZones f).get k = f k (v.get k) := by cases k <;> rfl

@[simp] theorem six_get_same {α : Type} (a : α) (k : ZoneId) : (Six.same a).get k = a := by cases k <;> rfl

@[simp] theorem four_get_set_same {α : Type} (v : Four α) (k : BufferId) (a : α) : (v.set k a).get k = a := by
  cases k <;> rfl

theorem four_get_set_other {α : Type} (v : Four α) (k j : BufferId) (a : α) (h : j ≠ k) : (v.set k a).get j = v.get j := by
  cases k <;> cases j <;> first | rfl | exact absurd rfl h

@[simp] theorem alarms_get_set_same (t : AlarmTable) (k : AlarmKind) (e : AlarmEntry) : (t.set k e).get k = e := by
  cases k <;> rfl

theorem alarms_get_set_other (t : AlarmTable) (k j : AlarmKind) (e : AlarmEntry) (h : j ≠ k) :
    (t.set k e).get j = t.get j := by
  cases k <;> cases j <;> first | rfl | exact absurd rfl h

@[simp] theorem alarms_get_mapEntries (f : AlarmKind → AlarmEntry → AlarmEntry) (t : AlarmTable) (k : AlarmKind) :
    (t.mapEntries f).get k = f k (t.get k) := by cases k <;> rfl

/-- A slot of the scanner is changed by a write to that channel alone. -/
theorem slot_setSlot_other (s : State) (ch c : Nat) (x : Slot) (h : c ≠ ch) : (s.setSlot ch x).slot c = s.slot c := by
  simp [State.slot, State.setSlot, List.getD, h.symm]

end Sys2Proof.Machine
end

