-- ==== Sys2Proof/Laws/Quiet.lean ====
section
/-! SUPPORT. Frames of the operations below the Mode Controller: none of them touches the machine mode, the reports, the
scanner, the store, the link, the clock or the queue of commands. -/

namespace Sys2Proof.Machine

/-- The blocks that the operations below the Mode Controller leave alone. -/
structure Quiet where
  modes : ModeCtl
  reports : Reports
  scan : Scanner
  store : Store
  link : Link
  uptime : Nat
  freeIndex : Nat
  pending : List Instr

/-- Those blocks of a state. -/
def State.quiet (s : State) : Quiet :=
  { modes := s.modes, reports := s.reports, scan := s.scan, store := s.store, link := s.link, uptime := s.uptime,
    freeIndex := s.freeIndex, pending := s.pending }

@[simp] theorem setTracker_quiet (s : State) (x : Tracker) :
    (s.setTracker x).quiet = s.quiet := rfl

@[simp] theorem setSpray_quiet (s : State) (x : Spray) :
    (s.setSpray x).quiet = s.quiet := rfl

@[simp] theorem setHeat_quiet (s : State) (x : Heaters) :
    (s.setHeat x).quiet = s.quiet := rfl

@[simp] theorem setPot_quiet (s : State) (x : PotCtl) :
    (s.setPot x).quiet = s.quiet := rfl

@[simp] theorem setWave_quiet (s : State) (x : Wave) :
    (s.setWave x).quiet = s.quiet := rfl

@[simp] theorem setExtr_quiet (s : State) (x : Extraction) :
    (s.setExtr x).quiet = s.quiet := rfl

@[simp] theorem updZone_quiet (s : State) (k : ZoneId) (f : Zone → Zone) :
    (s.updZone k f).quiet = s.quiet := rfl

@[simp] theorem mapZones_quiet (s : State) (f : ZoneId → Zone → Zone) :
    (s.mapZones f).quiet = s.quiet := rfl

@[simp] theorem occurrence_quiet (k : AlarmKind) (st : AlarmState) (s : State) :
    (occurrence k st s).quiet = s.quiet := rfl

@[simp] theorem conditionEnds_quiet (k : AlarmKind) (s : State) :
    (conditionEnds k s).quiet = s.quiet := rfl

@[simp] theorem eventOccurs_quiet (k : AlarmKind) (s : State) :
    (eventOccurs k s).quiet = s.quiet := rfl

@[simp] theorem mapRecords_quiet (f : Record → Record) (s : State) :
    (mapRecords f s).quiet = s.quiet := rfl

@[simp] theorem updateRecord_quiet (tag : Nat) (f : Record → Record) (s : State) :
    (updateRecord tag f s).quiet = s.quiet := rfl

@[simp] theorem dropRecord_quiet (tag : Nat) (s : State) :
    (dropRecord tag s).quiet = s.quiet := rfl

@[simp] theorem takeBuffer_quiet (b : BufferId) (tag : Nat) (recipe : Recipe) (s : State) :
    (takeBuffer b tag recipe s).quiet = s.quiet := rfl

@[simp] theorem conditionAppears_quiet (k : AlarmKind) (s : State) :
    (conditionAppears k s).quiet = s.quiet := by unfold conditionAppears; split <;> simp

@[simp] theorem compositionTest_quiet (s : State) :
    (compositionTest s).quiet = s.quiet := by
  unfold compositionTest
  repeat' split
  all_goals rfl

@[simp] theorem releaseBuffer_quiet (b : BufferId) (s : State) :
    (releaseBuffer b s).quiet = s.quiet := by
  unfold releaseBuffer
  dsimp only
  repeat' split
  all_goals first | simp; done | rfl | (simp; rfl)

@[simp] theorem completeComposition_quiet (s : State) :
    (completeComposition s).quiet = s.quiet := by
  unfold completeComposition
  dsimp only
  repeat' split
  all_goals first | simp; done | rfl | (simp; rfl)

@[simp] theorem rowResolved_quiet (b : BufferId) (s : State) :
    (rowResolved b s).quiet = s.quiet := by
  unfold rowResolved
  dsimp only
  repeat' split
  all_goals first | simp; done | rfl | (simp; rfl)

@[simp] theorem skipRow_quiet (tag : Nat) (b : BufferId) (k : ExcKind) (dose : Nat) (s : State) :
    (skipRow tag b k dose s).quiet = s.quiet := by unfold skipRow; simp

@[simp] theorem sprayRow_quiet (tag : Nat) (b : BufferId) (dose : Nat) (s : State) :
    (sprayRow tag b dose s).quiet = s.quiet := by unfold sprayRow; simp

@[simp] theorem beginStroke_quiet (e : StrokeEntry) (s : State) :
    (beginStroke e s).quiet = s.quiet := rfl

@[simp] theorem dropRow_quiet (e : StrokeEntry) (k : ExcKind) (pressure : Bool) (s : State) :
    (dropRow e k pressure s).quiet = s.quiet := by unfold dropRow; split <;> simp

@[simp] theorem serveRows_quiet (es : List StrokeEntry) (s : State) : (serveRows es s).quiet = s.quiet := by
  induction es generalizing s with
  | nil => rfl
  | cons e rest ih => unfold serveRows; split <;> simp [ih]

@[simp] theorem serveQueue_quiet (s : State) :
    (serveQueue s).quiet = s.quiet := by unfold serveQueue; split <;> simp

@[simp] theorem rowArrives_quiet (e : StrokeEntry) (s : State) :
    (rowArrives e s).quiet = s.quiet := by
  unfold rowArrives
  repeat' split
  all_goals simp

@[simp] theorem haltTraverse_quiet (s : State) :
    (haltTraverse s).quiet = s.quiet := rfl

@[simp] theorem cutStroke_quiet (k : ExcKind) (s : State) :
    (cutStroke k s).quiet = s.quiet := by unfold cutStroke; split <;> simp

@[simp] theorem cutPurge_quiet (s : State) :
    (cutPurge s).quiet = s.quiet := by unfold cutPurge; split <;> simp

@[simp] theorem skipRows_quiet (es : List StrokeEntry) (s : State) : (skipRows es s).quiet = s.quiet := by
  induction es generalizing s with
  | nil => rfl
  | cons e rest ih => unfold skipRows; simp [ih]

@[simp] theorem spraySafe_quiet (s : State) :
    (spraySafe s).quiet = s.quiet := by unfold spraySafe; simp

@[simp] theorem sprayExtractionLost_quiet (s : State) :
    (sprayExtractionLost s).quiet = s.quiet := by unfold sprayExtractionLost; split <;> simp

@[simp] theorem sprayClear_quiet (tag : Nat) (s : State) :
    (sprayClear tag s).quiet = s.quiet := by
  unfold sprayClear
  dsimp only
  repeat' split
  all_goals simp

@[simp] theorem strokePhaseEnds_quiet (s : State) :
    (strokePhaseEnds s).quiet = s.quiet := by unfold strokePhaseEnds; split <;> (try split) <;> simp

@[simp] theorem cellEntered_quiet (s : State) :
    (cellEntered s).quiet = s.quiet := by unfold cellEntered; split <;> (try split) <;> simp

@[simp] theorem valveTimeEnds_quiet (s : State) :
    (valveTimeEnds s).quiet = s.quiet := by unfold valveTimeEnds; split <;> (try split) <;> simp

@[simp] theorem strokeCompletes_quiet (s : State) :
    (strokeCompletes s).quiet = s.quiet := by unfold strokeCompletes; split <;> (try split) <;> simp

@[simp] theorem beginPurge_quiet (s : State) :
    (beginPurge s).quiet = s.quiet := by unfold beginPurge; split <;> simp

@[simp] theorem purgeParks_quiet (s : State) :
    (purgeParks s).quiet = s.quiet := by unfold purgeParks; split <;> simp

@[simp] theorem purgeCompletes_quiet (s : State) :
    (purgeCompletes s).quiet = s.quiet := by unfold purgeCompletes; split <;> simp

@[simp] theorem settleLoops_quiet (s : State) :
    (settleLoops s).quiet = s.quiet := rfl

@[simp] theorem updateZoneLoop_quiet (k : ZoneId) (t : Int) (s : State) :
    (updateZoneLoop k t s).quiet = s.quiet := rfl

@[simp] theorem updatePotLoop_quiet (t : Int) (s : State) :
    (updatePotLoop t s).quiet = s.quiet := rfl

@[simp] theorem cutZoneLoop_quiet (k : ZoneId) (s : State) :
    (cutZoneLoop k s).quiet = s.quiet := rfl

@[simp] theorem cutPotLoop_quiet (s : State) :
    (cutPotLoop s).quiet = s.quiet := rfl

@[simp] theorem shareGrants_quiet (s : State) :
    (shareGrants s).quiet = s.quiet := by unfold shareGrants; split <;> simp

@[simp] theorem setCutMarks_quiet (s : State) :
    (setCutMarks s).quiet = s.quiet := rfl

@[simp] theorem fireSlot_quiet (s : State) :
    (fireSlot s).quiet = s.quiet := rfl

@[simp] theorem startFrame_quiet (s : State) :
    (startFrame s).quiet = s.quiet := by unfold startFrame; simp

@[simp] theorem slotEnds_quiet (s : State) :
    (slotEnds s).quiet = s.quiet := by unfold slotEnds; split <;> simp

@[simp] theorem zeroGrants_quiet (s : State) :
    (zeroGrants s).quiet = s.quiet := rfl

@[simp] theorem judgeSupply_quiet (s : State) :
    (judgeSupply s).quiet = s.quiet := by unfold judgeSupply; split <;> simp

@[simp] theorem clearWarmFail_quiet (s : State) :
    (clearWarmFail s).quiet = s.quiet := rfl

@[simp] theorem startStandbyZones_quiet (s : State) :
    (startStandbyZones s).quiet = s.quiet := rfl

@[simp] theorem idleMarks_quiet (s : State) :
    (idleMarks s).quiet = s.quiet := rfl

@[simp] theorem giveBoosts_quiet (s : State) :
    (giveBoosts s).quiet = s.quiet := rfl

@[simp] theorem readFinger_quiet (wetted : Bool) (s : State) :
    (readFinger wetted s).quiet = s.quiet := rfl

@[simp] theorem driveWave_quiet (out : Nat) (s : State) :
    (driveWave out s).quiet = s.quiet := by unfold driveWave; split <;> rfl

@[simp] theorem waveSync_quiet (s : State) :
    (waveSync s).quiet = s.quiet := by unfold waveSync; simp

@[simp] theorem judgeSide_quiet (side : WaveSide) (s : State) :
    (judgeSide side s).quiet = s.quiet := by unfold judgeSide; split <;> (try split) <;> simp

@[simp] theorem computeDrive_quiet (level : Int) (s : State) :
    (computeDrive level s).quiet = s.quiet := by unfold computeDrive; simp

@[simp] theorem waveAtMode_quiet (old new : Mode) (s : State) :
    (waveAtMode old new s).quiet = s.quiet := by unfold waveAtMode; split <;> (try split) <;> simp

@[simp] theorem stopFeeder_quiet (s : State) :
    (stopFeeder s).quiet = s.quiet := rfl

@[simp] theorem feedTest_quiet (v : Int) (s : State) :
    (feedTest v s).quiet = s.quiet := by unfold feedTest; split <;> simp

@[simp] theorem feedTestNow_quiet (s : State) :
    (feedTestNow s).quiet = s.quiet := by unfold feedTestNow; split <;> simp

@[simp] theorem feedUpdate_quiet (v : Int) (s : State) :
    (feedUpdate v s).quiet = s.quiet := by
  unfold feedUpdate
  repeat' split
  all_goals simp

@[simp] theorem feedAtActivity_quiet (s : State) :
    (feedAtActivity s).quiet = s.quiet := by unfold feedAtActivity; split <;> simp

@[simp] theorem afterLoops_quiet (s : State) :
    (afterLoops s).quiet = s.quiet := by unfold afterLoops; simp

@[simp] theorem judgeQuiet_quiet (k : AlarmKind) (present : Bool) (s : State) :
    (judgeQuiet k present s).quiet = s.quiet := by unfold judgeQuiet; split <;> simp

@[simp] theorem changeExtraction_quiet (new : ExtState) (s : State) :
    (changeExtraction new s).quiet = s.quiet := by
  unfold changeExtraction
  dsimp only
  repeat' split
  all_goals simp

@[simp] theorem fanSync_quiet (s : State) :
    (fanSync s).quiet = s.quiet := by unfold fanSync; split <;> (try split) <;> simp

@[simp] theorem takeSuction_quiet (c : Suction) (s : State) :
    (takeSuction c s).quiet = s.quiet := rfl

@[simp] theorem watchFilter_quiet (v : Int) (s : State) :
    (watchFilter v s).quiet = s.quiet := by
  unfold watchFilter
  repeat' split
  all_goals simp

@[simp] theorem takeFeedback_quiet (b : Bool) (s : State) :
    (takeFeedback b s).quiet = s.quiet := rfl

@[simp] theorem conveyorSync_quiet (s : State) :
    (conveyorSync s).quiet = s.quiet := by unfold conveyorSync; split <;> (try split) <;> simp

@[simp] theorem leaveWarmup_quiet (s : State) :
    (leaveWarmup s).quiet = s.quiet := rfl

@[simp] theorem entryMarks_quiet (new : Mode) (s : State) :
    (entryMarks new s).quiet = s.quiet := by unfold entryMarks; split <;> simp

@[simp] theorem failSearch_quiet (cause : CalCause) (s : State) :
    (failSearch cause s).quiet = s.quiet := by unfold failSearch; simp

@[simp] theorem searchAtSafe_quiet (s : State) :
    (searchAtSafe s).quiet = s.quiet := by unfold searchAtSafe; split <;> simp

@[simp] theorem passAtSafe_quiet (s : State) :
    (passAtSafe s).quiet = s.quiet := rfl

@[simp] theorem closeGate_quiet (s : State) :
    (closeGate s).quiet = s.quiet := rfl

@[simp] theorem trackAtMode_quiet (new : Mode) (s : State) :
    (trackAtMode new s).quiet = s.quiet := by unfold trackAtMode; split <;> simp

@[simp] theorem sprayAtMode_quiet (new : Mode) (s : State) :
    (sprayAtMode new s).quiet = s.quiet := by unfold sprayAtMode; split <;> (try split) <;> simp

@[simp] theorem supplyAtMode_quiet (old new : Mode) (s : State) :
    (supplyAtMode old new s).quiet = s.quiet := by unfold supplyAtMode; split <;> simp

end Sys2Proof.Machine
end

