-- ==== Sys2Proof/Laws/Far.lean ====
section
/-! SUPPORT. Frames of the Mode Controller, the warm-up and the delivery of results: none of them touches the reports, the
scanner, the store, the link, the clock or the queue of commands. -/

namespace Sys2Proof.Machine

/-- The blocks that a mode change or a delivered result leaves alone. -/
structure Far where
  reports : Reports
  scan : Scanner
  store : Store
  link : Link
  uptime : Nat
  freeIndex : Nat
  pending : List Instr

/-- Those blocks of a state. -/
def State.far (s : State) : Far :=
  { reports := s.reports, scan := s.scan, store := s.store, link := s.link, uptime := s.uptime,
    freeIndex := s.freeIndex, pending := s.pending }

/-- What leaves the machine mode alone as well leaves these blocks alone. -/
theorem far_of_quiet {s t : State} (h : t.quiet = s.quiet) : t.far = s.far :=
  congrArg (fun q : Quiet => Far.mk q.reports q.scan q.store q.link q.uptime q.freeIndex q.pending) h

@[simp] theorem setTracker_far (s : State) (x : Tracker) :
    (s.setTracker x).far = s.far := far_of_quiet (setTracker_quiet _ _)

@[simp] theorem setHeat_far (s : State) (x : Heaters) :
    (s.setHeat x).far = s.far := far_of_quiet (setHeat_quiet _ _)

@[simp] theorem setPot_far (s : State) (x : PotCtl) :
    (s.setPot x).far = s.far := far_of_quiet (setPot_quiet _ _)

@[simp] theorem setWave_far (s : State) (x : Wave) :
    (s.setWave x).far = s.far := far_of_quiet (setWave_quiet _ _)

@[simp] theorem setExtr_far (s : State) (x : Extraction) :
    (s.setExtr x).far = s.far := far_of_quiet (setExtr_quiet _ _)

@[simp] theorem updZone_far (s : State) (k : ZoneId) (f : Zone → Zone) :
    (s.updZone k f).far = s.far := far_of_quiet (updZone_quiet _ _ _)

@[simp] theorem mapZones_far (s : State) (f : ZoneId → Zone → Zone) :
    (s.mapZones f).far = s.far := far_of_quiet (mapZones_quiet _ _)

@[simp] theorem conditionAppears_far (k : AlarmKind) (s : State) :
    (conditionAppears k s).far = s.far := far_of_quiet (conditionAppears_quiet _ _)

@[simp] theorem conditionEnds_far (k : AlarmKind) (s : State) :
    (conditionEnds k s).far = s.far := far_of_quiet (conditionEnds_quiet _ _)

@[simp] theorem eventOccurs_far (k : AlarmKind) (s : State) :
    (eventOccurs k s).far = s.far := far_of_quiet (eventOccurs_quiet _ _)

@[simp] theorem mapRecords_far (f : Record → Record) (s : State) :
    (mapRecords f s).far = s.far := far_of_quiet (mapRecords_quiet _ _)

@[simp] theorem updateRecord_far (tag : Nat) (f : Record → Record) (s : State) :
    (updateRecord tag f s).far = s.far := far_of_quiet (updateRecord_quiet _ _ _)

@[simp] theorem dropRecord_far (tag : Nat) (s : State) :
    (dropRecord tag s).far = s.far := far_of_quiet (dropRecord_quiet _ _)

@[simp] theorem afterLoops_far (s : State) :
    (afterLoops s).far = s.far := far_of_quiet (afterLoops_quiet _)

@[simp] theorem settleLoops_far (s : State) :
    (settleLoops s).far = s.far := far_of_quiet (settleLoops_quiet _)

@[simp] theorem changeExtraction_far (new : ExtState) (s : State) :
    (changeExtraction new s).far = s.far := far_of_quiet (changeExtraction_quiet _ _)

@[simp] theorem sprayAtMode_far (new : Mode) (s : State) :
    (sprayAtMode new s).far = s.far := far_of_quiet (sprayAtMode_quiet _ _)

@[simp] theorem conveyorSync_far (s : State) :
    (conveyorSync s).far = s.far := far_of_quiet (conveyorSync_quiet _)

@[simp] theorem closeGate_far (s : State) :
    (closeGate s).far = s.far := far_of_quiet (closeGate_quiet _)

@[simp] theorem trackAtMode_far (new : Mode) (s : State) :
    (trackAtMode new s).far = s.far := far_of_quiet (trackAtMode_quiet _ _)

@[simp] theorem passAtSafe_far (s : State) :
    (passAtSafe s).far = s.far := far_of_quiet (passAtSafe_quiet _)

@[simp] theorem searchAtSafe_far (s : State) :
    (searchAtSafe s).far = s.far := far_of_quiet (searchAtSafe_quiet _)

@[simp] theorem failSearch_far (cause : CalCause) (s : State) :
    (failSearch cause s).far = s.far := far_of_quiet (failSearch_quiet _ _)

@[simp] theorem waveAtMode_far (old new : Mode) (s : State) :
    (waveAtMode old new s).far = s.far := far_of_quiet (waveAtMode_quiet _ _ _)

@[simp] theorem waveSync_far (s : State) :
    (waveSync s).far = s.far := far_of_quiet (waveSync_quiet _)

@[simp] theorem fanSync_far (s : State) :
    (fanSync s).far = s.far := far_of_quiet (fanSync_quiet _)

@[simp] theorem entryMarks_far (new : Mode) (s : State) :
    (entryMarks new s).far = s.far := far_of_quiet (entryMarks_quiet _ _)

@[simp] theorem supplyAtMode_far (old new : Mode) (s : State) :
    (supplyAtMode old new s).far = s.far := far_of_quiet (supplyAtMode_quiet _ _ _)

@[simp] theorem leaveWarmup_far (s : State) :
    (leaveWarmup s).far = s.far := far_of_quiet (leaveWarmup_quiet _)

@[simp] theorem stopFeeder_far (s : State) :
    (stopFeeder s).far = s.far := far_of_quiet (stopFeeder_quiet _)

@[simp] theorem updateZoneLoop_far (k : ZoneId) (t : Int) (s : State) :
    (updateZoneLoop k t s).far = s.far := far_of_quiet (updateZoneLoop_quiet _ _ _)

@[simp] theorem updatePotLoop_far (t : Int) (s : State) :
    (updatePotLoop t s).far = s.far := far_of_quiet (updatePotLoop_quiet _ _)

@[simp] theorem cutZoneLoop_far (k : ZoneId) (s : State) :
    (cutZoneLoop k s).far = s.far := far_of_quiet (cutZoneLoop_quiet _ _)

@[simp] theorem cutPotLoop_far (s : State) :
    (cutPotLoop s).far = s.far := far_of_quiet (cutPotLoop_quiet _)

@[simp] theorem zeroGrants_far (s : State) :
    (zeroGrants s).far = s.far := far_of_quiet (zeroGrants_quiet _)

@[simp] theorem computeDrive_far (level : Int) (s : State) :
    (computeDrive level s).far = s.far := far_of_quiet (computeDrive_quiet _ _)

@[simp] theorem feedUpdate_far (v : Int) (s : State) :
    (feedUpdate v s).far = s.far := far_of_quiet (feedUpdate_quiet _ _)

@[simp] theorem feedTest_far (v : Int) (s : State) :
    (feedTest v s).far = s.far := far_of_quiet (feedTest_quiet _ _)

@[simp] theorem feedTestNow_far (s : State) :
    (feedTestNow s).far = s.far := far_of_quiet (feedTestNow_quiet _)

@[simp] theorem takeSuction_far (c : Suction) (s : State) :
    (takeSuction c s).far = s.far := far_of_quiet (takeSuction_quiet _ _)

@[simp] theorem watchFilter_far (v : Int) (s : State) :
    (watchFilter v s).far = s.far := far_of_quiet (watchFilter_quiet _ _)

@[simp] theorem sprayClear_far (tag : Nat) (s : State) :
    (sprayClear tag s).far = s.far := far_of_quiet (sprayClear_quiet _ _)

@[simp] theorem giveBoosts_far (s : State) :
    (giveBoosts s).far = s.far := far_of_quiet (giveBoosts_quiet _)

@[simp] theorem releaseBuffer_far (b : BufferId) (s : State) :
    (releaseBuffer b s).far = s.far := far_of_quiet (releaseBuffer_quiet _ _)

@[simp] theorem skipRow_far (tag : Nat) (b : BufferId) (k : ExcKind) (dose : Nat) (s : State) :
    (skipRow tag b k dose s).far = s.far := far_of_quiet (skipRow_quiet _ _ _ _ _)

@[simp] theorem sprayRow_far (tag : Nat) (b : BufferId) (dose : Nat) (s : State) :
    (sprayRow tag b dose s).far = s.far := far_of_quiet (sprayRow_quiet _ _ _ _)

@[simp] theorem rowArrives_far (e : StrokeEntry) (s : State) :
    (rowArrives e s).far = s.far := far_of_quiet (rowArrives_quiet _ _)

@[simp] theorem compositionTest_far (s : State) :
    (compositionTest s).far = s.far := far_of_quiet (compositionTest_quiet _)

@[simp] theorem takeBuffer_far (b : BufferId) (tag : Nat) (recipe : Recipe) (s : State) :
    (takeBuffer b tag recipe s).far = s.far := far_of_quiet (takeBuffer_quiet _ _ _ _)

@[simp] theorem judgeSupply_far (s : State) :
    (judgeSupply s).far = s.far := far_of_quiet (judgeSupply_quiet _)

@[simp] theorem startStandbyZones_far (s : State) :
    (startStandbyZones s).far = s.far := far_of_quiet (startStandbyZones_quiet _)

@[simp] theorem startFrame_far (s : State) :
    (startFrame s).far = s.far := far_of_quiet (startFrame_quiet _)

@[simp] theorem occurrence_far (k : AlarmKind) (st : AlarmState) (s : State) :
    (occurrence k st s).far = s.far := far_of_quiet (occurrence_quiet _ _ _)

@[simp] theorem setModes_far (s : State) (x : ModeCtl) : (s.setModes x).far = s.far := rfl

@[simp] theorem setMode_far (new : Mode) (s : State) :
    (setMode new s).far = s.far := by
  unfold setMode
  dsimp only
  repeat' split
  all_goals simp

@[simp] theorem toDrain_far (t : DrainTarget) (s : State) :
    (toDrain t s).far = s.far := by unfold toDrain; simp

@[simp] theorem drainCompletes_far (s : State) :
    (drainCompletes s).far = s.far := by unfold drainCompletes; split <;> simp

@[simp] theorem forceStandby_far (s : State) :
    (forceStandby s).far = s.far := by unfold forceStandby; split <;> (try split) <;> simp

@[simp] theorem forcedTest_far (s : State) :
    (forcedTest s).far = s.far := by unfold forcedTest; split <;> simp

@[simp] theorem drainTest_far (s : State) :
    (drainTest s).far = s.far := by unfold drainTest; simp

@[simp] theorem enterReady_far (s : State) :
    (enterReady s).far = s.far := by unfold enterReady; simp

@[simp] theorem enterRun_far (s : State) :
    (enterRun s).far = s.far := by unfold enterRun; simp

@[simp] theorem enterDrain_far (t : DrainTarget) (s : State) :
    (enterDrain t s).far = s.far := by unfold enterDrain; simp

@[simp] theorem enterHold_far (s : State) :
    (enterHold s).far = s.far := by unfold enterHold; simp

@[simp] theorem react_far (sev : Severity) (s : State) :
    (react sev s).far = s.far := by unfold react; split <;> (try split) <;> simp

@[simp] theorem raise_far (k : AlarmKind) (s : State) :
    (raise k s).far = s.far := by unfold raise; split <;> simp

@[simp] theorem occur_far (k : AlarmKind) (s : State) :
    (occur k s).far = s.far := by unfold occur; simp

@[simp] theorem judge_far (k : AlarmKind) (present : Bool) (s : State) :
    (judge k present s).far = s.far := by unfold judge; split <;> simp

@[simp] theorem updWarm_far (s : State) (f : WarmUp → WarmUp) :
    (s.updWarm f).far = s.far := rfl

@[simp] theorem unstartZones_far (s : State) :
    (unstartZones s).far = s.far := rfl

@[simp] theorem startZone_far (k : ZoneId) (s : State) :
    (startZone k s).far = s.far := rfl

@[simp] theorem advanceCursor_far (ks : List ZoneId) (s : State) : (advanceCursor ks s).far = s.far := by
  induction ks generalizing s with
  | nil => simp [advanceCursor]
  | cons k rest ih => unfold advanceCursor; dsimp only; split <;> (try split) <;> simp [ih]

@[simp] theorem bandEntries_far (s : State) :
    (bandEntries s).far = s.far := by
  unfold bandEntries
  dsimp only
  repeat' split
  all_goals simp

@[simp] theorem moveCursor_far (s : State) :
    (moveCursor s).far = s.far := by
  unfold moveCursor
  repeat' split
  all_goals simp

@[simp] theorem settleTest_far (s : State) :
    (settleTest s).far = s.far := by unfold settleTest; split <;> (try split) <;> simp

@[simp] theorem warmSweep_far (s : State) :
    (warmSweep s).far = s.far := by unfold warmSweep; split <;> simp

@[simp] theorem enterMelt_far (s : State) :
    (enterMelt s).far = s.far := by unfold enterMelt; simp

@[simp] theorem enterZones_far (s : State) :
    (enterZones s).far = s.far := by
  unfold enterZones
  dsimp only
  repeat' split
  all_goals simp

@[simp] theorem enterZonesTogether_far (s : State) :
    (enterZonesTogether s).far = s.far := by unfold enterZonesTogether; simp

@[simp] theorem endExtraction_far (s : State) :
    (endExtraction s).far = s.far := by unfold endExtraction; split <;> simp

@[simp] theorem warmExtraction_far (s : State) :
    (warmExtraction s).far = s.far := by
  unfold warmExtraction
  repeat' split
  all_goals simp

@[simp] theorem beginWarmup_far (s : State) :
    (beginWarmup s).far = s.far := by unfold beginWarmup; split <;> simp

@[simp] theorem warmMoltenLost_far (s : State) :
    (warmMoltenLost s).far = s.far := by unfold warmMoltenLost; split <;> (try split) <;> simp

@[simp] theorem extractionTo_far (new : ExtState) (s : State) :
    (extractionTo new s).far = s.far := by unfold extractionTo; split <;> simp

@[simp] theorem meltTimerExpires_far (s : State) :
    (meltTimerExpires s).far = s.far := by
  unfold meltTimerExpires
  repeat' split
  all_goals simp

@[simp] theorem zoneTimesOut_far (k : ZoneId) (s : State) :
    (zoneTimesOut k s).far = s.far := by
  unfold zoneTimesOut
  repeat' split
  all_goals simp

@[simp] theorem settleEnds_far (s : State) :
    (settleEnds s).far = s.far := by unfold settleEnds; split <;> simp

@[simp] theorem soakCompletes_far (s : State) :
    (soakCompletes s).far = s.far := by
  unfold soakCompletes
  dsimp only
  repeat' split
  all_goals simp

@[simp] theorem judgeSensor_far (s : State) :
    (judgeSensor s).far = s.far := by
  unfold judgeSensor
  dsimp only
  repeat' split
  all_goals simp

@[simp] theorem judgeOver_far (k : ZoneId) (t : Int) (s : State) :
    (judgeOver k t s).far = s.far := by unfold judgeOver; split <;> (try split) <;> simp

@[simp] theorem noteResult_far (k : ZoneId) (x : LastResult) (s : State) :
    (noteResult k x s).far = s.far := rfl

@[simp] theorem deliverZone_far (k : ZoneId) (s : State) :
    (deliverZone k s).far = s.far := by
  unfold deliverZone
  dsimp only
  repeat' split
  all_goals simp

@[simp] theorem judgePotTrip_far (s : State) :
    (judgePotTrip s).far = s.far := by unfold judgePotTrip; simp

@[simp] theorem setPotOver_far (b : Bool) (s : State) :
    (setPotOver b s).far = s.far := by unfold setPotOver; simp

@[simp] theorem clearPotOver_far (s : State) :
    (clearPotOver s).far = s.far := by unfold clearPotOver; simp

@[simp] theorem deliverPotLoop_far (x : Slot) (s : State) :
    (deliverPotLoop x s).far = s.far := by
  unfold deliverPotLoop
  repeat' split
  all_goals simp

@[simp] theorem judgeFume_far (hot : Bool) (s : State) :
    (judgeFume hot s).far = s.far := by unfold judgeFume; simp

@[simp] theorem coldIfWaveOn_far (s : State) :
    (coldIfWaveOn s).far = s.far := by unfold coldIfWaveOn; split <;> simp

@[simp] theorem moltenLost_far (s : State) :
    (moltenLost s).far = s.far := by
  unfold moltenLost
  dsimp only
  repeat' split
  all_goals simp

@[simp] theorem potAtMelt_far (s : State) :
    (potAtMelt s).far = s.far := rfl

@[simp] theorem soakInterrupted_far (s : State) :
    (soakInterrupted s).far = s.far := rfl

@[simp] theorem deliverMelt_far (x : Slot) (s : State) :
    (deliverMelt x s).far = s.far := by
  unfold deliverMelt
  dsimp only
  repeat' split
  all_goals simp

@[simp] theorem deliverPot_far (s : State) :
    (deliverPot s).far = s.far := by unfold deliverPot; simp

@[simp] theorem judgeLevel_far (v : Int) (s : State) :
    (judgeLevel v s).far = s.far := by
  unfold judgeLevel
  repeat' split
  all_goals simp

@[simp] theorem waveAtLevel_far (v : Int) (s : State) :
    (waveAtLevel v s).far = s.far := by unfold waveAtLevel; split <;> simp

@[simp] theorem deliverLevel_far (s : State) :
    (deliverLevel s).far = s.far := by
  unfold deliverLevel
  dsimp only
  repeat' split
  all_goals simp

@[simp] theorem deliverDuct_far (s : State) :
    (deliverDuct s).far = s.far := rfl

@[simp] theorem deliverFilter_far (s : State) :
    (deliverFilter s).far = s.far := by unfold deliverFilter; split <;> simp

@[simp] theorem deliverSupply_far (s : State) :
    (deliverSupply s).far = s.far := by unfold deliverSupply; split <;> (try split) <;> simp

@[simp] theorem deliverFluxPressure_far (s : State) :
    (deliverFluxPressure s).far = s.far := by unfold deliverFluxPressure; split <;> (try split) <;> simp

@[simp] theorem deliver_far (ch : Nat) (s : State) :
    (deliver ch s).far = s.far := by unfold deliver; split <;> (try split) <;> simp

end Sys2Proof.Machine
end

