-- ==== Sys2Proof/Laws/Events.lean ====
section
/-! SUPPORT. Frames of the Board Tracker and of the Measurement Scanner: what their events leave alone. -/

namespace Sys2Proof.Machine

/-- The blocks that an event of the Board Tracker leaves alone. -/
structure Outer where
  scan : Scanner
  store : Store
  link : Link
  uptime : Nat
  freeIndex : Nat
  pending : List Instr

/-- Those blocks of a state. -/
def State.outer (s : State) : Outer :=
  { scan := s.scan, store := s.store, link := s.link, uptime := s.uptime, freeIndex := s.freeIndex, pending := s.pending }

/-- What leaves the reports alone as well leaves these blocks alone. -/
theorem outer_of_far {s t : State} (h : t.far = s.far) : t.outer = s.outer :=
  congrArg (fun q : Far => Outer.mk q.scan q.store q.link q.uptime q.freeIndex q.pending) h

/-- The blocks that an event of the Measurement Scanner leaves alone. -/
structure Still where
  reports : Reports
  store : Store
  link : Link
  uptime : Nat
  freeIndex : Nat
  pending : List Instr

/-- Those blocks of a state. -/
def State.still (s : State) : Still :=
  { reports := s.reports, store := s.store, link := s.link, uptime := s.uptime, freeIndex := s.freeIndex,
    pending := s.pending }

/-- What leaves the scanner alone as well leaves these blocks alone. -/
theorem still_of_far {s t : State} (h : t.far = s.far) : t.still = s.still :=
  congrArg (fun q : Far => Still.mk q.reports q.store q.link q.uptime q.freeIndex q.pending) h

@[simp] theorem setModes_outer (s : State) (x : ModeCtl) :
    (s.setModes x).outer = s.outer := outer_of_far (setModes_far _ _)

@[simp] theorem setTracker_outer (s : State) (x : Tracker) :
    (s.setTracker x).outer = s.outer := outer_of_far (setTracker_far _ _)

@[simp] theorem setHeat_outer (s : State) (x : Heaters) :
    (s.setHeat x).outer = s.outer := outer_of_far (setHeat_far _ _)

@[simp] theorem mapRecords_outer (f : Record → Record) (s : State) :
    (mapRecords f s).outer = s.outer := outer_of_far (mapRecords_far _ _)

@[simp] theorem updateRecord_outer (tag : Nat) (f : Record → Record) (s : State) :
    (updateRecord tag f s).outer = s.outer := outer_of_far (updateRecord_far _ _ _)

@[simp] theorem dropRecord_outer (tag : Nat) (s : State) :
    (dropRecord tag s).outer = s.outer := outer_of_far (dropRecord_far _ _)

@[simp] theorem giveBoosts_outer (s : State) :
    (giveBoosts s).outer = s.outer := outer_of_far (giveBoosts_far _)

@[simp] theorem releaseBuffer_outer (b : BufferId) (s : State) :
    (releaseBuffer b s).outer = s.outer := outer_of_far (releaseBuffer_far _ _)

@[simp] theorem sprayClear_outer (tag : Nat) (s : State) :
    (sprayClear tag s).outer = s.outer := outer_of_far (sprayClear_far _ _)

@[simp] theorem skipRow_outer (tag : Nat) (b : BufferId) (k : ExcKind) (dose : Nat) (s : State) :
    (skipRow tag b k dose s).outer = s.outer := outer_of_far (skipRow_far _ _ _ _ _)

@[simp] theorem sprayRow_outer (tag : Nat) (b : BufferId) (dose : Nat) (s : State) :
    (sprayRow tag b dose s).outer = s.outer := outer_of_far (sprayRow_far _ _ _ _)

@[simp] theorem rowArrives_outer (e : StrokeEntry) (s : State) :
    (rowArrives e s).outer = s.outer := outer_of_far (rowArrives_far _ _)

@[simp] theorem conveyorSync_outer (s : State) :
    (conveyorSync s).outer = s.outer := outer_of_far (conveyorSync_far _)

@[simp] theorem drainTest_outer (s : State) :
    (drainTest s).outer = s.outer := outer_of_far (drainTest_far _)

@[simp] theorem enterHold_outer (s : State) :
    (enterHold s).outer = s.outer := outer_of_far (enterHold_far _)

@[simp] theorem enterDrain_outer (t : DrainTarget) (s : State) :
    (enterDrain t s).outer = s.outer := outer_of_far (enterDrain_far _ _)

@[simp] theorem occur_outer (k : AlarmKind) (s : State) :
    (occur k s).outer = s.outer := outer_of_far (occur_far _ _)

@[simp] theorem raise_outer (k : AlarmKind) (s : State) :
    (raise k s).outer = s.outer := outer_of_far (raise_far _ _)

@[simp] theorem conditionEnds_outer (k : AlarmKind) (s : State) :
    (conditionEnds k s).outer = s.outer := outer_of_far (conditionEnds_far _ _)

@[simp] theorem closeGate_outer (s : State) :
    (closeGate s).outer = s.outer := outer_of_far (closeGate_far _)

@[simp] theorem compositionTest_outer (s : State) :
    (compositionTest s).outer = s.outer := outer_of_far (compositionTest_far _)

@[simp] theorem takeBuffer_outer (b : BufferId) (tag : Nat) (recipe : Recipe) (s : State) :
    (takeBuffer b tag recipe s).outer = s.outer := outer_of_far (takeBuffer_far _ _ _ _)

@[simp] theorem rowDue_outer (tag row : Nat) (b : BufferId) (s : State) :
    (rowDue tag row b s).outer = s.outer := by
  unfold rowDue
  repeat' split
  all_goals simp

@[simp] theorem dueRows_outer (n tag : Nat) (s : State) : (dueRows n tag s).outer = s.outer := by
  induction n generalizing s with
  | zero => rfl
  | succ n ih =>
    unfold dueRows
    split
    · rfl
    · split
      · rfl
      · dsimp only
        split
        · rw [ih]
          split <;> simp
        · rfl

@[simp] theorem stageEvents_outer (tags : List Nat) (s : State) : (stageEvents tags s).outer = s.outer := by
  induction tags generalizing s with
  | nil => rfl
  | cons tag rest ih =>
    unfold stageEvents
    dsimp only
    rw [ih, updateRecord_outer]
    split <;> simp

@[simp] theorem waveClearTest_outer (occupied : Bool) (s : State) :
    (waveClearTest occupied s).outer = s.outer := by unfold waveClearTest; split <;> simp

@[simp] theorem joinReport_outer (p : Report) (s : State) : (joinReport p s).outer = s.outer := rfl

@[simp] theorem reportRecord_outer (tag : Nat) (lost : Bool) (s : State) :
    (reportRecord tag lost s).outer = s.outer := by unfold reportRecord; split <;> simp

@[simp] theorem releaseOwned_outer (tag : Nat) (s : State) :
    (releaseOwned tag s).outer = s.outer := by unfold releaseOwned; split <;> simp

@[simp] theorem removeAsReport_outer (tag : Nat) (lost : Bool) (s : State) :
    (removeAsReport tag lost s).outer = s.outer := by unfold removeAsReport; simp

@[simp] theorem overrunExits_outer (n : Nat) (s : State) : (overrunExits n s).outer = s.outer := by
  induction n generalizing s with
  | zero => rfl
  | succ n ih => unfold overrunExits; split <;> simp [ih]

@[simp] theorem missingExits_outer (n : Nat) (s : State) : (missingExits n s).outer = s.outer := by
  induction n generalizing s with
  | zero => rfl
  | succ n ih => unfold missingExits; split <;> simp [ih]

@[simp] theorem countStep_outer (forward : Bool) (s : State) :
    (countStep forward s).outer = s.outer := rfl

@[simp] theorem forwardEvents_outer (s : State) :
    (forwardEvents s).outer = s.outer := by unfold forwardEvents; simp

@[simp] theorem encoderSteps_outer (forward : Bool) (s : State) :
    (encoderSteps forward s).outer = s.outer := by unfold encoderSteps; split <;> simp

@[simp] theorem speedWindowEnds_outer (s : State) :
    (speedWindowEnds s).outer = s.outer := by
  unfold speedWindowEnds
  dsimp only
  repeat' split
  all_goals simp

@[simp] theorem openGate_outer (a : Announcement) (rest : List Announcement) (b : BufferId) (s : State) :
    (openGate a rest b s).outer = s.outer := by unfold openGate; simp

@[simp] theorem admissionTest_outer (s : State) :
    (admissionTest s).outer = s.outer := by unfold admissionTest; split <;> (try split) <;> simp

@[simp] theorem entryRises_outer (s : State) :
    (entryRises s).outer = s.outer := by
  unfold entryRises
  repeat' split
  all_goals simp

@[simp] theorem endAdmission_outer (tag : Nat) (d : Int) (s : State) :
    (endAdmission tag d s).outer = s.outer := by unfold endAdmission; simp

@[simp] theorem entryFalls_outer (s : State) :
    (entryFalls s).outer = s.outer := by
  unfold entryFalls
  repeat' split
  all_goals simp

@[simp] theorem entryTimesOut_outer (s : State) :
    (entryTimesOut s).outer = s.outer := by
  unfold entryTimesOut
  repeat' split
  all_goals simp

@[simp] theorem exitRises_outer (s : State) :
    (exitRises s).outer = s.outer := by unfold exitRises; split <;> simp

@[simp] theorem exitFalls_outer (s : State) :
    (exitFalls s).outer = s.outer := by unfold exitFalls; split <;> simp

@[simp] theorem holdLimitReached_outer (s : State) :
    (holdLimitReached s).outer = s.outer := by unfold holdLimitReached; split <;> simp

@[simp] theorem updZone_still (s : State) (k : ZoneId) (f : Zone → Zone) :
    (s.updZone k f).still = s.still := still_of_far (updZone_far _ _ _)

@[simp] theorem settleLoops_still (s : State) :
    (settleLoops s).still = s.still := still_of_far (settleLoops_far _)

@[simp] theorem setHeat_still (s : State) (x : Heaters) :
    (s.setHeat x).still = s.still := still_of_far (setHeat_far _ _)

@[simp] theorem setExtr_still (s : State) (x : Extraction) :
    (s.setExtr x).still = s.still := still_of_far (setExtr_far _ _)

@[simp] theorem conditionEnds_still (k : AlarmKind) (s : State) :
    (conditionEnds k s).still = s.still := still_of_far (conditionEnds_far _ _)

@[simp] theorem raise_still (k : AlarmKind) (s : State) :
    (raise k s).still = s.still := still_of_far (raise_far _ _)

@[simp] theorem judge_still (k : AlarmKind) (present : Bool) (s : State) :
    (judge k present s).still = s.still := still_of_far (judge_far _ _ _)

@[simp] theorem judgeSensor_still (s : State) :
    (judgeSensor s).still = s.still := still_of_far (judgeSensor_far _)

@[simp] theorem startFrame_still (s : State) :
    (startFrame s).still = s.still := still_of_far (startFrame_far _)

@[simp] theorem deliver_still (ch : Nat) (s : State) :
    (deliver ch s).still = s.still := still_of_far (deliver_far _ _)

@[simp] theorem setScan_still (s : State) (x : Scanner) : (s.setScan x).still = s.still := rfl

@[simp] theorem setSlot_still (s : State) (ch : Nat) (x : Slot) : (s.setSlot ch x).still = s.still := rfl

@[simp] theorem markSlots_still (chs : List Nat) (s : State) : (markSlots chs s).still = s.still := by
  induction chs generalizing s with
  | nil => rfl
  | cons ch rest ih => unfold markSlots; simp [ih]

@[simp] theorem deliverAll_still (chs : List Nat) (s : State) : (deliverAll chs s).still = s.still := by
  induction chs generalizing s with
  | nil => rfl
  | cons ch rest ih => unfold deliverAll; simp [ih]

@[simp] theorem markStale_still (p : Nat → Slot → Bool) (s : State) :
    (markStale p s).still = s.still := by unfold markStale; simp

@[simp] theorem staleChannel_still (ch : Nat) (s : State) :
    (staleChannel ch s).still = s.still := by unfold staleChannel; simp

@[simp] theorem takePresence_still (k : ZoneId) (isOpen : Bool) (s : State) :
    (takePresence k isOpen s).still = s.still := by
  unfold takePresence
  dsimp only
  repeat' split
  all_goals simp

@[simp] theorem burnoutEnds_still (isOpen : Bool) (s : State) :
    (burnoutEnds isOpen s).still = s.still := by unfold burnoutEnds; split <;> (try split) <;> simp

@[simp] theorem refresh_still (ch : Nat) (value : Option Int) (standing : Standing) (s : State) :
    (refresh ch value standing s).still = s.still := by unfold refresh; simp

@[simp] theorem checkReference_still (v : Option Int) (s : State) :
    (checkReference v s).still = s.still := by unfold checkReference; split <;> (try split) <;> simp

@[simp] theorem convert_still (ch : Nat) (r : Reading) (s : State) :
    (convert ch r s).still = s.still := by
  unfold convert
  repeat' split
  all_goals simp

@[simp] theorem moveScan_still (s : State) :
    (moveScan s).still = s.still := rfl

@[simp] theorem controlConversion_still (r : Reading) (s : State) :
    (controlConversion r s).still = s.still := by unfold controlConversion; split <;> simp

@[simp] theorem beginSingle_still (first last : Nat) (s : State) :
    (beginSingle first last s).still = s.still := rfl

@[simp] theorem scanReconfigured_still (s : State) :
    (scanReconfigured s).still = s.still := by unfold scanReconfigured; split <;> simp

@[simp] theorem scanStarts_still (s : State) :
    (scanStarts s).still = s.still := rfl

end Sys2Proof.Machine
end

