-- ==== Sys2Proof/Laws/Queue.lean ====
section
/-! SUPPORT. No operation that a command runs touches the queue of commands. -/

namespace Sys2Proof.Machine

@[simp] theorem startStandbyZones_pending (s : State) :
    (startStandbyZones s).pending = s.pending := congrArg (·.pending) (startStandbyZones_quiet s)

@[simp] theorem afterLoops_pending (s : State) :
    (afterLoops s).pending = s.pending := congrArg (·.pending) (afterLoops_quiet s)

@[simp] theorem settleLoops_pending (s : State) :
    (settleLoops s).pending = s.pending := congrArg (·.pending) (settleLoops_quiet s)

@[simp] theorem readFinger_pending (wetted : Bool) (s : State) :
    (readFinger wetted s).pending = s.pending := congrArg (·.pending) (readFinger_quiet wetted s)

@[simp] theorem waveSync_pending (s : State) :
    (waveSync s).pending = s.pending := congrArg (·.pending) (waveSync_quiet s)

@[simp] theorem beginPurge_pending (s : State) :
    (beginPurge s).pending = s.pending := congrArg (·.pending) (beginPurge_quiet s)

@[simp] theorem startFrame_pending (s : State) :
    (startFrame s).pending = s.pending := congrArg (·.pending) (startFrame_quiet s)

@[simp] theorem completeComposition_pending (s : State) :
    (completeComposition s).pending = s.pending := congrArg (·.pending) (completeComposition_quiet s)

@[simp] theorem compositionTest_pending (s : State) :
    (compositionTest s).pending = s.pending := congrArg (·.pending) (compositionTest_quiet s)

@[simp] theorem strokePhaseEnds_pending (s : State) :
    (strokePhaseEnds s).pending = s.pending := congrArg (·.pending) (strokePhaseEnds_quiet s)

@[simp] theorem cellEntered_pending (s : State) :
    (cellEntered s).pending = s.pending := congrArg (·.pending) (cellEntered_quiet s)

@[simp] theorem valveTimeEnds_pending (s : State) :
    (valveTimeEnds s).pending = s.pending := congrArg (·.pending) (valveTimeEnds_quiet s)

@[simp] theorem strokeCompletes_pending (s : State) :
    (strokeCompletes s).pending = s.pending := congrArg (·.pending) (strokeCompletes_quiet s)

@[simp] theorem purgeParks_pending (s : State) :
    (purgeParks s).pending = s.pending := congrArg (·.pending) (purgeParks_quiet s)

@[simp] theorem purgeCompletes_pending (s : State) :
    (purgeCompletes s).pending = s.pending := congrArg (·.pending) (purgeCompletes_quiet s)

@[simp] theorem slotEnds_pending (s : State) :
    (slotEnds s).pending = s.pending := congrArg (·.pending) (slotEnds_quiet s)

@[simp] theorem takeFeedback_pending (b : Bool) (s : State) :
    (takeFeedback b s).pending = s.pending := congrArg (·.pending) (takeFeedback_quiet b s)

@[simp] theorem conditionAppears_pending (k : AlarmKind) (s : State) :
    (conditionAppears k s).pending = s.pending := congrArg (·.pending) (conditionAppears_quiet k s)

@[simp] theorem failSearch_pending (cause : CalCause) (s : State) :
    (failSearch cause s).pending = s.pending := congrArg (·.pending) (failSearch_quiet cause s)

@[simp] theorem stopFeeder_pending (s : State) :
    (stopFeeder s).pending = s.pending := congrArg (·.pending) (stopFeeder_quiet s)

@[simp] theorem feedTestNow_pending (s : State) :
    (feedTestNow s).pending = s.pending := congrArg (·.pending) (feedTestNow_quiet s)

@[simp] theorem setMode_pending (new : Mode) (s : State) :
    (setMode new s).pending = s.pending := congrArg (·.pending) (setMode_far new s)

@[simp] theorem enterDrain_pending (t : DrainTarget) (s : State) :
    (enterDrain t s).pending = s.pending := congrArg (·.pending) (enterDrain_far t s)

@[simp] theorem enterRun_pending (s : State) :
    (enterRun s).pending = s.pending := congrArg (·.pending) (enterRun_far s)

@[simp] theorem enterHold_pending (s : State) :
    (enterHold s).pending = s.pending := congrArg (·.pending) (enterHold_far s)

@[simp] theorem enterReady_pending (s : State) :
    (enterReady s).pending = s.pending := congrArg (·.pending) (enterReady_far s)

@[simp] theorem forcedTest_pending (s : State) :
    (forcedTest s).pending = s.pending := congrArg (·.pending) (forcedTest_far s)

@[simp] theorem raise_pending (k : AlarmKind) (s : State) :
    (raise k s).pending = s.pending := congrArg (·.pending) (raise_far k s)

@[simp] theorem occur_pending (k : AlarmKind) (s : State) :
    (occur k s).pending = s.pending := congrArg (·.pending) (occur_far k s)

@[simp] theorem judge_pending (k : AlarmKind) (present : Bool) (s : State) :
    (judge k present s).pending = s.pending := congrArg (·.pending) (judge_far k present s)

@[simp] theorem judgeSensor_pending (s : State) :
    (judgeSensor s).pending = s.pending := congrArg (·.pending) (judgeSensor_far s)

@[simp] theorem beginWarmup_pending (s : State) :
    (beginWarmup s).pending = s.pending := congrArg (·.pending) (beginWarmup_far s)

@[simp] theorem warmSweep_pending (s : State) :
    (warmSweep s).pending = s.pending := congrArg (·.pending) (warmSweep_far s)

@[simp] theorem meltTimerExpires_pending (s : State) :
    (meltTimerExpires s).pending = s.pending := congrArg (·.pending) (meltTimerExpires_far s)

@[simp] theorem zoneTimesOut_pending (k : ZoneId) (s : State) :
    (zoneTimesOut k s).pending = s.pending := congrArg (·.pending) (zoneTimesOut_far k s)

@[simp] theorem settleEnds_pending (s : State) :
    (settleEnds s).pending = s.pending := congrArg (·.pending) (settleEnds_far s)

@[simp] theorem soakCompletes_pending (s : State) :
    (soakCompletes s).pending = s.pending := congrArg (·.pending) (soakCompletes_far s)

@[simp] theorem extractionTo_pending (new : ExtState) (s : State) :
    (extractionTo new s).pending = s.pending := congrArg (·.pending) (extractionTo_far new s)

@[simp] theorem judgePotTrip_pending (s : State) :
    (judgePotTrip s).pending = s.pending := congrArg (·.pending) (judgePotTrip_far s)

@[simp] theorem judgeFume_pending (hot : Bool) (s : State) :
    (judgeFume hot s).pending = s.pending := congrArg (·.pending) (judgeFume_far hot s)

@[simp] theorem admissionTest_pending (s : State) :
    (admissionTest s).pending = s.pending := congrArg (·.pending) (admissionTest_outer s)

@[simp] theorem encoderSteps_pending (forward : Bool) (s : State) :
    (encoderSteps forward s).pending = s.pending := congrArg (·.pending) (encoderSteps_outer forward s)

@[simp] theorem speedWindowEnds_pending (s : State) :
    (speedWindowEnds s).pending = s.pending := congrArg (·.pending) (speedWindowEnds_outer s)

@[simp] theorem entryRises_pending (s : State) :
    (entryRises s).pending = s.pending := congrArg (·.pending) (entryRises_outer s)

@[simp] theorem entryFalls_pending (s : State) :
    (entryFalls s).pending = s.pending := congrArg (·.pending) (entryFalls_outer s)

@[simp] theorem entryTimesOut_pending (s : State) :
    (entryTimesOut s).pending = s.pending := congrArg (·.pending) (entryTimesOut_outer s)

@[simp] theorem exitRises_pending (s : State) :
    (exitRises s).pending = s.pending := congrArg (·.pending) (exitRises_outer s)

@[simp] theorem exitFalls_pending (s : State) :
    (exitFalls s).pending = s.pending := congrArg (·.pending) (exitFalls_outer s)

@[simp] theorem holdLimitReached_pending (s : State) :
    (holdLimitReached s).pending = s.pending := congrArg (·.pending) (holdLimitReached_outer s)

@[simp] theorem scanReconfigured_pending (s : State) :
    (scanReconfigured s).pending = s.pending := congrArg (·.pending) (scanReconfigured_still s)

@[simp] theorem scanStarts_pending (s : State) :
    (scanStarts s).pending = s.pending := congrArg (·.pending) (scanStarts_still s)

@[simp] theorem staleChannel_pending (ch : Nat) (s : State) :
    (staleChannel ch s).pending = s.pending := congrArg (·.pending) (staleChannel_still ch s)

@[simp] theorem burnoutEnds_pending (isOpen : Bool) (s : State) :
    (burnoutEnds isOpen s).pending = s.pending := congrArg (·.pending) (burnoutEnds_still isOpen s)

@[simp] theorem controlConversion_pending (r : Reading) (s : State) :
    (controlConversion r s).pending = s.pending := congrArg (·.pending) (controlConversion_still r s)

@[simp] theorem beginSingle_pending (first last : Nat) (s : State) :
    (beginSingle first last s).pending = s.pending := congrArg (·.pending) (beginSingle_still first last s)

@[simp] theorem beginOp_pending (op : StoreOp) (s : State) :
    (beginOp op s).pending = s.pending := rfl

@[simp] theorem clearPotOver_pending (s : State) :
    (clearPotOver s).pending = s.pending := congrArg (·.pending) (clearPotOver_far s)

@[simp] theorem configLost_pending (s : State) :
    (configLost s).pending = s.pending := by unfold configLost; simp

@[simp] theorem configChanged_pending (s : State) :
    (configChanged s).pending = s.pending := by
  unfold configChanged
  dsimp only
  repeat' split
  all_goals simp

@[simp] theorem beginSearch_pending (s : State) :
    (beginSearch s).pending = s.pending := by unfold beginSearch; simp

@[simp] theorem stepSearch_pending (dir : Direction) (test : Nat) (s : State) :
    (stepSearch dir test s).pending = s.pending := by unfold stepSearch; simp

@[simp] theorem searchFails_pending (cause : CalCause) (s : State) :
    (searchFails cause s).pending = s.pending := by unfold searchFails; simp

@[simp] theorem climb_pending (test : Nat) (s : State) :
    (climb test s).pending = s.pending := by unfold climb; split <;> simp

@[simp] theorem candidateFound_pending (test : Nat) (s : State) :
    (candidateFound test s).pending = s.pending := by unfold candidateFound; split <;> simp

@[simp] theorem dwellEnds_pending (wetted : Bool) (s : State) :
    (dwellEnds wetted s).pending = s.pending := by
  unfold dwellEnds
  dsimp only
  repeat' split
  all_goals simp

@[simp] theorem abortSearch_pending (s : State) :
    (abortSearch s).pending = s.pending := by unfold abortSearch; simp

@[simp] theorem calWritten_pending (d : Nat) (l : Int) (verified : Bool) (s : State) :
    (calWritten d l verified s).pending = s.pending := by
  unfold calWritten
  dsimp only
  repeat' split
  all_goals simp

@[simp] theorem handCompletion_pending (op : StoreOp) (verified : Bool) (s : State) :
    (handCompletion op verified s).pending = s.pending := by unfold handCompletion; split <;> simp

@[simp] theorem completeOp_pending (op : StoreOp) (verified : Bool) (s : State) :
    (completeOp op verified s).pending = s.pending := by unfold completeOp; split <;> simp

@[simp] theorem startUpCheckEnds_pending (found : StartUpFindings) (s : State) :
    (startUpCheckEnds found s).pending = s.pending := by
  unfold startUpCheckEnds
  dsimp only
  repeat' split
  all_goals simp

@[simp] theorem answer_pending (payload : Bytes) (s : State) :
    (answer payload s).pending = s.pending := by unfold answer; split <;> simp

@[simp] theorem refuse_pending (r : Request) (c : ResultCode) (index : Nat) (s : State) :
    (refuse r c index s).pending = s.pending := by unfold refuse; simp

@[simp] theorem accept_pending (fields : State → Bytes) (s : State) :
    (accept fields s).pending = s.pending := by unfold accept; simp

@[simp] theorem checked_pending (r : Request) (checks : List (Bool × RefusalCode)) (go : State → State) (s : State)
    (h : ∀ t, (go t).pending = t.pending) : (checked r checks go s).pending = s.pending := by
  unfold checked
  split
  · simp
  · exact h s

@[simp] theorem actStart_pending (s : State) :
    (actStart s).pending = s.pending := by
  unfold actStart
  exact checked_pending _ _ _ _ (fun t => by simp)

@[simp] theorem actRun_pending (s : State) :
    (actRun s).pending = s.pending := by unfold actRun; split <;> (try split) <;> simp

@[simp] theorem holdToDrain_pending (t : DrainTarget) (s : State) :
    (holdToDrain t s).pending = s.pending := rfl

@[simp] theorem actStop_pending (s : State) :
    (actStop s).pending = s.pending := by unfold actStop; split <;> (try split) <;> simp

@[simp] theorem actStandby_pending (s : State) :
    (actStandby s).pending = s.pending := by unfold actStandby; split <;> simp

@[simp] theorem actShutdown_pending (s : State) :
    (actShutdown s).pending = s.pending := by unfold actShutdown; split <;> simp

@[simp] theorem actHold_pending (s : State) :
    (actHold s).pending = s.pending := by
  unfold actHold
  repeat' split
  all_goals simp

@[simp] theorem resumeHold_pending (s : State) :
    (resumeHold s).pending = s.pending := by unfold resumeHold; split <;> simp

@[simp] theorem actResume_pending (s : State) :
    (actResume s).pending = s.pending := by unfold actResume; split <;> simp

@[simp] theorem actClearSafe_pending (s : State) :
    (actClearSafe s).pending = s.pending := by
  unfold actClearSafe
  exact checked_pending _ _ _ _ (fun t => by simp)

@[simp] theorem selectSet_pending (n : Nat) (s : State) :
    (selectSet n s).pending = s.pending := by unfold selectSet; split <;> simp

@[simp] theorem actSelectSet_pending (n : Nat) (s : State) :
    (actSelectSet n s).pending = s.pending := by
  unfold actSelectSet
  exact checked_pending _ _ _ _ (fun t => by simp)

@[simp] theorem announce_pending (a : Announcement) (s : State) :
    (announce a s).pending = s.pending := rfl

@[simp] theorem actAnnounce_pending (t : Word16) (slot o : Byte) (s : State) :
    (actAnnounce t slot o s).pending = s.pending := by
  unfold actAnnounce
  exact checked_pending _ _ _ _ (fun t => by simp)

@[simp] theorem withdraw_pending (tag : Nat) (s : State) :
    (withdraw tag s).pending = s.pending := rfl

@[simp] theorem actWithdraw_pending (t : Word16) (s : State) :
    (actWithdraw t s).pending = s.pending := by unfold actWithdraw; split <;> simp

@[simp] theorem actPurge_pending (s : State) :
    (actPurge s).pending = s.pending := by
  unfold actPurge
  exact checked_pending _ _ _ _ (fun t => by simp)

@[simp] theorem actWaveCal_pending (s : State) :
    (actWaveCal s).pending = s.pending := by
  unfold actWaveCal
  exact checked_pending _ _ _ _ (fun t => by simp)

@[simp] theorem actCalAbort_pending (s : State) :
    (actCalAbort s).pending = s.pending := by
  unfold actCalAbort
  exact checked_pending _ _ _ _ (fun t => by simp)

@[simp] theorem setTrim_pending (k : ZoneId) (t : Int) (s : State) :
    (setTrim k t s).pending = s.pending := by unfold setTrim; simp

@[simp] theorem actTrim_pending (z : Byte) (v : Word16) (s : State) :
    (actTrim z v s).pending = s.pending := by unfold actTrim; split <;> (try split) <;> simp

@[simp] theorem actReportTake_pending (s : State) :
    (actReportTake s).pending = s.pending := by unfold actReportTake; split <;> simp

@[simp] theorem acknowledge_pending (k : AlarmKind) (s : State) :
    (acknowledge k s).pending = s.pending := by
  unfold acknowledge
  dsimp only
  repeat' split
  all_goals simp

@[simp] theorem acknowledgeAll_pending (ks : List AlarmKind) (s : State) :
    (acknowledgeAll ks s).pending = s.pending := by
  induction ks generalizing s with
  | nil => rfl
  | cons k rest ih => unfold acknowledgeAll; simp [ih]

@[simp] theorem actAlarmAck_pending (n : Byte) (s : State) :
    (actAlarmAck n s).pending = s.pending := by unfold actAlarmAck; split <;> (try split) <;> simp

@[simp] theorem actAlertMode_pending (m : Byte) (s : State) :
    (actAlertMode m s).pending = s.pending := by unfold actAlertMode; split <;> simp

@[simp] theorem actStatus_pending (s : State) :
    (actStatus s).pending = s.pending := by unfold actStatus; simp

@[simp] theorem actMeasure_pending (first last : Byte) (s : State) :
    (actMeasure first last s).pending = s.pending := by
  unfold actMeasure
  exact checked_pending _ _ _ _ (fun t => by simp)

@[simp] theorem actThermalRead_pending (n : Byte) (s : State) :
    (actThermalRead n s).pending = s.pending := by
  unfold actThermalRead
  exact checked_pending _ _ _ _ (fun t => by simp)

@[simp] theorem actRecipeRead_pending (n : Byte) (s : State) :
    (actRecipeRead n s).pending = s.pending := by
  unfold actRecipeRead
  exact checked_pending _ _ _ _ (fun t => by simp)

@[simp] theorem actConfigWrite_pending (fields : List Word16) (s : State) :
    (actConfigWrite fields s).pending = s.pending := by
  unfold actConfigWrite
  exact checked_pending _ _ _ _ (fun t => by simp)

@[simp] theorem actThermalWrite_pending (n : Byte) (fields : List Word16) (s : State) :
    (actThermalWrite n fields s).pending = s.pending := by
  unfold actThermalWrite
  exact checked_pending _ _ _ _ (fun t => by simp)

@[simp] theorem actRecipeWrite_pending (n : Byte) (f : RecipeFields) (s : State) :
    (actRecipeWrite n f s).pending = s.pending := by
  unfold actRecipeWrite
  exact checked_pending _ _ _ _ (fun t => by simp)

@[simp] theorem actRecipeErase_pending (n : Byte) (s : State) :
    (actRecipeErase n s).pending = s.pending := by
  unfold actRecipeErase
  exact checked_pending _ _ _ _ (fun t => by simp)

@[simp] theorem actLock_pending (r : Request) (kind number : Byte) (lock : Bool) (s : State) :
    (actLock r kind number lock s).pending = s.pending := by
  unfold actLock
  exact checked_pending _ _ _ _ (fun t => by simp)

@[simp] theorem actRestart_pending (s : State) :
    (actRestart s).pending = s.pending := by unfold actRestart; simp

@[simp] theorem act_pending (r : Request) (s : State) : (act r s).pending = s.pending := by
  cases r <;> simp [act]

@[simp] theorem handle_pending (r : Request) (s : State) :
    (handle r s).pending = s.pending := by unfold handle; split <;> (try split) <;> simp

@[simp] theorem handleFrame_pending (k : RequestKind) (payload : Bytes) (s : State) :
    (handleFrame k payload s).pending = s.pending := by unfold handleFrame; split <;> simp

@[simp] theorem frameOverlaps_pending (s : State) :
    (frameOverlaps s).pending = s.pending := rfl

@[simp] theorem owe_pending (kind tag : Byte) (s : State) :
    (owe kind tag s).pending = s.pending := rfl

@[simp] theorem answerUnknown_pending (kind tag : Byte) (s : State) :
    (answerUnknown kind tag s).pending = s.pending := rfl

@[simp] theorem judgeFrame_pending (crcOk : Bool) (kind tag : Byte) (payload : Bytes) (s : State) :
    (judgeFrame crcOk kind tag payload s).pending = s.pending := by
  unfold judgeFrame
  repeat' split
  all_goals simp

@[simp] theorem completeFrame_pending (bytes : Bytes) (s : State) :
    (completeFrame bytes s).pending = s.pending := by unfold completeFrame; split <;> simp

@[simp] theorem takeByte_pending (b : Byte) (s : State) :
    (takeByte b s).pending = s.pending := by
  unfold takeByte
  dsimp only
  repeat' split
  all_goals simp

@[simp] theorem byteArrives_pending (b : Byte) (s : State) :
    (byteArrives b s).pending = s.pending := by unfold byteArrives; split <;> simp

@[simp] theorem gapExpires_pending (s : State) :
    (gapExpires s).pending = s.pending := rfl

@[simp] theorem requestArrives_pending (tag : Byte) (r : Request) (s : State) :
    (requestArrives tag r s).pending = s.pending := by
  unfold requestArrives
  dsimp only
  repeat' split
  all_goals simp

@[simp] theorem finishSingle_pending (taken : List ShotReading) (s : State) :
    (finishSingle taken s).pending = s.pending := by unfold finishSingle; simp

@[simp] theorem singleConversion_pending (r : Reading) (s : State) :
    (singleConversion r s).pending = s.pending := by unfold singleConversion; split <;> (try split) <;> simp

@[simp] theorem storeCompletes_pending (verified : Bool) (s : State) :
    (storeCompletes verified s).pending = s.pending := by unfold storeCompletes; split <;> (try split) <;> simp

@[simp] theorem tripAtReset_pending (s : State) :
    (tripAtReset s).pending = s.pending := by unfold tripAtReset; split <;> simp

@[simp] theorem resetWith_pending (pins : ResetPins) (alarms : AlarmTable) (alert : Alert) (link : Link) (mark kept : Bool) (s : State) :
    (resetWith pins alarms alert link mark kept s).pending = s.pending := rfl

@[simp] theorem pinReset_pending (pins : ResetPins) (s : State) :
    (pinReset pins s).pending = s.pending := by unfold pinReset; simp

@[simp] theorem restartPart_pending (pins : ResetPins) (s : State) :
    (restartPart pins s).pending = s.pending := by unfold restartPart; simp

@[simp] theorem replyEnds_pending (pins : ResetPins) (s : State) :
    (replyEnds pins s).pending = s.pending := by unfold replyEnds; split <;> (try split) <;> simp

@[simp] theorem extractionExpiry_pending (states : List ExtState) (timer : Option Nat) (new : ExtState) (s : State) :
    (extractionExpiry states timer new s).pending = s.pending := by unfold extractionExpiry; split <;> simp

@[simp] theorem proveExpires_pending (s : State) :
    (proveExpires s).pending = s.pending := by unfold proveExpires; simp

@[simp] theorem qualifyExpires_pending (s : State) :
    (qualifyExpires s).pending = s.pending := by unfold qualifyExpires; simp

@[simp] theorem warnExpires_pending (s : State) :
    (warnExpires s).pending = s.pending := by unfold warnExpires; simp

@[simp] theorem failExpires_pending (s : State) :
    (failExpires s).pending = s.pending := by unfold failExpires; simp

@[simp] theorem feedbackExpires_pending (s : State) :
    (feedbackExpires s).pending = s.pending := by unfold feedbackExpires; simp

@[simp] theorem recoverExpires_pending (s : State) :
    (recoverExpires s).pending = s.pending := by unfold recoverExpires; simp

@[simp] theorem graceExpires_pending (s : State) :
    (graceExpires s).pending = s.pending := by unfold graceExpires; split <;> simp

@[simp] theorem clogExpires_pending (s : State) :
    (clogExpires s).pending = s.pending := by unfold clogExpires; split <;> simp

@[simp] theorem driveHoldEnds_pending (s : State) :
    (driveHoldEnds s).pending = s.pending := rfl

@[simp] theorem feedProveExpires_pending (s : State) :
    (feedProveExpires s).pending = s.pending := by unfold feedProveExpires; split <;> (try split) <;> simp

@[simp] theorem fumeTimesOut_pending (s : State) :
    (fumeTimesOut s).pending = s.pending := by unfold fumeTimesOut; split <;> simp

@[simp] theorem stopperEdge_pending (present : Bool) (s : State) :
    (stopperEdge present s).pending = s.pending := rfl

@[simp] theorem tripEdge_pending (active : Bool) (s : State) :
    (tripEdge active s).pending = s.pending := by unfold tripEdge; simp

@[simp] theorem keyEdge_pending (on : Bool) (s : State) :
    (keyEdge on s).pending = s.pending := rfl

end Sys2Proof.Machine
end

