-- ==== Sys2Proof/Safety.lean ====
section
/-! DEFINITION. The words of the statements: when the part hears a frame and how it answers, which blocks a command leaves alone,
and the promises that the manual's prose makes of the whole part, as predicates on a state. -/

namespace Sys2Proof.Machine

/-! ### Requests and their answers (R188 to R190) -/

/-- The part hears a frame and judges it on its merits: it is neither SENDING nor in its start-up check, and owes no reply. -/
abbrev State.hears (s : State) : Prop := s.deaf = false ∧ s.link.owed = none

/-- The state that has taken a request and owes its reply. -/
def State.owing (s : State) (k : RequestKind) (tag : Byte) : State :=
  s.setLink { s.link with receiver := .hunt, owed := some (kindByte k, tag) }

/-- The state that has begun to send the reply to a request. -/
def State.replying (s : State) (k : RequestKind) (tag : Byte) (payload : Bytes) : State :=
  s.setLink { s.link with
    receiver := .hunt, owed := some (kindByte k, tag),
    tx := .sending (frameBytes (replyKind (kindByte k)) tag payload) }

/-- The row of the command table that a request is, with its frame tag and the level of the contact finger input. -/
def commandOf (tag : Byte) (finger : Bool) : Request → Instr
  | .caps => .caps tag
  | .status => .status tag
  | .zoneRead => .zoneRead tag
  | .potRead => .potRead ⟨tag, finger⟩
  | .extractRead => .extractRead tag
  | .transitRead p => .transitRead tag p
  | .measure a b => .measure tag a b
  | .start => .start tag
  | .run => .run tag
  | .stop => .stop tag
  | .hold => .hold tag
  | .resume => .resume tag
  | .standby => .standby tag
  | .shutdown => .shutdown tag
  | .clearSafe => .clearSafe tag
  | .selectSet n => .selectSet tag n
  | .announce t slot o => .announce tag t slot o
  | .withdraw t => .withdraw tag t
  | .purge => .purge tag
  | .waveCal => .waveCal tag
  | .calAbort => .calAbort tag
  | .trim z v => .trim tag z v
  | .reportTake => .reportTake tag
  | .alarmRead => .alarmRead tag
  | .alarmAck k => .alarmAck tag k
  | .alertMode m => .alertMode tag m
  | .configRead => .configRead tag
  | .configWrite f => .configWrite tag f
  | .thermalRead n => .thermalRead tag n
  | .thermalWrite n f => .thermalWrite tag n f
  | .recipeRead n => .recipeRead tag n
  | .recipeWrite n f => .recipeWrite tag n f
  | .recipeErase n => .recipeErase tag n
  | .lock k n => .lock tag k n
  | .unlock k n => .unlock tag k n
  | .restart => .restart tag

/-- The contact finger input as the row of a request shows it: POT_READ's does, and no other row's. -/
def State.shown (s : State) (finger : Bool) : Request → State
  | .potRead => readFinger finger s
  | _ => s

/-- The bytes of a run arrive one after another, the contact finger input at one level. -/
def receive (finger : Bool) : Bytes → State → Host.Outcome State Fault Refusal
  | [], s => .next s
  | b :: rest, s =>
    match exec (.byteReceived ⟨b, finger⟩) s with
    | .next t => receive finger rest t
    | .fault r => .fault r
    | .refused r => .refused r

/-! ### What a command leaves alone -/

/-- The scanner, the store, the clock, the free index and the queue of commands are unchanged. -/
structure SameElsewhere (s t : State) : Prop where
  scan : t.scan = s.scan
  store : t.store = s.store
  uptime : t.uptime = s.uptime
  freeIndex : t.freeIndex = s.freeIndex
  pending : t.pending = s.pending

/-- The link and the reports are unchanged as well. -/
structure SameOutside (s t : State) : Prop extends SameElsewhere s t where
  link : t.link = s.link
  reports : t.reports = s.reports

/-- The reply to `k` with this payload is on the line, and the scanner, the store, the clock, the reports, the free index and the
queue of commands are unchanged. -/
structure Answered (s t : State) (k : RequestKind) (tag : Byte) (payload : Bytes) : Prop extends SameElsewhere s t where
  link : t.link = (s.replying k tag payload).link
  reports : t.reports = s.reports

/-- A drain to `target` has completed within the event, no board being in transit (R16): the mode is the target with the Mode
Controller's items as its entry leaves them (R14, R20, R3), the conveyor runs in READY alone, the gate is closed and the wave
is off. -/
structure DrainedTo (target : DrainTarget) (s t : State) : Prop where
  modes : t.modes = { s.modes with
    mode := match target with
      | .standby => .standby
      | .idle => .idle
      | .ready | .none => .ready
    drain := .none, holdPending := false, ret := .none, holdTimer := 0, warm := none
    meltKept := match target with
      | .standby => s.pot.molten
      | .idle => false
      | .ready | .none => s.modes.meltKept }
  conveyor : t.tracker.conveyorRun = (t.modes.mode == .ready)
  gate : t.tracker.gateOpen = false
  wave : t.wave.output = 0

/-! ### Promises of the whole part -/

/-- The Mode Controller's items fit together (R1): the drain target, the return mode and the warm-up record are there in the
modes that have them, and in no other; hold-pending is set in RUN and DRAIN alone (R17). -/
abbrev ModeCtl.shaped (c : ModeCtl) : Prop :=
  (c.drain ≠ .none ↔ c.mode = .drain ∨ (c.mode = .hold ∧ c.ret = .drain))
    ∧ (c.ret ≠ .none ↔ c.mode = .hold)
    ∧ (c.warm.isSome ↔ c.mode = .warmup)
    ∧ (c.holdPending = true → c.mode = .run ∨ c.mode = .drain)

/-- The capacities of R34, R35 and R74. -/
abbrev State.withinCapacity (s : State) : Prop :=
  s.tracker.records.length ≤ 12 ∧ s.tracker.records.length + s.reports.queue.length ≤ 16 ∧ s.spray.queue.length ≤ 4

/-- The bound of R31: the Announce Queue and the place of an admission whose record is ENTERING are at most eight together. The
rest is what keeps it so: such an admission's timer runs only while its record is ENTERING, and an ENTERING record has no entry
count (R38, R39). -/
abbrev State.placesFit (s : State) : Prop :=
  s.tracker.queue.length + (if s.entering then 1 else 0) ≤ 8
    ∧ (∀ a ∈ s.tracker.admission, a.timer.isSome = true → ∀ r ∈ s.record? a.tag, r.stage = .entering)
    ∧ ∀ r ∈ s.tracker.records, r.stage = .entering → r.entry = none

/-- The occurrence counts saturate at 255 (R165), and the next-number count of the reports wraps below 65,536 (R172). -/
def State.countsFit (s : State) : Prop := (∀ k, (s.alarm k).count ≤ 255) ∧ s.reports.next < 65536

/-- The scanner has its sixteen slots (R155), and both images of the store their thirty-two recipe slots and eight thermal sets
(R177). -/
abbrev State.complete (s : State) : Prop :=
  s.scan.slots.length = 16 ∧ s.store.work.recipes.length = 32 ∧ s.store.work.sets.length = 8
    ∧ s.store.array.recipes.length = 32 ∧ s.store.array.sets.length = 8

/-- No board tag stands twice in the Announce Queue and the Transit Table together (R31, R32, R34). -/
abbrev State.tagsDistinct (s : State) : Prop :=
  (s.tracker.queue.map (·.tag) ++ s.tracker.records.map (·.tag)).Nodup

/-- The spray valve and the purge valve are open only while the extraction state is PROVEN or WARN (R80). -/
abbrev State.valvesSafe (s : State) : Prop :=
  (s.spray.sprayOpen = true ∨ s.spray.purgeOpen = true) → s.extr.state = .proven ∨ s.extr.state = .warn

/-- Every heater grant is 0 in IDLE, in SAFE and while the heater supply is low (R98, R101, R107). -/
abbrev State.heatersSafe (s : State) : Prop :=
  s.modes.mode = .idle ∨ s.modes.mode = .safe ∨ s.supplyLow = true → s.heat.pot.grant = 0 ∧ ∀ k, (s.zone k).grant = 0

/-- The wave output is 0 while the pot is not molten (R131). -/
abbrev State.waveSafe (s : State) : Prop := s.pot.molten = false → s.wave.output = 0

/-- The fan command is what the mode and the fume signal give (R145). -/
abbrev State.fanFollows (s : State) : Prop := s.extr.fan = s.fanWanted

/-- Forced standby that is due acts at once in the modes in which it acts: it stays due in the others alone (R25, R151). -/
abbrev State.forcedSettled (s : State) : Prop := s.extr.forcedDue = true → s.modes.mode.forcible = false

end Sys2Proof.Machine
end

