-- ==== Sys2Proof/Certificates/Slice0/Obligations.lean ====
section
/-! DEFINITION. The statements for the provers. -/

open Sys2Proof Sys2Proof.Machine


/-! ### The queue, the line, the frames -/

/-- The front command of the queue runs on the state with the rest of the queue. -/
def Obligations.StepRunsTheFrontCommand : Prop :=
  ∀ (c : Instr) (rest : List Instr) (s : State), s.pending = c :: rest → step s = exec c { s with pending := rest }

/-- With no command waiting, a tick passes (log 2): each running timer rises by one up to its length, the elapsed times of the
traverse's move and the time since the last reset rise by one, and nothing else of the state changes. -/
def Obligations.EmptyQueueIsOneTick : Prop :=
  ∀ s : State, s.pending = [] → ∃ t, step s = .next t
    ∧ (let up := fun (length n : Nat) => min length (n + 1)
       -- every field is the old one, but for the timers
       t = { s with
         uptime := s.uptime + 1
         -- the hold timer (R19) and the warm-up record
         modes := { s.modes with
           holdTimer := if s.modes.mode = .hold then up s.holdLimitTicks s.modes.holdTimer else s.modes.holdTimer
           warm := t.modes.warm }
         -- the entry timer (R38)
         tracker := { s.tracker with admission := if s.tracker.conveyorRun = true
           then s.tracker.admission.map (fun a => { a with timer := a.timer.map (up s.entryTimeoutTicks) })
           else s.tracker.admission }
         spray := { s.spray with running := t.spray.running }
         -- the drive-hold timer (R120)
         pot := { s.pot with
           soak := t.pot.soak, driveHold := s.pot.driveHold.map (up s.levelHoldTicks), feeder := t.pot.feeder }
         wave := { s.wave with phase := t.wave.phase }
         -- the Extraction Monitor (R147, R152)
         extr := { s.extr with
           prove := s.extr.prove.map (up (secs s.tProve)), qualify := s.extr.qualify.map (up (secs 2))
           recover := s.extr.recover.map (up (secs 2)), warn := s.extr.warn.map (up (secs s.tWarn))
           fail := s.extr.fail.map (up (secs s.tFail)), feedbackTimer := s.extr.feedbackTimer.map (up (secs 2))
           grace := t.extr.grace, clog := s.extr.clog.map (up s.clogTicks) } }
       -- the warm-up record (R10 to R12)
       ∧ (s.modes.warm = none → t.modes.warm = none)
       ∧ (∀ w, s.modes.warm = some w →
         (s.supplyLow = true ∨ w.stage = .extraction → t.modes.warm = some w)
         ∧ (s.supplyLow = false → w.stage = .melt → t.modes.warm = some { w with melt := up (2 * s.soakTicks) w.melt })
         ∧ (s.supplyLow = false → w.stage = .zones ∨ w.stage = .settle → ∃ x, t.modes.warm = some { w with
             timers := x, settle := if w.stage = .settle ∧ s.allInBand = true then up s.settleTicks w.settle else w.settle }
           ∧ ∀ k, (∀ n, w.timers.get k = .running n → x.get k = .running (up s.warmTimeoutTicks n))
             ∧ ((∀ n, w.timers.get k ≠ .running n) → x.get k = w.timers.get k)))
       -- the traverse (R72, R78, R86)
       ∧ (∀ r, s.spray.running = .stroke r →
         t.spray.running = .stroke { r with elapsed := r.elapsed + 1, cellElapsed := r.cellElapsed + 1 })
       ∧ (∀ p n, s.spray.running = .purge p n → t.spray.running = .purge p (n + 1))
       ∧ (s.spray.running = .idle → t.spray.running = .idle)
       -- the soak, the feeder and the dwell (R115, R116, R124, R138)
       ∧ (∀ n, s.pot.soak = .soaking n → t.pot.soak = .soaking (if s.supplyLow = true then n else up s.soakTicks n))
       ∧ ((∀ n, s.pot.soak ≠ .soaking n) → t.pot.soak = s.pot.soak)
       ∧ (∀ b n, s.pot.feeder = .running b n →
         t.pot.feeder = .running b (if s.pot.standing = .live then up s.feedProveTicks n else n))
       ∧ (s.pot.feeder = .off → t.pot.feeder = .off)
       ∧ (∀ d v n, s.wave.phase = .search d v n → t.wave.phase = .search d v (up s.dwellTicks n))
       ∧ ((∀ d v n, s.wave.phase ≠ .search d v n) → t.wave.phase = s.wave.phase)
       -- the grace timer (R151)
       ∧ (∀ n, s.extr.grace = .running n → t.extr.grace = .running (up s.graceTicks n))
       ∧ ((∀ n, s.extr.grace ≠ .running n) → t.extr.grace = s.extr.grace))

/-- Every command has its effect in every state, and none changes the queue of commands that wait behind it. -/
def Obligations.EveryCommandGoesOn : Prop :=
  ∀ (c : Instr) (s : State), ∃ t, exec c s = .next t ∧ t.pending = s.pending

/-- The receiver's rules, byte by byte (each byte shows the level of the contact finger input, log 8), the gap of a partial
frame, and the end of a reply that no RESTART waits for. -/
def Obligations.ReceiverByteByByte : Prop :=
  (∀ (b : Byte) (f : Bool) (s : State),
    let u := s.setWave { s.wave with finger := f }
    (s.deaf = true → exec (.byteReceived ⟨b, f⟩) s = .next u)
    ∧ (s.deaf = false → s.link.receiver = .hunt →
      exec (.byteReceived ⟨b, f⟩) s
        = .next (if b = 0xA5#8 then u.setLink { s.link with receiver := .inFrame [] } else u))
    ∧ (s.deaf = false → s.link.receiver = .inFrame [] →
      exec (.byteReceived ⟨b, f⟩) s
        = .next (if 240 < b.toNat then
            u.setLink { s.link with receiver := .hunt, badLength := min 65535 (s.link.badLength + 1) }
          else u.setLink { s.link with receiver := .inFrame [b] }))
    ∧ (∀ (len : Byte) (got : Bytes), s.deaf = false → s.link.receiver = .inFrame (len :: got) →
      got.length + 1 < len.toNat + 4 →
      exec (.byteReceived ⟨b, f⟩) s = .next (u.setLink { s.link with receiver := .inFrame (len :: got ++ [b]) })))
  ∧ (∀ s : State, exec .byteGapExpiry s = .next (s.setLink { s.link with receiver := .hunt }))
  ∧ (∀ (pins : ResetPins) (s : State), s.link.restartDue = false → s.link.tx ≠ .quiet →
      exec (.replySent pins) s = .next (s.setLink { s.link with tx := .quiet, owed := none }))

/-- The last byte of a frame that is not taken as a request: overlap, bad CRC, unknown kind (cases 1 to 3 of R189), and a
frame of a request kind whose payload has not the length that its fields call for: BAD_VALUE with index 0 after the mode check
(R190), a TRIM without a trim (log 13). The byte shows the level of the contact finger input as well (log 8). -/
def Obligations.FramesNotAccepted : Prop :=
  ∀ (len kind tag last : Byte) (f : Bool) (got : Bytes) (s : State),
    let u := s.setWave { s.wave with finger := f }
    s.deaf = false → s.link.receiver = .inFrame (len :: kind :: tag :: got) → got.length = len.toNat + 1 →
    (s.link.owed ≠ none →
      exec (.byteReceived ⟨last, f⟩) s
        = .next (u.setLink { s.link with receiver := .hunt, overlap := min 65535 (s.link.overlap + 1) }))
    ∧ (s.link.owed = none → (got ++ [last]).drop len.toNat ≠ wordBytes (crc (len :: kind :: tag :: got.take len.toNat)) →
      exec (.byteReceived ⟨last, f⟩) s
        = .next (u.setLink { s.link with receiver := .hunt, badCrc := min 65535 (s.link.badCrc + 1) }))
    ∧ (s.link.owed = none → (got ++ [last]).drop len.toNat = wordBytes (crc (len :: kind :: tag :: got.take len.toNat)) →
      kindOf kind = none →
      exec (.byteReceived ⟨last, f⟩) s
        = .next (u.setLink { s.link with
            receiver := .hunt, owed := some (kind, tag), tx := .sending (frameBytes 0xFF#8 tag [21#8]) }))
    ∧ (s.link.owed = none → (got ++ [last]).drop len.toNat = wordBytes (crc (len :: kind :: tag :: got.take len.toNat)) →
      ∀ k, kindOf kind = some k →
      let p := got.take len.toNat
      let fits := match k with
        | .transitRead | .selectSet | .alarmAck | .alertMode | .thermalRead | .recipeRead | .recipeErase => p.length = 1
        | .measure | .withdraw | .lock | .unlock => p.length = 2
        | .trim => p.length = 3
        | .announce => p.length = 4
        | .thermalWrite => p.length = 33
        | .configWrite => p.length = 202
        | .recipeWrite => ∃ n m, p[1]? = some n ∧ p[15 + n.toNat]? = some m ∧ p.length = 16 + n.toNat + 6 * m.toNat
        | .caps | .status | .zoneRead | .potRead | .extractRead | .start | .run | .stop | .hold | .resume | .standby
        | .shutdown | .clearSafe | .purge | .waveCal | .calAbort | .reportTake | .alarmRead | .configRead | .restart => p = []
      ¬ fits →
      exec (.byteReceived ⟨last, f⟩) s
        = .next (u.replying k tag ((if modeAllows k s.modes.mode = true then [11#8, 0#8] else [2#8]) ++ refusalFields k s)))

/-- A request's payload reads back as the request, for every well-formed request: no field of the catalogue is dropped. -/
def Obligations.RequestPayloadRoundTrip : Prop :=
  ∀ r : Request, r.wellFormed = true → readRequest (requestKind r) (requestPayload r) = some r

/-- A request sent byte by byte as one frame does what its row of the command table does: a request row is the whole frame
(log 4), and every byte of the frame shows the level of the contact finger input (log 8). -/
def Obligations.FrameBytesAreTheRequest : Prop :=
  ∀ (tag : Byte) (f : Bool) (r : Request) (s : State), r.wellFormed = true → s.hears → s.link.receiver = .hunt →
    receive f (frameBytes (kindByte (requestKind r)) tag (requestPayload r)) s
      = exec (commandOf tag f r) (s.setWave { s.wave with finger := f })

/-- A request that comes while the part sends or checks its store is not heard, and one that comes while a reply is owed is
counted as an overlap and changes nothing else, whatever its kind; POT_READ's row alone shows the level of the contact finger
input as well (log 8). -/
def Obligations.RequestsUnheardOrOverlapping : Prop :=
  ∀ (tag : Byte) (f : Bool) (r : Request) (s : State),
    let u := if r = .potRead then s.setWave { s.wave with finger := f } else s
    (s.deaf = true → exec (commandOf tag f r) s = .next u)
    ∧ (s.deaf = false → s.link.owed ≠ none →
      exec (commandOf tag f r) s
        = .next (u.setLink { s.link with receiver := .hunt, overlap := min 65535 (s.link.overlap + 1) }))

/-- The mode check: the modes that take each request are those of the table of R26, and a request outside them is answered
WRONG_MODE with the fields its owner names, and changes nothing else. (A TRIM whose zone number is outside 1 to 6 is answered
without a trim, in CALIBRATING too: log 13.) -/
def Obligations.ModeCheckComesFirst : Prop :=
  (let all : List Mode := [.idle, .warmup, .ready, .run, .drain, .hold, .standby, .calibrating, .safe]
   let taken := fun k => all.filter (modeAllows k)
   (∀ k ∈ [RequestKind.caps, .status, .zoneRead, .potRead, .extractRead, .transitRead, .measure, .alarmRead, .reportTake,
       .configRead, .thermalRead, .recipeRead, .alarmAck], taken k = all)
   ∧ (∀ k ∈ [RequestKind.trim, .alertMode, .thermalWrite, .recipeWrite, .recipeErase, .lock, .unlock],
       taken k = [.idle, .warmup, .ready, .run, .drain, .hold, .standby, .safe])
   ∧ taken .configWrite = [.idle] ∧ taken .restart = [.idle, .safe]
   ∧ taken .start = [.idle, .standby] ∧ taken .selectSet = [.idle, .standby]
   ∧ taken .run = [.ready, .run, .drain, .hold]
   ∧ (∀ k ∈ [RequestKind.stop, .hold, .resume], taken k = [.run, .drain, .hold])
   ∧ taken .standby = [.warmup, .ready, .run, .drain, .hold, .standby]
   ∧ taken .shutdown = [.idle, .warmup, .ready, .run, .drain, .hold, .standby]
   ∧ taken .clearSafe = [.safe]
   ∧ taken .announce = [.idle, .warmup, .ready, .run, .drain, .hold, .standby]
   ∧ taken .withdraw = [.idle, .warmup, .ready, .run, .drain, .hold, .standby, .safe]
   ∧ taken .purge = [.ready, .hold, .standby] ∧ taken .waveCal = [.ready] ∧ taken .calAbort = [.calibrating])
  ∧ ∀ (tag : Byte) (f : Bool) (r : Request) (s : State), s.hears → modeAllows (requestKind r) s.modes.mode = false →
    exec (commandOf tag f r) s = .next (s.replying (requestKind r) tag (2#8 :: requestFields r s))

/-- The reading requests answer with what they read, and change nothing but the line; STATUS clears the attention flag as
well, and answers with it as it stood. POT_READ carries the contact finger input as it stands at the request (log 8), and
TRANSIT_READ answers OK for every position, those above 11 too (log 23). -/
def Obligations.ReadsOnlyAnswer : Prop :=
  ∀ (tag : Byte) (s : State), s.hears →
    exec (.caps tag) s = .next (s.replying .caps tag (capsPayload s))
    ∧ exec (.zoneRead tag) s = .next (s.replying .zoneRead tag (zonePayload s))
    ∧ (∀ f : Bool, let u := s.setWave { s.wave with finger := f }
        exec (.potRead ⟨tag, f⟩) s = .next (u.replying .potRead tag (potPayload u)))
    ∧ exec (.extractRead tag) s = .next (s.replying .extractRead tag (extractPayload s))
    ∧ (∀ p : Byte, exec (.transitRead tag p) s = .next (s.replying .transitRead tag (transitPayload p.toNat s)))
    ∧ exec (.alarmRead tag) s = .next (s.replying .alarmRead tag (alarmPayload s))
    ∧ exec (.configRead tag) s = .next (s.replying .configRead tag (configPayload s))
    ∧ (∀ n : Byte, 8 ≤ n.toNat → exec (.thermalRead tag n) s = .next (s.replying .thermalRead tag [11#8, 0#8]))
    ∧ (∀ n : Byte, 32 ≤ n.toNat → exec (.recipeRead tag n) s = .next (s.replying .recipeRead tag [11#8, 0#8]))
    ∧ (∀ n : Byte, n.toNat < 8 →
        exec (.thermalRead tag n) s = .next (s.replying .thermalRead tag (thermalPayload n.toNat s)))
    ∧ (∀ n : Byte, n.toNat < 32 →
        exec (.recipeRead tag n) s = .next (s.replying .recipeRead tag (recipePayload n.toNat s)))
    ∧ exec (.status tag) s
      = .next { s.replying .status tag (statusPayload s) with alert := { s.alert with attention := false } }


/-! ### Resets and the start-up check -/

/-- What a pin reset leaves when the pot trip input reads inactive: every block at its reset values, the array and an
abandoned store operation kept for the start-up check, the inputs as the pins show them, and the working copy, which the spec
does not give before the check has ended, as of an erased array (log 21). When the trip input reads active, POT_OVERTEMP
appears at once, which sets the attention flag after the reset has cleared it (log 45), and the mode is SAFE. -/
def Obligations.PinResetValues : Prop :=
  (∀ (pins : ResetPins) (s : State), pins.trip = false →
    exec (.pinReset pins) s = .next
      { modes := { mode := .idle, drain := .none, holdPending := false, ret := .none, holdTimer := 0, activeSet := none,
                   meltKept := false, warm := none }
        tracker := { count := 0, conveyorRun := false, speedRef := 0, measuredSpeed := none, windowCounts := 0,
                     windowFirst := true, outsideRun := 0, insideRun := 0, queue := [], records := [], admission := none,
                     gateOpen := false, gapRef := none, stopper := pins.stopper }
        maps := { buffers := ⟨none, none, none, none⟩, order := [], working := none }
        spray := { position := none, running := .idle, queue := [], sprayOpen := false, purgeOpen := false,
                   purge := .none }
        heat := { zones := Six.same { presence := .unknown, started := false, warmFail := false, trim := 0, demand := 0,
                                      integral := 0, grant := 0, cut := false, boost := 0, overMark := false,
                                      last := .none }
                  pot := { demand := 0, integral := 0, grant := 0, cut := false, tripInput := false, overMark := false }
                  frameSlot := 0, potFiring := false, zoneFiring := Six.same false, sensorWaits := false }
        pot := { molten := false, soak := .none, fumeHot := false, fumeJudged := false, level := none,
                 standing := .invalid, refDrive := 0, driveHold := none, feeder := .off }
        wave := { computed := none, output := 0, side := .none, cal := { pair := none, valid := false }, phase := .none,
                  outcome := .none, cause := .none, finger := pins.finger }
        extr := { fan := false, state := .off, suction := .lost, prove := none, qualify := none, recover := none,
                  warn := none, fail := none, feedbackTimer := none, grace := .absent, forcedDue := false, clog := none,
                  feedback := pins.fanFeedback }
        scan := { activity := .startUp, burnout := 0, cursor := 0, rescan := false, single := none,
                  slots := List.replicate 16 { value := none, standing := .stale, refreshed := none }, refFault := false }
        alarms := AlarmTable.afterReset
        alert := { attention := false, mode := .level, phase := .rest, pending := 0 }
        reports := { queue := [], next := 0 }
        store := { work := StoreImage.blank, array := s.store.array, op := none,
                   abandoned := if s.store.op.isSome then s.store.op else s.store.abandoned, checking := true,
                   key := pins.key }
        link := { speed := pins.speed, receiver := .hunt, owed := none, tx := .quiet, badCrc := 0, badLength := 0,
                  overlap := 0, restartDue := false }
        uptime := 0, freeIndex := s.freeIndex, pending := s.pending })
  ∧ ∀ (pins : ResetPins) (s : State), pins.trip = true → ∃ t, exec (.pinReset pins) s = .next t
    ∧ t.modes.mode = .safe ∧ t.heat.pot.tripInput = true
    ∧ t.alarm .potOvertemp = { state := .active, count := 1, time := some (0, .current) }
    ∧ (∀ k, k ≠ .potOvertemp → k ≠ .supplyLow → (t.alarm k).state = .clear) ∧ t.alert.attention = true
    ∧ t.store.checking = true ∧ t.pending = s.pending

/-- The Alarm Table after the RESTART that the end of a reply brings: counts and times are kept, the epochs become PREVIOUS,
and the conditions that start absent disappear while the pot trip input is inactive or POT_OVERTEMP's condition is present
already, which then sets the pot over mark (log 38). With the trip input active and the condition absent, POT_OVERTEMP appears
at the RESTART, which sets the attention flag after the reset has cleared it (log 45), and the mode is SAFE, which turns the
fan on and finds the supply low (log 31). ZONE_SENSOR waits for its first judgement (the model's own mark, log 19). -/
def Obligations.RestartKeepsTheAlarmTable : Prop :=
  (∀ (pins : ResetPins) (s : State), s.link.tx ≠ .quiet → s.link.restartDue = true →
    pins.trip = false ∨ s.condition .potOvertemp = true →
    ∃ t, exec (.replySent pins) s = .next t
      ∧ (∀ k, (t.alarm k).count = (s.alarm k).count ∧ (t.alarm k).time = (s.alarm k).time.map (fun x => (x.1, .previous)))
      ∧ (∀ k ∈ [AlarmKind.extractWarn, .extractFail, .potCold, .waveLimit, .zoneOvertemp, .supplyLow, .conveyorDev,
          .potWarmFail, .zoneWarmFail], (t.alarm k).state = (s.alarm k).disappear.state)
      ∧ (∀ k ∈ [AlarmKind.filterClog, .feedFault, .levelLow, .potOvertemp, .zoneSensor, .zoneMissing, .entryTimeout,
          .boardMissing, .trackLost, .fluxPressLow, .calFail, .storeFault], (t.alarm k).state = (s.alarm k).state)
      ∧ t.modes = ModeCtl.afterReset ∧ t.tracker = Tracker.afterReset pins.stopper ∧ t.maps = Compositor.afterReset
      ∧ t.spray = Spray.afterReset ∧ t.heat = Heaters.afterReset pins.trip (s.condition .potOvertemp) true
      ∧ t.pot = PotCtl.afterReset
      ∧ t.wave = Wave.afterReset pins.finger
      ∧ t.extr = Extraction.afterReset pins.fanFeedback ∧ t.scan = Scanner.afterReset
      ∧ t.reports = { queue := [], next := 0 }
      ∧ t.alert = { attention := false, mode := s.alert.mode, phase := .rest, pending := 0 }
      ∧ t.store.array = s.store.array ∧ t.store.checking = true ∧ t.store.op = none ∧ t.store.key = pins.key
      ∧ t.link = { speed := pins.speed, receiver := .hunt, owed := none, tx := .quiet, badCrc := s.link.badCrc,
                   badLength := s.link.badLength, overlap := s.link.overlap, restartDue := false }
      ∧ t.uptime = 0 ∧ t.pending = s.pending)
  ∧ ∀ (pins : ResetPins) (s : State), s.link.tx ≠ .quiet → s.link.restartDue = true → pins.trip = true →
    s.condition .potOvertemp = false →
    ∃ t, exec (.replySent pins) s = .next t
      ∧ t.modes = { ModeCtl.afterReset with mode := .safe }
      ∧ t.alarm .potOvertemp = { state := .active, count := min 255 ((s.alarm .potOvertemp).count + 1),
                                 time := some (0, .current) }
      ∧ t.condition .supplyLow = true
      ∧ (∀ k, k ≠ .potOvertemp → k ≠ .supplyLow → (t.alarm k).count = (s.alarm k).count
        ∧ (t.alarm k).time = (s.alarm k).time.map (fun x => (x.1, .previous))
        ∧ (t.alarm k).state = if k ∈ [AlarmKind.extractWarn, .extractFail, .potCold, .waveLimit, .zoneOvertemp,
            .conveyorDev, .potWarmFail, .zoneWarmFail] then (s.alarm k).disappear.state else (s.alarm k).state)
      ∧ t.tracker = Tracker.afterReset pins.stopper ∧ t.maps = Compositor.afterReset ∧ t.spray = Spray.afterReset
      ∧ t.heat = Heaters.afterReset true false true ∧ t.pot = PotCtl.afterReset ∧ t.wave = Wave.afterReset pins.finger
      ∧ t.extr.fan = true ∧ t.extr.state = .proving ∧ t.extr.feedback = pins.fanFeedback ∧ t.scan = Scanner.afterReset
      ∧ t.reports = { queue := [], next := 0 } ∧ t.alert.attention = true ∧ t.alert.mode = s.alert.mode
      ∧ t.store.array = s.store.array ∧ t.store.checking = true ∧ t.store.op = none ∧ t.store.key = pins.key
      ∧ t.link = { speed := pins.speed, receiver := .hunt, owed := none, tx := .quiet, badCrc := s.link.badCrc,
                   badLength := s.link.badLength, overlap := s.link.overlap, restartDue := false }
      ∧ t.uptime = 0 ∧ t.pending = s.pending

/-- The end of the start-up check: the array becomes the working copy, the Pot Controller takes the calibration pair, the
scanner begins its pass, and one STORE_FAULT occurs when an item is found CORRUPT: by its check value, or by the range and
cross-field checks of its kind, of which the calibration record has none (log 39). The command changes nothing while no check
runs (log 3). -/
def Obligations.StartUpCheckEnds : Prop :=
  ∀ (found : StartUpFindings) (s : State),
    (s.store.checking = false → exec (.storeStartUpCheckEnd found) s = .next s)
    ∧ (s.store.checking = true → ∃ t, exec (.storeStartUpCheckEnd found) s = .next t
      ∧ t.store.checking = false ∧ t.store.abandoned = none ∧ t.store.work = t.store.array
      ∧ t.store.op = s.store.op ∧ t.store.key = s.store.key
      ∧ (found.corrupt = [] → s.store.abandoned = none → t.store.array.cal = s.store.array.cal
        ∧ t.store.array.config = (match s.store.array.config with
          | .valid c => if c.fields.length = 101 ∧ configFault c = none then .valid c else .corrupt
          | x => x)
        ∧ (∀ n, n < s.store.array.sets.length → t.store.array.set n
          = match (s.store.array.set n).item with
            | .valid x => if x.fields.length = 16 ∧ thermalFault x = none then s.store.array.set n
                else { item := .corrupt, lock := true }
            | _ => s.store.array.set n)
        ∧ (∀ n, n < s.store.array.recipes.length → t.store.array.recipe n
          = match (s.store.array.recipe n).item with
            | .valid x => if recipeSound x = true then s.store.array.recipe n else { item := .corrupt, lock := true }
            | _ => s.store.array.recipe n))
      ∧ (∀ f : RecipeFields, recipeFault f = none → recipeSound (recipeOfFields f) = true)
      ∧ (∀ n, StoreItem.recipe n ∈ found.corrupt → n < s.store.array.recipes.length →
          (t.store.work.recipe n).item = .corrupt)
      ∧ (StoreItem.config ∈ found.corrupt → t.config? = none)
      ∧ (∀ p, t.store.work.cal = .valid p → t.wave.cal = { pair := some p, valid := true })
      ∧ ((∀ p, t.store.work.cal ≠ .valid p) → t.wave.cal = { pair := none, valid := false })
      ∧ t.alarms = (if t.store.work.anyCorrupt then s.alarms.set .storeFault
          { state := .latched, count := min 255 ((s.alarm .storeFault).count + 1), time := some (s.seconds, .current) }
        else s.alarms)
      ∧ t.scan = { s.scan with activity := .startUp, burnout := 0, cursor := t.scanStart }
      ∧ t.modes = s.modes ∧ t.tracker = s.tracker ∧ t.maps = s.maps ∧ t.spray = s.spray ∧ t.heat = s.heat
      ∧ t.pot = s.pot ∧ t.extr = s.extr ∧ t.reports = s.reports ∧ t.link = s.link ∧ t.uptime = s.uptime
      ∧ t.pending = s.pending)

/-- A RESTART is answered OK and acts only when its reply has been sent. -/
def Obligations.RestartIsAnsweredFirst : Prop :=
  ∀ (tag : Byte) (s : State), s.hears → s.modes.mode = .idle ∨ s.modes.mode = .safe →
    exec (.restart tag) s
      = .next (s.setLink { (s.replying .restart tag [0#8]).link with restartDue := true })


/-! ### Modes, warm-up, drains and holds -/

/-- START taken in IDLE: WARMUP in stage EXTRACTION where the fan turns on, or runs already with its proving not ended, stage
MELT with a soak asked for when the extraction state is PROVEN or WARN already, and the abort to IDLE within the event when it
is FAILED. -/
def Obligations.StartFromIdle : Prop :=
  ∀ (tag : Byte) (s : State), s.hears → s.modes.mode = .idle → s.modes.meltKept = false → s.configured = true →
    s.activeFit = true → s.safeInForce = false → ∃ t, exec (.start tag) s = .next t
      ∧ Answered s t .start tag (0#8 :: t.modeFields)
      ∧ (s.extr.fan = false → t.extr.fan = true ∧ t.extr.state = .proving
        ∧ t.modes = { s.modes with
            mode := .warmup, drain := .none, holdPending := false, ret := .none, holdTimer := 0,
            warm := some { stage := .extraction, cursor := some .z1, zonesEntered := false,
                           timers := Six.same .unstarted, melt := 0, meltExpired := false, meltReached := false,
                           settle := 0 } })
      ∧ (s.extr.fan = true → s.extr.state = .proving ∨ s.extr.state = .off → t.extr = s.extr ∧ t.modes.mode = .warmup
        ∧ t.stage? = some .extraction)
      ∧ (s.extr.fan = true → s.extr.state = .proven ∨ s.extr.state = .warn → t.modes.mode = .warmup
        ∧ t.stage? = some .melt ∧ t.pot.soak = .waiting)
      ∧ (s.extr.fan = true → s.extr.state = .failed → t.modes.mode = .idle ∧ t.modes.warm = none)
      ∧ ∀ k, (t.zone k).started = false

/-- START, RUN in READY, in DRAIN and in HOLD, and CLEAR_SAFE refuse by the first of their checks that fails, and change
nothing. -/
def Obligations.ModeRequestsRefused : Prop :=
  ∀ (tag : Byte) (s : State), s.hears →
    (s.modes.mode = .idle ∨ s.modes.mode = .standby →
      (s.configured = false → exec (.start tag) s = .next (s.replying .start tag (15#8 :: s.modeFields)))
      ∧ (s.configured = true → s.activeFit = false →
        exec (.start tag) s = .next (s.replying .start tag (13#8 :: s.modeFields)))
      ∧ (s.configured = true → s.activeFit = true → s.safeInForce = true →
        exec (.start tag) s = .next (s.replying .start tag (17#8 :: s.modeFields))))
    ∧ (s.modes.mode = .ready →
      (s.wave.cal.valid = false → exec (.run tag) s = .next (s.replying .run tag (16#8 :: s.modeFields)))
      ∧ (s.wave.cal.valid = true → s.pot.molten = false →
        exec (.run tag) s = .next (s.replying .run tag (2#8 :: s.modeFields)))
      ∧ (s.wave.cal.valid = true → s.pot.molten = true → s.stopInForce = true →
        exec (.run tag) s = .next (s.replying .run tag (17#8 :: s.modeFields))))
    ∧ (s.modes.mode = .drain ∨ (s.modes.mode = .hold ∧ s.modes.ret = .drain) →
      (s.modes.drain ≠ .ready → exec (.run tag) s = .next (s.replying .run tag (2#8 :: s.modeFields)))
      ∧ (s.modes.drain = .ready → s.stopInForce = true →
        exec (.run tag) s = .next (s.replying .run tag (17#8 :: s.modeFields))))
    ∧ (s.modes.mode = .safe →
      (s.tracker.records ≠ [] → exec (.clearSafe tag) s = .next (s.replying .clearSafe tag (3#8 :: s.modeFields)))
      ∧ (s.tracker.records = [] → s.safeInForce = true →
        exec (.clearSafe tag) s = .next (s.replying .clearSafe tag (17#8 :: s.modeFields))))

/-- START taken in STANDBY is a recovery, by the extraction state and the melt-kept flag. While the extraction is not proven it
waits in stage EXTRACTION with every demand 0: with the flag clear every zone is unstarted, and with the flag set the started
marks stay as they are (log 28). With the extraction PROVEN or WARN, the flag set passes over MELT: the zones that take part are
started together, each with its warm timer at 0, which a zone in band already has stopped (log 9), and no other zone is
started; the flag clear leads to MELT with a soak asked for and every zone unstarted. FAILED aborts the recovery to IDLE within
the event. -/
def Obligations.RecoveryFromStandby : Prop :=
  ∀ (tag : Byte) (s : State), s.hears → s.modes.mode = .standby → s.configured = true → s.activeFit = true →
    s.safeInForce = false → ∃ t, exec (.start tag) s = .next t ∧ Answered s t .start tag (0#8 :: t.modeFields)
      ∧ (let proven := s.extr.fan = true ∧ (s.extr.state = .proven ∨ s.extr.state = .warn)
         let failed := s.extr.fan = true ∧ s.extr.state = .failed
         let unstarted := ∀ k, (t.zone k).started = false ∧ (t.zone k).demand = 0
         -- the extraction is not proven yet
         (¬ proven → ¬ failed →
           t.modes = { s.modes with
             mode := .warmup, drain := .none, holdPending := false, ret := .none, holdTimer := 0
             warm := some { stage := .extraction, cursor := some .z1, zonesEntered := false, timers := Six.same .unstarted,
                            melt := 0, meltExpired := false, meltReached := false, settle := 0 } }
           ∧ (s.extr.fan = true → t.extr = s.extr) ∧ (s.extr.fan = false → t.extr.fan = true ∧ t.extr.state = .proving)
           ∧ t.heat.pot.demand = 0
           ∧ ∀ k, (t.zone k).demand = 0 ∧ (t.zone k).started = (s.modes.meltKept && (s.zone k).started))
         -- the melt was kept
         ∧ (proven → s.modes.meltKept = true → t.modes.mode = .warmup
           ∧ (t.stage? = some .zones ∨ t.stage? = some .settle) ∧ t.modes.warm.map (·.cursor) = some none
           ∧ ∀ k, (t.zone k).started = s.takesPart k ∧ (s.takesPart k = false → (t.zone k).demand = 0)
             ∧ t.modes.warm.map (fun w => w.timers.get k)
               = some (if s.takesPart k = false then .unstarted else if t.zoneInBand k = true then .stopped else .running 0))
         -- the melt was not kept
         ∧ (proven → s.modes.meltKept = false →
           t.modes.mode = .warmup ∧ t.stage? = some .melt ∧ t.pot.soak = .waiting ∧ unstarted)
         -- the abort
         ∧ (failed → t.modes.mode = .idle ∧ t.modes.warm = none ∧ t.modes.meltKept = false ∧ unstarted))

/-- RUN where it is taken: from READY the wave is turned on at its computed drive and the conveyor runs; from DRAIN to READY
the mode is RUN again; in HOLD it changes what the hold returns to; in RUN it changes nothing. -/
def Obligations.RunTaken : Prop :=
  ∀ (tag : Byte) (s : State), s.hears → s.extr.forcedDue = false →
    (s.modes.mode = .ready → s.wave.cal.valid = true → s.pot.molten = true → s.stopInForce = false →
      ∃ t, exec (.run tag) s = .next t ∧ Answered s t .run tag (0#8 :: t.modeFields)
        ∧ t.modes = { s.modes with mode := .run, drain := .none, ret := .none, holdTimer := 0, warm := none }
        ∧ t.tracker.conveyorRun = true
        ∧ (let pair := s.wave.cal.pair.getD (0, 0)
           let d := clampDrive s.minDrive
             (rawDrive pair.1 pair.2 (s.activeField (·.waveHeight)) (s.param 76) (s.param 77) s.turnOnLevel)
           t.wave.computed = some d.1 ∧ t.wave.output = d.1 ∧ t.wave.side = d.2))
    ∧ (s.modes.mode = .drain → s.modes.drain = .ready → s.stopInForce = false →
      ∃ t, exec (.run tag) s = .next t ∧ Answered s t .run tag (0#8 :: t.modeFields)
        ∧ t.modes = { s.modes with mode := .run, drain := .none, ret := .none, holdTimer := 0, warm := none }
        ∧ t.tracker.conveyorRun = true)
    ∧ (s.modes.mode = .hold → s.modes.ret = .drain → s.modes.drain = .ready → s.stopInForce = false →
      let u := s.setModes { s.modes with ret := .run, drain := .none }
      exec (.run tag) s = .next (u.replying .run tag (0#8 :: u.modeFields)))
    ∧ (s.modes.mode = .run ∨ (s.modes.mode = .hold ∧ s.modes.ret ≠ .drain) →
      exec (.run tag) s = .next (s.replying .run tag (0#8 :: s.modeFields)))

/-- STOP, STANDBY and SHUTDOWN taken in RUN: DRAIN to READY, STANDBY or IDLE with hold-pending kept while boards are in
transit, and the target mode itself, the drain completed within the event, when none is. In DRAIN and in HOLD they change the drain target and
the return mode and nothing else; STANDBY in STANDBY and SHUTDOWN in IDLE change nothing. -/
def Obligations.DrainRequestsTaken : Prop :=
  (∀ (tag : Byte) (s : State), s.hears → s.modes.mode = .run → s.extr.forcedDue = false →
    let drains := fun (c : Instr) (k : RequestKind) (target : DrainTarget) =>
      ∃ t, exec c s = .next t ∧ Answered s t k tag (0#8 :: t.modeFields)
        ∧ (s.tracker.records ≠ [] →
          t.modes = { s.modes with mode := .drain, drain := target, ret := .none, holdTimer := 0, warm := none })
        ∧ (s.tracker.records = [] → DrainedTo target s t)
    drains (.stop tag) .stop .ready ∧ drains (.standby tag) .standby .standby ∧ drains (.shutdown tag) .shutdown .idle)
  ∧ ∀ (tag : Byte) (s : State), s.hears →
    let answers := fun (c : Instr) (k : RequestKind) (u : State) =>
      exec c s = .next (u.replying k tag (0#8 :: u.modeFields))
    (s.modes.mode = .drain → answers (.stop tag) .stop s
      ∧ answers (.standby tag) .standby (s.setModes { s.modes with drain := .standby })
      ∧ answers (.shutdown tag) .shutdown (s.setModes { s.modes with drain := .idle }))
    ∧ (s.modes.mode = .hold →
      answers (.stop tag) .stop
        (if s.modes.ret = .drain then s else s.setModes { s.modes with ret := .drain, drain := .ready })
      ∧ answers (.standby tag) .standby (s.setModes { s.modes with ret := .drain, drain := .standby })
      ∧ answers (.shutdown tag) .shutdown (s.setModes { s.modes with ret := .drain, drain := .idle }))
    ∧ (s.modes.mode = .standby → answers (.standby tag) .standby s)
    ∧ (s.modes.mode = .idle → answers (.shutdown tag) .shutdown s)

/-- STANDBY from READY or WARMUP, SHUTDOWN from WARMUP, READY or STANDBY, and CLEAR_SAFE in SAFE with no board in transit and
no SAFE alarm in force: the mode with its entry effects on the zones, the conveyor and the wave. -/
def Obligations.RestingRequests : Prop :=
  ∀ (tag : Byte) (s : State), s.hears →
    (s.modes.mode = .ready ∨ s.modes.mode = .warmup →
      ∃ t, exec (.standby tag) s = .next t ∧ Answered s t .standby tag (0#8 :: t.modeFields)
        ∧ t.modes = { s.modes with mode := .standby, drain := .none, holdPending := false, ret := .none, holdTimer := 0,
                                   meltKept := s.pot.molten, warm := none }
        ∧ (∀ k, (t.zone k).started = (s.activeField (·.zoneStandby k) != 0) ∧ (t.zone k).warmFail = false
            ∧ (t.zone k).trim = (s.zone k).trim)
        ∧ t.tracker.conveyorRun = false ∧ t.wave.output = 0)
    ∧ (s.modes.mode = .warmup ∨ s.modes.mode = .ready ∨ s.modes.mode = .standby →
      ∃ t, exec (.shutdown tag) s = .next t ∧ Answered s t .shutdown tag (0#8 :: t.modeFields)
        ∧ t.modes = { s.modes with mode := .idle, drain := .none, holdPending := false, ret := .none, holdTimer := 0,
                                   meltKept := false, warm := none }
        ∧ (∀ k, (t.zone k).started = false ∧ (t.zone k).warmFail = false ∧ (t.zone k).trim = 0 ∧ (t.zone k).grant = 0)
        ∧ t.heat.pot.grant = 0 ∧ t.tracker.conveyorRun = false ∧ t.wave.output = 0)
    ∧ (s.modes.mode = .safe → s.tracker.records = [] → s.safeInForce = false →
      ∃ t, exec (.clearSafe tag) s = .next t ∧ Answered s t .clearSafe tag (0#8 :: t.modeFields)
        ∧ t.modes = { s.modes with mode := .idle, drain := .none, holdPending := false, ret := .none, holdTimer := 0,
                                   meltKept := false, warm := none }
        ∧ ∀ k, (t.zone k).started = false ∧ (t.zone k).trim = 0)

/-- HOLD: at once with no board in the wave window, pending with one there, and no change while a hold is pending or entered.
RESUME: it cancels a pending hold, is refused with BUSY in HOLD while a purge runs, and else returns to RUN or to DRAIN with
its kept target, the conveyor running again; with no board in transit the drain completes at once into its target. -/
def Obligations.HoldAndResumeTaken : Prop :=
  (∀ (tag : Byte) (s : State), s.hears →
    (s.modes.mode = .run ∨ s.modes.mode = .drain → s.modes.holdPending = false → s.waveOccupied = false →
      s.extr.forcedDue = false → ∃ t, exec (.hold tag) s = .next t ∧ Answered s t .hold tag (0#8 :: t.holdFields)
        ∧ t.modes = { s.modes with mode := .hold, ret := if s.modes.mode = .drain then .drain else .run,
                                   holdPending := false, holdTimer := 0, warm := none }
        ∧ t.tracker.conveyorRun = false)
    ∧ (s.modes.mode = .run ∨ s.modes.mode = .drain → s.modes.holdPending = false → s.waveOccupied = true →
      let u := s.setModes { s.modes with holdPending := true }
      exec (.hold tag) s = .next (u.replying .hold tag (0#8 :: u.holdFields)))
    ∧ (s.modes.mode = .hold ∨ ((s.modes.mode = .run ∨ s.modes.mode = .drain) ∧ s.modes.holdPending = true) →
      exec (.hold tag) s = .next (s.replying .hold tag (0#8 :: s.holdFields))))
  ∧ ∀ (tag : Byte) (s : State), s.hears →
    (s.modes.mode = .run ∨ s.modes.mode = .drain →
      let u := admissionTest (s.setModes { s.modes with holdPending := false })
      exec (.resume tag) s = .next (u.replying .resume tag (0#8 :: u.holdFields)))
    ∧ (s.modes.mode = .hold → s.spray.running.isPurge = true →
      exec (.resume tag) s = .next (s.replying .resume tag (3#8 :: s.holdFields)))
    ∧ (s.modes.mode = .hold → s.spray.running.isPurge = false → s.extr.forcedDue = false →
      ∃ t, exec (.resume tag) s = .next t ∧ Answered s t .resume tag (0#8 :: t.holdFields)
        ∧ (s.modes.ret ≠ .drain → t.tracker.conveyorRun = true
          ∧ t.modes = { s.modes with mode := .run, drain := .none, ret := .none, holdTimer := 0, warm := none })
        ∧ (s.modes.ret = .drain → s.tracker.records ≠ [] → t.tracker.conveyorRun = true
          ∧ t.modes = { s.modes with mode := .drain, ret := .none, holdTimer := 0, warm := none })
        ∧ (s.modes.ret = .drain → s.tracker.records = [] → DrainedTo s.modes.drain s t))

/-- SELECT_SET: WRONG_MODE outside IDLE and STANDBY, then the first of its checks that fails, changing nothing (a part with no
configuration record fits no set, log 36); taken, it sets the active set, returns the trims to 0, and in STANDBY sets the
started marks anew. -/
def Obligations.SelectSetTaken : Prop :=
  ∀ (tag n : Byte) (s : State), s.hears →
    let passes := s.modes.mode = .idle ∨ s.modes.mode = .standby
    let refused := fun (code : Bytes) => exec (.selectSet tag n) s = .next (s.replying .selectSet tag code)
    let fits := fun (x : ThermalSet) => s.configured = true
      ∧ ∀ k, x.zone k = 0 ∧ x.zoneStandby k = 0 ∨ s.zoneRating k ≠ 0
    let item := (s.store.work.set n.toNat).item
    (¬ passes → refused [2#8])
    ∧ (passes → 7 < n.toNat → refused [11#8, 0#8])
    ∧ (passes → n.toNat ≤ 7 → (∀ x, item ≠ .valid x) → refused [13#8])
    ∧ ∀ x, passes → n.toNat ≤ 7 → item = .valid x →
      (¬ fits x → refused [13#8])
      ∧ (fits x → (∃ a ∈ s.tracker.queue, (s.recipeOf a.slot).set ≠ n.toNat) → refused [4#8])
      ∧ (fits x → (∀ a ∈ s.tracker.queue, (s.recipeOf a.slot).set = n.toNat) →
        ∃ t, exec (.selectSet tag n) s = .next t ∧ Answered s t .selectSet tag [0#8, n]
          ∧ t.modes = { s.modes with activeSet := some n.toNat }
          ∧ (∀ k, (s.modes.mode = .standby → x.zoneStandby k = 0 → (t.zone k).demand = 0)
              ∧ (t.zone k).trim = 0 ∧ (t.zone k).warmFail = (s.zone k).warmFail
              ∧ (t.zone k).started
                = if s.modes.mode = .standby then (x.zoneStandby k != 0) else (s.zone k).started)
          ∧ t.tracker = s.tracker ∧ t.maps = s.maps ∧ t.spray = s.spray ∧ t.wave = s.wave ∧ t.extr = s.extr
          ∧ t.alarms = s.alarms ∧ t.alert = s.alert)


/-! ### Severity, SAFE, forced standby, the timers of warm-up -/

/-- An alarm of STOP severity that goes ACTIVE or occurs turns RUN to DRAIN toward READY with hold-pending kept, and leaves
the mode and the drain target of every other mode as they are. -/
def Obligations.StopSeverityDrainsRunAlone : Prop :=
  ∀ (k : AlarmKind) (s : State), severity k = .stop → s.condition k = false → s.extr.forcedDue = false →
    (s.modes.mode ≠ .run → (raise k s).modes = s.modes ∧ (occur k s).modes = s.modes)
    ∧ (s.modes.mode = .run → s.tracker.records ≠ [] →
      let drained := { s.modes with mode := Mode.drain, drain := .ready, ret := .none, holdTimer := 0, warm := none }
      (raise k s).modes = drained ∧ (occur k s).modes = drained)
    ∧ (s.modes.mode = .run → s.tracker.records = [] →
      (raise k s).modes.mode = .ready ∧ (occur k s).modes.mode = .ready)

/-- The pot trip input becoming active while POT_OVERTEMP's condition is absent and the mode is not SAFE: SAFE with its
effects on every block. The input becoming inactive with the over mark clear ends the condition and nothing else. A result of
channel 6 that its owners take (ControlConversionEnds) judges the other part, the over mark, and with it the condition; an
OPEN or STALE result leaves both. -/
def Obligations.PotTripEntersSafe : Prop :=
  ∀ s : State,
    (s.modes.mode ≠ .safe → s.condition .potOvertemp = false → ∃ t, exec (.potTripEdge true) s = .next t
      ∧ SameOutside s t
      ∧ t.modes = { s.modes with mode := .safe, drain := .none, holdPending := false, ret := .none, holdTimer := 0,
                                 meltKept := false, warm := none }
      ∧ t.heat.pot.tripInput = true ∧ t.heat.pot.grant = 0
      ∧ (∀ k, (t.zone k).grant = 0 ∧ (t.zone k).warmFail = false ∧ (t.zone k).trim = (s.zone k).trim)
      ∧ t.wave.output = 0 ∧ t.spray.sprayOpen = false ∧ t.spray.purgeOpen = false ∧ t.spray.running = .idle
      ∧ t.spray.queue = [] ∧ t.tracker.gateOpen = false ∧ t.tracker.conveyorRun = !s.tracker.records.isEmpty
      ∧ (∀ d n w, s.wave.phase = .search d n w →
          t.wave.phase = .none ∧ t.wave.outcome = .failed ∧ t.wave.cause = .safeAlarm)
      ∧ (∀ d l, s.wave.phase = .writing d l → t.wave.phase = .writing d l)
      ∧ (∀ r ∈ t.tracker.records, r.inWave = true → r.exc.has .safePass = true ∨ r.exc.more = true)
      ∧ t.alarm .potOvertemp = { state := .active, count := min 255 ((s.alarm .potOvertemp).count + 1),
                                 time := some (s.seconds, .current) })
    ∧ (s.heat.pot.overMark = false →
      exec (.potTripEdge false) s = .next (admissionTest
        { s with heat := { s.heat with pot := { s.heat.pot with tripInput := false } }
                 alarms := s.alarms.set .potOvertemp (s.alarm .potOvertemp).disappear }))
    ∧ (let t := deliver 6 s
       (∀ v, (s.slot 6).standing = .fresh → (s.slot 6).value = some v →
          t.heat.pot.overMark = (s.configured && decide ((s.param 74 : Int) < v))
          ∧ t.condition .potOvertemp = (s.heat.pot.tripInput || t.heat.pot.overMark)
          ∧ (s.condition .potOvertemp = false → t.condition .potOvertemp = true → s.modes.mode ≠ .safe →
            t.modes.mode = .safe ∧ t.heat.pot.grant = 0 ∧ t.wave.output = 0))
       ∧ ((s.slot 6).standing ≠ .fresh →
          t.heat.pot.overMark = s.heat.pot.overMark ∧ t.condition .potOvertemp = s.condition .potOvertemp))

/-- The hold limit (outside HOLD its timer does not run and the expiry is none, log 3): HELD_LONG on every record, DRAIN to
the kept target or to READY, the conveyor running again; with no board in transit the drain completes at once into its
target. -/
def Obligations.HoldLimitDrains : Prop :=
  ∀ s : State, (s.modes.mode ≠ .hold → exec .holdLimitExpiry s = .next (admissionTest s))
    ∧ (s.modes.mode = .hold → s.extr.forcedDue = false → s.extr.fan = true →
      ∃ t, exec .holdLimitExpiry s = .next t ∧ SameOutside s t
        ∧ (let target := if s.modes.ret = .drain then s.modes.drain else .ready
           (s.tracker.records ≠ [] →
             t.modes = { s.modes with mode := .drain, drain := target, ret := .none, holdTimer := 0, warm := none }
             ∧ t.tracker.conveyorRun = true ∧ t.tracker.queue = s.tracker.queue
             ∧ t.tracker.records.map (fun r => (r.tag, r.stage, r.exc))
                 = s.tracker.records.map (fun r => (r.tag, r.stage, r.exc.add .heldLong 1)))
           ∧ (s.tracker.records = [] → DrainedTo target s t)))

/-- The grace timer expires (while it does not run there is no expiry, log 3): it stops at the grace time, and forced standby
acts by the mode, or stays due in a mode in which it does not act. With no board in transit the drain that it begins in RUN or
in HOLD completes at once into its target. -/
def Obligations.GraceExpiryForcesStandby : Prop :=
  ∀ s : State, ((∀ n, s.extr.grace ≠ .running n) → exec .graceTimerExpiry s = .next s)
    ∧ ∀ n, s.extr.grace = .running n → s.extr.fan = true → ∃ t, exec .graceTimerExpiry s = .next t ∧ SameOutside s t
      ∧ (s.modes.mode ≠ .hold ∨ s.tracker.records ≠ [] ∨ s.modes.drain ≠ .idle → t.extr.grace = .expired s.graceTicks)
      ∧ (s.modes.mode = .ready → t.modes.mode = .standby ∧ t.extr.forcedDue = false)
      ∧ (s.modes.mode = .run → s.tracker.records ≠ [] → t.modes
          = { s.modes with mode := .drain, drain := .standby, ret := .none, holdTimer := 0, warm := none })
      ∧ (s.modes.mode = .run → s.tracker.records = [] → DrainedTo .standby s t ∧ t.extr.forcedDue = false)
      ∧ (s.modes.mode = .drain → t.modes
          = { s.modes with drain := if s.modes.drain = .ready then .standby else s.modes.drain })
      ∧ (s.modes.mode = .hold → s.tracker.records ≠ [] → t.tracker.conveyorRun = true ∧ t.modes
          = { s.modes with mode := .drain, drain := if s.modes.drain = .idle then .idle else .standby, ret := .none,
                           holdTimer := 0, warm := none })
      ∧ (s.modes.mode = .hold → s.tracker.records = [] →
        DrainedTo (if s.modes.drain = .idle then .idle else .standby) s t ∧ t.extr.forcedDue = false)
      ∧ (s.modes.mode = .idle ∨ s.modes.mode = .warmup ∨ s.modes.mode = .standby ∨ s.modes.mode = .calibrating
          ∨ s.modes.mode = .safe → t.modes = s.modes ∧ t.extr.forcedDue = true)

/-- The timers that a warm-up watches. The melt timer's expiry in stage MELT, with no pot result at melt-safe yet:
POT_WARM_FAIL appears, the stage goes on, and nothing else changes; the expiry counts once (log 3). A zone's warm timer
expires before the zone enters band: its mark is set and ZONE_WARM_FAIL's condition is present, the timer stops, the zone goes
on heating, and the cursor starts the next zone that takes part. -/
def Obligations.WarmUpTimersExpire : Prop :=
  (∀ (w : WarmUp) (s : State), s.modes.warm = some w → w.stage = .melt → w.meltReached = false → s.supplyLow = false →
    (w.meltExpired = true → exec .meltTimerExpiry s = .next s)
    ∧ (w.meltExpired = false → s.condition .potWarmFail = false →
      exec .meltTimerExpiry s = .next
        { s with modes := { s.modes with warm := some { w with meltExpired := true } }
                 alarms := s.alarms.set .potWarmFail
                   { state := .active, count := min 255 ((s.alarm .potWarmFail).count + 1),
                     time := some (s.seconds, .current) }
                 alert := s.alert.onAlarm }))
  ∧ ∀ (k : ZoneId) (w : WarmUp) (n : Nat) (s : State), s.modes.mode = .warmup → s.modes.warm = some w →
    w.timers.get k = .running n → (w.stage = .zones ∨ w.stage = .settle) → s.supplyLow = false →
    s.zoneInBand k = false → w.cursor = some k ∨ w.cursor = none → ∃ t, exec (.zoneWarmTimeout k) s = .next t ∧ SameOutside s t
      ∧ (t.zone k).warmFail = true ∧ (t.zone k).started = (s.zone k).started ∧ t.condition .zoneWarmFail = true
      ∧ t.modes.warm.map (fun x => x.timers.get k) = some .stopped
      ∧ (w.stage = .zones → w.cursor = some k → ∀ j, (zonesAfter k).find? s.takesPart = some j →
          (t.zone j).started = true)
      ∧ t.modes.mode = .warmup ∧ t.tracker = s.tracker ∧ t.extr = s.extr

/-- The times that a warm-up waits for. The soak ends in stage MELT: POT_MOLTEN, POT_WARM_FAIL's condition absent, and stage
ZONES with the first zone that takes part started, or SETTLE at once where nothing is left to wait for. The settle time has
passed with every loop in band: READY, the warm-up record discarded, the started marks kept, the conveyor running. And what a
result of channel 6 that its owners take (ControlConversionEnds) does to them: at melt-safe or above the soak asked for
begins, POT_COLD and POT_WARM_FAIL end, and the warm-up record notes that the pot has reached it (meltReached, the model's own
mark, log 32); below it the soak in progress is interrupted; OPEN, or more than 5.0 °C below
melt-safe, POT_MOLTEN is lost with the level, the feeder, the wave, the search and the mode that rest on it. -/
def Obligations.SoakAndSettleEnd : Prop :=
  (∀ s : State, s.modes.mode = .warmup → s.stage? = some .settle → s.allInBand = true → s.supplyLow = false →
    s.extr.forcedDue = false → ∃ t, exec .settleTimeExpiry s = .next t ∧ SameOutside s t
      ∧ t.modes = { s.modes with mode := .ready, drain := .none, holdPending := false, ret := .none, holdTimer := 0,
                                 warm := none }
      ∧ (∀ k, (t.zone k).started = (s.zone k).started) ∧ t.tracker.conveyorRun = true ∧ t.wave.output = 0)
  ∧ (∀ (w : WarmUp) (n : Nat) (s : State), s.modes.mode = .warmup → s.modes.warm = some w → w.stage = .melt →
    s.pot.soak = .soaking n → s.supplyLow = false → ∃ t, exec .soakComplete s = .next t ∧ SameOutside s t
      ∧ t.pot.molten = true ∧ t.pot.soak = .none ∧ t.condition .potWarmFail = false ∧ t.modes.mode = .warmup
      ∧ (t.stage? = some .zones ∨ t.stage? = some .settle)
      ∧ (w.zonesEntered = false → ∀ k, allZones.find? s.takesPart = some k → (t.zone k).started = true)
      ∧ (w.zonesEntered = true → ∀ k, (s.zone k).started = true → (t.zone k).started = true))
  ∧ ∀ s : State,
    let x := s.slot 6
    let t := deliver 6 s
    let cool := s.heat.pot.tripInput = false ∧ ∀ v, x.value = some v → v ≤ (s.param 74 : Int)
    let interrupted := match s.pot.soak with
      | .soaking _ => Soak.waiting
      | y => y
    let lost := x.standing = .opened
      ∨ (x.standing = .fresh ∧ s.configured = true ∧ cool ∧ ∃ v, x.value = some v ∧ v < (s.meltSafe : Int) - 50)
    (∀ v, x.standing = .fresh → x.value = some v → s.configured = true → cool → (s.meltSafe : Int) ≤ v →
      t.pot.soak = (if s.pot.soak = .waiting then .soaking 0 else s.pot.soak) ∧ t.pot.molten = s.pot.molten
      ∧ t.condition .potCold = false ∧ t.condition .potWarmFail = false ∧ t.modes.mode = s.modes.mode
      ∧ t.modes.warm.map (·.meltReached) = s.modes.warm.map (fun _ => true))
    ∧ (∀ v, x.standing = .fresh → x.value = some v → s.configured = true → cool → v < (s.meltSafe : Int) →
      s.pot.molten = false ∨ (s.meltSafe : Int) - 50 ≤ v →
      t.pot.soak = interrupted ∧ t.pot.molten = s.pot.molten ∧ t.modes.mode = s.modes.mode)
    ∧ (x.standing = .stale → t.pot.soak = interrupted ∧ t.pot.molten = s.pot.molten ∧ t.modes.mode = s.modes.mode)
    ∧ (lost → s.pot.molten = true →
      t.pot.molten = false ∧ t.pot.standing = .invalid ∧ t.pot.level = s.pot.level ∧ t.pot.feeder = .off
      ∧ t.wave.output = 0
      ∧ (s.modes.mode = .run ∨ s.modes.mode = .drain ∨ s.modes.mode = .hold → (∀ d n w, s.wave.phase ≠ .search d n w) →
        s.condition .potCold = false →
        t.modes.mode = .safe ∧ t.alarm .potCold = { state := .active, count := min 255 ((s.alarm .potCold).count + 1),
                                                    time := some (s.seconds, .current) })
      ∧ (∀ d n w, s.wave.phase = .search d n w → s.modes.mode = .calibrating → s.extr.forcedDue = false →
        t.modes.mode = .ready ∧ t.wave.phase = .none ∧ t.wave.outcome = .failed ∧ t.wave.cause = .potNotMolten
        ∧ t.alarm .calFail = { state := .latched, count := min 255 ((s.alarm .calFail).count + 1),
                               time := some (s.seconds, .current) })
      ∧ (s.modes.mode = .warmup → s.stage? = some .zones ∨ s.stage? = some .settle →
        (∀ d n w, s.wave.phase ≠ .search d n w) → t.stage? = some .melt ∧ t.pot.soak = .waiting)
      ∧ (s.modes.mode = .warmup → s.stage? = some .extraction → (∀ d n w, s.wave.phase ≠ .search d n w) →
        t.modes = { s.modes with meltKept := false } ∧ ∀ k, (t.zone k).started = false)
      ∧ (s.modes.mode = .standby → (∀ d n w, s.wave.phase ≠ .search d n w) →
        t.modes = { s.modes with meltKept := false })
      ∧ (s.modes.mode = .idle ∨ s.modes.mode = .ready ∨ s.modes.mode = .safe → (∀ d n w, s.wave.phase ≠ .search d n w) →
        t.modes = s.modes))

/-- Every promise of the whole part holds right after reset. -/
def Obligations.PromisesHoldAtReset : Prop :=
  State.reset.modes.shaped ∧ State.reset.withinCapacity ∧ State.reset.placesFit ∧ State.reset.countsFit ∧ State.reset.tagsDistinct
    ∧ State.reset.complete ∧ State.reset.valvesSafe ∧ State.reset.heatersSafe ∧ State.reset.waveSafe
    ∧ State.reset.fanFollows ∧ State.reset.forcedSettled

/-- Every step keeps the Mode Controller's items fitting together, the fan command following the mode and the fume signal, and
forced standby due in no mode in which it acts. -/
def Obligations.ModeItemsStayFitting : Prop :=
  ∀ s t : State, step s = .next t → (s.modes.shaped → t.modes.shaped) ∧ (s.fanFollows → t.fanFollows)
    ∧ (s.forcedSettled → t.forcedSettled)


/-! ### Boards -/

/-- ANNOUNCE: the first check that fails gives the refusal with the free places; an announcement that passes them all joins
the tail, and the admission test is made. A BAD_VALUE carries index 0 before the free places (log 13). -/
def Obligations.AnnounceChecksAndJoins : Prop :=
  ∀ (tag : Byte) (b : Word16) (slot o : Byte) (s : State), s.hears → modeAllows .announce s.modes.mode = true →
    let free := u8 s.freePlaces
    let fields := b.toNat ≠ 0 ∧ slot.toNat < 32 ∧ o.toNat < 2
    let present := s.announced b.toNat = true ∨ s.inTransit b.toNat = true
    let refused := fun (code : Bytes) =>
      exec (.announce tag b slot o) s = .next (s.replying .announce tag (code ++ free))
    (¬ fields → refused [11#8, 0#8])
    ∧ (fields → present → refused [9#8])
    ∧ (fields → ¬ present → s.freePlaces = 0 → refused [7#8])
    ∧ (fields → ¬ present → s.freePlaces ≠ 0 → (∀ r, (s.store.work.recipe slot.toNat).item ≠ .valid r) →
        refused [12#8])
    ∧ (fields → ¬ present → s.freePlaces ≠ 0 → ∀ r, (s.store.work.recipe slot.toNat).item = .valid r →
        ((∃ n, s.modes.activeSet = some n ∧ r.set ≠ n) → refused [14#8])
        ∧ ((∀ n, s.modes.activeSet = some n → r.set = n) →
          let u := admissionTest (s.setTracker { s.tracker with queue := s.tracker.queue ++
            [{ tag := b.toNat, slot := slot.toNat, orientation := if o.toNat = 0 then .normal else .rotated }] })
          exec (.announce tag b slot o) s = .next (u.replying .announce tag (0#8 :: u8 u.freePlaces))))

/-- WITHDRAW: the announcement is removed and the others keep their order; a board in transit is IN_USE; any other tag is
NOT_FOUND; every reply carries the free places. -/
def Obligations.WithdrawTakesOneOut : Prop :=
  ∀ (tag : Byte) (b : Word16) (s : State), s.hears → s.modes.mode ≠ .calibrating →
    (s.announced b.toNat = true →
      let u := admissionTest (s.setTracker { s.tracker with queue := s.tracker.queue.filter (fun a => a.tag ≠ b.toNat) })
      exec (.withdraw tag b) s = .next (u.replying .withdraw tag (0#8 :: u8 u.freePlaces)))
    ∧ (s.announced b.toNat = false → s.inTransit b.toNat = true →
      exec (.withdraw tag b) s = .next (s.replying .withdraw tag (4#8 :: u8 s.freePlaces)))
    ∧ (s.announced b.toNat = false → s.inTransit b.toNat = false →
      exec (.withdraw tag b) s = .next (s.replying .withdraw tag (10#8 :: u8 s.freePlaces)))

/-- The stopper sensor shows a board, or none: the gate opens when all of the nine conditions hold, with the record, its buffer
and the admission as the gate's rule has them, and else nothing but the input changes. A composition starts at once on a buffer
that joins an empty composition order, unless a store operation is in progress. -/
def Obligations.StopperEdgeOpensTheGate : Prop :=
  ∀ (present : Bool) (s : State),
    let u := s.setTracker { s.tracker with stopper := present }
    let nine := (s.modes.mode = .run ∧ s.modes.holdPending = false)
      ∧ present = true
      ∧ s.tracker.queue ≠ []
      ∧ s.tracker.admission = none
      ∧ (∀ g, s.tracker.gapRef = some g → ((s.gapMin * s.kScale : Nat) : Int) ≤ (s.tracker.count - g).toInt)
      ∧ (∃ b, s.maps.buffers.get b = none)
      ∧ (s.tracker.records.length < 12 ∧ s.tracker.records.length + s.reports.queue.length < 16)
      ∧ (∀ k, severity k = .stop ∨ severity k = .safe → (s.alarm k).state = .clear)
      ∧ (s.extr.state = .proven ∨ s.extr.state = .warn)
    (u.mayAdmit = true ↔ nine)
    ∧ (¬ nine → exec (.stopperSensorEdge present) s = .next u)
    ∧ (∀ (a : Announcement) (rest : List Announcement), nine → s.tracker.queue = a :: rest →
      ∃ t b, exec (.stopperSensorEdge present) s = .next t
        ∧ s.maps.buffers.get b = none ∧ (∀ c, bufferIndex c < bufferIndex b → s.maps.buffers.get c ≠ none)
        ∧ t.tracker = { u.tracker with
            queue := rest, gateOpen := true, admission := some { tag := a.tag, timer := some 0 },
            records := s.tracker.records ++ [newRecord a b (ceilTen (s.recipeOf a.slot).length)] }
        ∧ t.maps.buffers.get b = some { owner := a.tag, composing := true, rows := ceilTen (s.recipeOf a.slot).length,
                                        cols := ceilTen (s.recipeOf a.slot).width, cells := [], spans := [],
                                        resolved := 0 }
        ∧ (∀ c, c ≠ b → t.maps.buffers.get c = s.maps.buffers.get c) ∧ t.maps.order = s.maps.order ++ [b]
        ∧ (s.maps.working ≠ none ∨ s.store.op ≠ none → t.maps.working = s.maps.working)
        ∧ (s.maps.order = [] → s.maps.working = none → s.store.op = none → s.inTransit a.tag = false →
          t.maps.working = some { base := (s.recipeOf a.slot).base, rects := (s.recipeOf a.slot).rects })
        ∧ t = { s with tracker := t.tracker, maps := t.maps })

/-- A step of the encoder: the count moves by one and wraps at 2^24, and the blocks outside are untouched; a reverse step
issues no stage event. A forward step carries every record past its thresholds: the rows due, the zones it overlaps with their
boosts, the pyrometer's sample points and evaluation, the wave window; then a window become clear lets a pending hold in; then
the records past the exit limit leave as reports, the matched ones with TRACK_LOST and the others as LOST with BOARD_MISSING.
The order of the parts is the model's (log 34), a sample point crossed only once of log 37, a wave window that begins before the entry
sensor of log 41, a reverse step's marks of log 15. -/
def Obligations.EncoderStepCounts : Prop :=
  (∀ s : State,
    (exec (.encoderStep false) s = .next (admissionTest
      (s.setTracker { s.tracker with
        count := s.tracker.count - 1
        windowCounts := s.tracker.windowCounts + (if s.tracker.conveyorRun then -1 else 0) })))
    ∧ (∃ t, exec (.encoderStep true) s = .next t ∧ SameElsewhere s t ∧ t.link = s.link
      ∧ t.tracker.count = s.tracker.count + 1)
    ∧ (s.tracker.records = [] → exec (.encoderStep true) s = .next (admissionTest
      (giveBoosts (s.setTracker { s.tracker with
        count := s.tracker.count + 1
        windowCounts := s.tracker.windowCounts + (if s.tracker.conveyorRun then 1 else 0) })))))
  ∧ (∀ s : State, s.tagsDistinct → s.countsFit →
    let u := countStep true s
    let v := giveBoosts (stageEvents u.tags u)
    let w := if s.waveOccupied = true ∧ v.waveOccupied = false ∧ v.modes.holdPending = true then enterHold v else v
    let n := w.tracker.records.length
    let y := missingExits n (overrunExits n w)
    exec (.encoderStep true) s = .next (admissionTest y)
    -- the stage events of every record that has a position
    ∧ v.tracker.records.map (fun x => (x.tag, x.slot, x.stage, x.entry, x.measured, x.matched))
        = s.tracker.records.map (fun r => (r.tag, r.slot, r.stage, r.entry, r.measured, r.matched))
    ∧ (∀ r ∈ s.tracker.records, r.entry = none → ∃ x ∈ v.tracker.records, x = { r with buffer := x.buffer })
    ∧ (∀ r ∈ s.tracker.records, ∀ x ∈ v.tracker.records, ∀ e, x.tag = r.tag → r.entry = some e →
      let d := (s.tracker.count + 1 - e).toInt
      let len : Int := match r.measured with
        | some m => (m : Int) * s.kScale
        | none => ((s.recipeOf r.slot).length : Int) * s.kScale
      let at_ := fun mm : Int => mm * s.kScale
      let row := fun i : Nat => at_ (s.sprayLine + 10 * i)
      -- rows fall due in order, each once (R45)
      r.nextRow ≤ x.nextRow ∧ (∀ i, r.nextRow ≤ i → i < x.nextRow → i < r.rowsTotal ∧ row i ≤ d)
      ∧ (x.nextRow < r.rowsTotal → d < row x.nextRow)
      -- the zones it overlaps (R46)
      ∧ (∀ k, x.zonesIn.get k = (s.zoneRating k != 0 &&
          (if r.zonesIn.get k then decide (d - len < at_ (s.zoneEnd k))
           else decide (at_ (s.zoneStart k) < d ∧ d - len < at_ (s.zoneEnd k)) && !r.zonesDone.get k)))
      -- the pyrometer (R47)
      ∧ (let past := d - at_ s.pyroLine
         let point := 0 ≤ past ∧ past % at_ 20 = 0 ∧ (r.pointsCrossed : Int) ≤ past / at_ 20
         let short := d - len < at_ s.pyroLine
         (point → (x.pointsCrossed : Int) = past / at_ 20 + 1) ∧ (¬ point → x.pointsCrossed = r.pointsCrossed)
         ∧ (point → short → (x.nextSample : Int) = past / at_ 20 + 1)
         ∧ (¬ (point ∧ short) → x.nextSample = r.nextSample)
         ∧ x.peak = (if point ∧ short then
             match (s.slot 12).freshValue, r.peak with
             | none, p => p
             | some c, none => some c
             | some c, some p => some (max p c)
           else r.peak)
         ∧ x.pyroDone = (r.pyroDone || decide (¬ short))
         ∧ (r.pyroDone = false → ¬ short →
           let found := fun k => x.exc.has k = true ∨ x.exc.more = true
           (r.peak = none → found .notMeasured)
           ∧ (∀ p, r.peak = some p → p < (s.recipeOf r.slot).exitMin → found .tempLow)
           ∧ (∀ p, r.peak = some p → (s.recipeOf r.slot).exitMin ≤ p → (s.recipeOf r.slot).exitMax < p →
             found .tempHigh)))
      -- the wave window (R48, R49)
      ∧ (let near := at_ ((s.waveCentre : Int) - s.waveHalf)
         let far := at_ ((s.waveCentre : Int) + s.waveHalf)
         let meets := r.inWave = false ∧ r.waveDone = false ∧ near < d ∧ d - len < far
         x.inWave = (if r.inWave then decide (d - len < far) else decide meets)
         ∧ (¬ meets → x.wave = r.wave)
         ∧ (meets → x.wave = some (s.wave.output, s.wave.output)
           ∧ (s.wave.side = .high → x.exc.has .waveShort = true ∨ x.exc.more = true)
           ∧ (s.modes.mode = .safe → x.exc.has .safePass = true ∨ x.exc.more = true))))
    -- the boosts of the zones (R46)
    ∧ (∀ k, (v.zone k).boost = if s.zoneRating k = 0 then 0
        else ((v.tracker.records.filter (fun x => x.zonesIn.get k)).map (fun x => (s.recipeOf x.slot).boost)).foldl max 0)
    -- the records past the exit limit (R52, R53)
    ∧ (let limit : Int := (s.exitLine + s.exitTol : Nat) * (s.kScale : Int)
       let overran := fun x : Record => x.matched && (match w.position x with
         | some d => decide (limit ≤ d - w.boardCounts x)
         | none => false)
       let late := fun x : Record => match w.position x with
         | some d => decide (limit < d)
         | none => false
       let gone1 := w.tracker.records.filter overran
       let gone2 := (w.tracker.records.filter (fun x => !x.matched)).takeWhile late
       let gone := gone1 ++ gone2
       let counted := fun (k : AlarmKind) (m : Nat) => (y.alarm k).count = min 255 ((s.alarm k).count + m)
         ∧ (m ≠ 0 → (y.alarm k).state = .latched)
       y.tracker.records.map (·.tag)
           = (s.tracker.records.map (·.tag)).filter (fun tag => !(gone.map (·.tag)).contains tag)
         ∧ y.reports.next = (s.reports.next + gone.length) % 65536
         ∧ (y.reports.queue.take s.reports.queue.length = s.reports.queue)
         ∧ ((y.reports.queue.drop s.reports.queue.length).map (fun p => (p.tag, p.outcome == .lost))
           = gone1.map (fun x => (x.tag, false)) ++ gone2.map (fun x => (x.tag, true)))
         ∧ counted .trackLost gone1.length ∧ counted .boardMissing gone2.length
         ∧ (gone ≠ [] → y.modes.mode ≠ .run)
         ∧ (gone = [] → y = w)))
  -- the rows due of one record: one after another, each at the compositor and then at the Stroke Queue (R45, R65 to R67, R73)
  ∧ ∀ (tag : Nat) (s : State),
    (∀ n, dueRows (n + 1) tag s = dueRows n tag (dueRows 1 tag s))
    ∧ ∀ (b : BufferId) (m : MapBuffer) (r : Record) (d : Int), s.record? tag = some r → s.position r = some d →
      r.buffer = some b → s.maps.buffers.get b = some m → r.nextRow < r.rowsTotal →
      let front : Int := ((s.sprayLine + 10 * r.nextRow) * s.kScale : Nat)
      front ≤ d →
      let q := dueRows 1 tag s
      let counts := fun (sprayed skipped : Nat) =>
        q.tracker.records.map (fun x => (x.tag, x.sprayed, x.skipped, x.dose, x.nextRow))
          = s.tracker.records.map (fun x => if x.tag = tag then
              (x.tag, x.sprayed + sprayed, x.skipped + skipped, min 4294967295 x.dose, x.nextRow + 1)
            else (x.tag, x.sprayed, x.skipped, x.dose, x.nextRow))
      let moved := s.tracker.records.map (fun x => if x.tag = tag then { x with nextRow := x.nextRow + 1 } else x)
      let skips := fun k : ExcKind => counts 0 1 ∧ q.spray = s.spray
        ∧ ∀ x ∈ q.tracker.records, x.tag = tag → x.exc.has k = true ∨ x.exc.more = true
      let sound := s.extr.state = .proven ∨ s.extr.state = .warn
      let passes := sound ∧ d - front ≤ (s.sprayReach * s.kScale : Nat)
        ∧ ∃ v, (s.slot 11).freshValue = some v ∧ (s.minFluxPressure : Int) ≤ v
      (m.composing = true → skips .fluxLate)
      ∧ (m.composing = false → m.spans.getD r.nextRow none = none → counts 1 0 ∧ q.spray = s.spray)
      ∧ ∀ first last, m.composing = false → m.spans.getD r.nextRow none = some (first, last) →
        (s.modes.mode = .safe → skips .fluxSkip)
        ∧ (s.modes.mode ≠ .safe → s.spray.running = .idle → s.spray.queue = [] →
          (passes → q.tracker.records = moved
            ∧ ∃ n, q.spray = { s.spray with running := .stroke n } ∧ n.tag = tag ∧ n.buffer = b ∧ n.row = r.nextRow
              ∧ n.first = first ∧ n.last = last)
          ∧ (¬ passes → counts 0 1 ∧ q.spray = s.spray ∧ ∀ x ∈ q.tracker.records, x.tag = tag →
            x.exc.has (if sound then .fluxSkip else .fluxInhibit) = true ∨ x.exc.more = true))
        ∧ (s.modes.mode ≠ .safe → s.spray.running ≠ .idle ∨ s.spray.queue ≠ [] → s.spray.queue.length < 4 →
          q.spray = { s.spray with queue := s.spray.queue ++
            [{ tag := tag, buffer := b, row := r.nextRow, front := front, first := first, last := last }] }
          ∧ q.tracker.records = moved)
        ∧ (s.modes.mode ≠ .safe → 4 ≤ s.spray.queue.length → skips .fluxSkip)

/-- Entry edges that belong to no admission: TRACK_LOST and no record for a rising edge, nothing but the admission test (log
22) for a falling one, and TRACK_LOST with the record left ENTERING and its timer running for a falling edge before the
admitted board. A rising edge with an admission in progress whose record is not ENTERING, or has left the table, changes
nothing (log 40); the falling edge of an admission whose record has left the table closes the gate, takes the gap reference
and ends the admission (log 10). -/
def Obligations.EntryEdgesOutsideAnAdmission : Prop :=
  ∀ s : State,
    let keeps := fun t : State => t.tracker.count = s.tracker.count ∧ t.tracker.admission = s.tracker.admission
      ∧ t.tracker.records.map (fun r => (r.tag, r.stage, r.entry)) = s.tracker.records.map (fun r => (r.tag, r.stage, r.entry))
      ∧ t.alarm .trackLost = { state := .latched, count := min 255 ((s.alarm .trackLost).count + 1),
                               time := some (s.seconds, .current) }
    severity .trackLost = .stop
    ∧ (s.tracker.admission = none → ∃ t, exec .entrySensorRise s = .next t ∧ keeps t ∧ SameOutside s t)
    ∧ (s.tracker.admission = none → exec .entrySensorFall s = .next (admissionTest s))
    ∧ (∀ a, s.tracker.admission = some a → (∀ r, s.record? a.tag = some r → r.stage ≠ .entering) →
        exec .entrySensorRise s = .next s)
    ∧ (∀ a, s.tracker.admission = some a → s.record? a.tag = none →
        exec .entrySensorFall s = .next (admissionTest
          (s.setTracker { s.tracker with gateOpen := false, gapRef := some s.tracker.count, admission := none })))
    ∧ (∀ a r, s.tracker.admission = some a → s.record? a.tag = some r → r.stage = .entering →
        ∃ t, exec .entrySensorFall s = .next t ∧ keeps t ∧ SameOutside s t)

/-- The edges of the admitted board. The leading edge: its record takes the encoder count as its entry count and is CONVEYED,
and the entry timer stops. The trailing edge, of a CONVEYED record and of one that is EXITING already (log 10): the measured
length (0 for a board pushed back behind its entry, log 14) with its check, the gate closed, the gap reference, and the end of
the admission; the admission test ends the event. -/
def Obligations.AdmittedBoardsEdges : Prop :=
  (∀ (a : Admission) (r : Record) (s : State), s.tracker.admission = some a → s.record? a.tag = some r →
    r.stage = .entering → exec .entrySensorRise s = .next
      (s.setTracker { s.tracker with
        admission := some { tag := a.tag, timer := none }
        records := s.tracker.records.map (fun x => if x.tag = a.tag then
          { x with entry := some s.tracker.count, stage := .conveyed } else x) }))
  ∧ ∀ (a : Admission) (r : Record) (d : Int) (s : State), s.tracker.admission = some a → s.record? a.tag = some r →
    r.stage ≠ .entering → s.position r = some d →
    ∃ u, exec .entrySensorFall s = .next (admissionTest u) ∧ SameOutside s u ∧ u.tracker.gateOpen = false
      ∧ u.tracker.gapRef = some s.tracker.count ∧ u.tracker.admission = none ∧ u.tracker.queue = s.tracker.queue
      ∧ u.tracker.records.map (·.tag) = s.tracker.records.map (·.tag)
      ∧ ∀ x ∈ u.tracker.records, x.tag = a.tag → x.measured = some (measuredLength d s.kScale)
          ∧ (measuredLength d s.kScale + (s.recipeOf x.slot).tolerance < (s.recipeOf x.slot).length
              ∨ (s.recipeOf x.slot).length + (s.recipeOf x.slot).tolerance < measuredLength d s.kScale →
            x.exc.has .lengthMismatch = true ∨ x.exc.more = true)

/-- The entry timer expires: the gate closes, the record leaves with no report, its buffer is FREE, its announcement returns
to the head of the queue, and ENTRY_TIMEOUT occurs. -/
def Obligations.EntryTimeoutReturnsTheAnnouncement : Prop :=
  ∀ (tag n : Nat) (r : Record) (s : State), s.tracker.admission = some { tag := tag, timer := some n } →
    s.record? tag = some r → s.tracker.conveyorRun = true → ∃ t, exec .entryTimerExpiry s = .next t ∧ SameOutside s t
      ∧ t.tracker.queue = { tag := r.tag, slot := r.slot, orientation := r.orientation } :: s.tracker.queue
      ∧ t.tracker.records.map (·.tag) = (s.tracker.records.map (·.tag)).filter (fun x => x ≠ tag)
      ∧ t.tracker.gateOpen = false ∧ t.tracker.admission = none ∧ t.tracker.gapRef = s.tracker.gapRef
      ∧ (∀ b, r.buffer = some b → t.maps.buffers.get b = none ∧ b ∉ t.maps.order)
      ∧ t.alarm .entryTimeout = { state := .latched, count := min 255 ((s.alarm .entryTimeout).count + 1),
                                  time := some (s.seconds, .current) }

/-- The exit sensor: a rising edge matches the oldest record in the exit window, or is TRACK_LOST; a falling edge makes the
oldest matched record a report at the tail of the Report Queue, or is ignored. The admission test ends each event. -/
def Obligations.ExitSensorMatchesAndReports : Prop :=
  ∀ s : State,
    (∀ r, s.exitCandidate? = some r → exec .exitSensorRise s = .next (admissionTest
      (s.setTracker { s.tracker with records := s.tracker.records.map (fun x => if x.tag = r.tag then
        { x with matched := true, stage := .exiting } else x) })))
    ∧ (s.exitCandidate? = none → ∃ t, exec .exitSensorRise s = .next t ∧ SameOutside s t
      ∧ t.tracker.records.map (fun r => (r.tag, r.matched, r.stage)) = s.tracker.records.map (fun r => (r.tag, r.matched, r.stage))
      ∧ t.alarm .trackLost = { state := .latched, count := min 255 ((s.alarm .trackLost).count + 1),
                               time := some (s.seconds, .current) })
    ∧ (s.tracker.records.find? (·.matched) = none → exec .exitSensorFall s = .next (admissionTest s))
    ∧ (∀ r, s.tracker.records.find? (·.matched) = some r → s.record? r.tag = some r →
      ∃ u p, exec .exitSensorFall s = .next (admissionTest u) ∧ SameElsewhere s u ∧ u.link = s.link
        ∧ u.reports = { queue := s.reports.queue ++ [p], next := (s.reports.next + 1) % 65536 }
        ∧ p.number = s.reports.next ∧ p.tag = r.tag ∧ p.slot = r.slot ∧ p.outcome ≠ .lost ∧ p.measured = r.measured
        ∧ p.exitTime = s.seconds ∧ p.sprayed = r.sprayed ∧ p.sprayed + p.skipped = max r.rowsTotal (r.sprayed + r.skipped)
        ∧ (p.outcome = .good ↔ p.exc.items = [] ∧ p.exc.more = false)
        ∧ u.tracker.records.map (·.tag) = (s.tracker.records.map (·.tag)).filter (fun x => x ≠ r.tag)
        ∧ (∀ e ∈ u.spray.queue, e.tag ≠ r.tag) ∧ u.alert.attention = true)

/-- The end of a speed window: nothing but the admission test while the conveyor is stopped (log 3, log 22), a fresh count
after the first window, and then the measured speed (a negative quotient rounded toward 0, log 14) and the two run counts,
which carry CONVEYOR_DEV's condition. And the steps of the encoder that a window counts: each moves the encoder count, and
with the conveyor running the window's count, which a removal within the step may begin again. -/
def Obligations.SpeedWindowJudges : Prop :=
  (∀ s : State, s.extr.forcedDue = false →
    (s.tracker.conveyorRun = false → exec .speedWindowEnd s = .next (admissionTest s))
    ∧ (s.tracker.conveyorRun = true → s.tracker.windowFirst = true →
      exec .speedWindowEnd s
        = .next (admissionTest (s.setTracker { s.tracker with windowCounts := 0, windowFirst := false })))
    ∧ (s.tracker.conveyorRun = true → s.tracker.windowFirst = false →
      let speed := Int.tdiv (s.tracker.windowCounts * 60) s.kScale
      let v := s.activeField (·.speed)
      let outside := (v : Int) < 20 * (speed - v).natAbs
      ∃ t, exec .speedWindowEnd s = .next t ∧ SameOutside s t
        ∧ t.tracker.measuredSpeed = some speed ∧ t.tracker.windowCounts = 0
        ∧ (outside → t.tracker.outsideRun = min 3 (s.tracker.outsideRun + 1) ∧ t.tracker.insideRun = 0)
        ∧ (¬ outside → t.tracker.insideRun = min 3 (s.tracker.insideRun + 1) ∧ t.tracker.outsideRun = 0)
        ∧ t.condition .conveyorDev = (if t.tracker.outsideRun = 3 then true
            else if t.tracker.insideRun = 3 then false else s.condition .conveyorDev)))
  ∧ ∀ (forward : Bool) (s : State), ∃ t, exec (.encoderStep forward) s = .next t
    ∧ t.tracker.count = s.tracker.count + (if forward = true then 1 else -1)
    ∧ (forward = false ∨ s.tracker.records = [] → t.tracker.measuredSpeed = s.tracker.measuredSpeed
      ∧ t.tracker.windowCounts
        = s.tracker.windowCounts + (if s.tracker.conveyorRun = true then (if forward = true then 1 else -1) else 0))

/-- Every step keeps the Transit Table at 12 records, records and reports together at 16, and the Stroke Queue at 4 rows; and
every step keeps the tags of the Announce Queue and the Transit Table distinct, and the scanner's slots and the store's items
complete. While the tags are distinct, every step keeps the Announce Queue with the place of an admission whose record is
ENTERING at 8. Every step keeps the occurrence counts at 255 and the next report number below 65,536. -/
def Obligations.TablesStayWithinTheirBounds : Prop :=
  ∀ s t : State, step s = .next t → (s.withinCapacity → t.withinCapacity) ∧ (s.tagsDistinct → t.tagsDistinct)
    ∧ (s.complete → t.complete) ∧ (s.tagsDistinct → s.placesFit → t.placesFit) ∧ (s.countsFit → t.countsFit)

/-! ### The scanner -/

/-- MEASURE becomes the pending single shot and owes its reply, or is refused with BAD_VALUE; each single-shot conversion
takes a reading with its own standing and refreshes no slot, and the last one sends the reply (its layout: log 13) and returns
the activity to CONTROL (outside SINGLE no such conversion ends, log 3). -/
def Obligations.MeasureConverts : Prop :=
  (∀ (tag a b : Byte) (s : State), s.hears →
    (a.toNat ≤ 15 ∧ b.toNat ≤ 15 → exec (.measure tag a b) s = .next
      { s.owing .measure tag with
        scan := { s.scan with
          single := some { first := a.toNat, last := b.toNat, cursor := a.toNat, taken := [] } } })
    ∧ (¬ (a.toNat ≤ 15 ∧ b.toNat ≤ 15) →
      exec (.measure tag a b) s = .next (s.replying .measure tag [11#8, 0#8])))
  ∧ ∀ (r : Reading) (s : State),
    (s.scan.activity ≠ .single → exec (.singleShotConversionEnd r) s = .next s)
    ∧ ∀ q, s.scan.activity = .single → s.scan.single = some q →
      let shot : ShotReading :=
        if q.cursor ≤ 6 ∧ r.circuitOpen = true then { channel := q.cursor, value := none, standing := .opened }
        else match r.value.filter (fun v => decide (q.cursor < 14 ∨ (0 < v ∧ v < 65535))) with
          | none => { channel := q.cursor, value := none, standing := .stale }
          | some v =>
            if q.cursor ≤ 6 then
              match (s.slot 13).freshValue with
              | some c => { channel := q.cursor, value := some (v + c), standing := .fresh }
              | none => { channel := q.cursor, value := none, standing := .stale }
            else { channel := q.cursor, value := some v, standing := .fresh }
      (q.cursor ≠ q.last → exec (.singleShotConversionEnd r) s = .next
        { s with scan := { s.scan with
          single := some { q with cursor := (q.cursor + 1) % 16, taken := q.taken ++ [shot] } } })
      ∧ (q.cursor = q.last → ∀ k tag, s.link.owed = some (k, tag) → exec (.singleShotConversionEnd r) s = .next
        { s with
          scan := { s.scan with single := none, activity := .control }
          link := { s.link with
            receiver := .hunt, tx := .sending (frameBytes (k + 0x80#8) tag (measurePayload (q.taken ++ [shot]) s)) } })

/-- A control conversion ends: the cursor and the activity move on, the channel's slot is refreshed where the reading gives a
result and no reference fault stands, channel 15 makes the reference self-check, and the channel's owner takes the slot
(outside CONTROL no such conversion ends, log 3). What the owners do with it: the zone loops with ZONE_SENSOR (after a RESTART
by log 19) and ZONE_OVERTEMP, the pot loop, the level estimate with the wave drive, LEVEL_LOW (not judged without a
configuration record, log 17) and the feeder, and the supply watch; the molten state is SoakAndSettleEnd's, the pot trip
PotTripEntersSafe's, the duct, the filter and the flux pressure EventsOfOneBlock's. -/
def Obligations.ControlConversionEnds : Prop :=
  (∀ (r : Reading) (s : State),
    (s.scan.activity ≠ .control → exec (.controlConversionEnd r) s = .next (admissionTest s))
    ∧ (s.scan.activity = .control → ∃ t, exec (.controlConversionEnd r) s = .next t
      ∧ t.store = s.store ∧ t.link = s.link ∧ t.reports = s.reports ∧ t.uptime = s.uptime ∧ t.freeIndex = s.freeIndex
      ∧ t.scan.cursor = (if s.scan.rescan then s.scanStart
          else if s.scan.cursor = s.scanEnd then s.scanStart else (s.scan.cursor + 1) % 16)
      ∧ t.scan.rescan = false ∧ t.scan.single = s.scan.single ∧ t.scan.burnout = s.scan.burnout
      ∧ t.scan.activity = (if s.scan.single.isSome then .single else .control)
      ∧ (let inSpan := r.value.filter (fun v => decide (s.scan.cursor < 14 ∨ (0 < v ∧ v < 65535)))
         let put := fun (v : Option Int) (st : Standing) =>
           s.scan.slots.set s.scan.cursor { value := v, standing := st, refreshed := some s.uptime }
         (s.scan.cursor ≠ 15 → t.scan.refFault = s.scan.refFault
           ∧ (s.scan.refFault = true → t.scan.slots = s.scan.slots)
           ∧ (s.scan.refFault = false →
             (s.scan.cursor ≤ 6 → r.circuitOpen = true → t.scan.slots = put none .opened)
             ∧ (∀ v c, s.scan.cursor ≤ 6 → r.circuitOpen = false → r.value = some v → (s.slot 13).freshValue = some c →
                 t.scan.slots = put (some (v + c)) .fresh)
             ∧ (s.scan.cursor ≤ 6 → r.circuitOpen = false → (s.slot 13).freshValue = none → t.scan.slots = s.scan.slots)
             ∧ (∀ v, 6 < s.scan.cursor → inSpan = some v → t.scan.slots = put (some v) .fresh)
             ∧ (6 < s.scan.cursor ∨ r.circuitOpen = false → inSpan = none → t.scan.slots = s.scan.slots)))
         ∧ (s.scan.cursor = 15 →
           (∀ v, r.value = some v → 39200 ≤ v → v ≤ 40800 →
             t.scan.refFault = false ∧ t.scan.slots = put (some v) .fresh)
           ∧ (s.scan.slots.length = 16 → (∀ v, inSpan = some v →
               t.slot 15 = { value := some v, standing := .fresh, refreshed := some s.uptime })
             ∧ (inSpan = none → t.slot 15 = s.slot 15))
           ∧ ((∀ v, r.value = some v → v < 39200 ∨ 40800 < v) → t.scan.refFault = true
             ∧ (s.scan.refFault = false → ∀ c, c < 15 → t.slot c = { s.slot c with standing := .stale })))
         ∧ (let result : Option (Option Int × Standing) :=
              if s.scan.cursor ≤ 6 then
                if r.circuitOpen then some (none, .opened)
                else match r.value, (s.slot 13).freshValue with
                  | some v, some c => some (some (v + c), .fresh)
                  | _, _ => none
              else inSpan.map (fun v => (some v, .fresh))
            let moved : Scanner := { s.scan with cursor := t.scan.cursor, rescan := false, activity := t.scan.activity }
            s.scan.cursor ≠ 15 → s.scan.refFault = false → t = admissionTest (match result with
              | some (v, st) => deliver s.scan.cursor { s with scan := { moved with slots := put v st } }
              | none => { s with scan := moved })))
      ∧ (∀ (k : ZoneId) (v c x : Int), s.modes.mode = .ready → s.scan.cursor = zoneIndex k → s.scan.refFault = false →
          s.scan.slots.length = 16 → r.circuitOpen = false → r.value = some v → (s.slot 13).freshValue = some c →
          s.zoneActive k = true → s.anyOver = false → s.overReference k = some x → v + c ≤ x + s.zoneMargin k →
          let z := s.zone k
          let p := s.zoneParams k
          let e := max (-500) (min 500 (s.zoneWorking k - (v + c)))
          let d := (max 0 (min 255 (Int.tdiv (p.kp * e) 64 + Int.tdiv (p.ki * z.integral) 1024 + z.boost))).toNat
          (t.zone k).demand = d ∧ (t.zone k).integral
            = if s.supplyLow = true ∨ (0 < e ∧ (d = 255 ∨ z.cut = true)) then z.integral
              else (max 0 (min (p.iMax : Int) (z.integral + e))).toNat)))
  -- channels 0 to 5: the zone's loop and its two watches
  ∧ (∀ (k : ZoneId) (s : State),
    let x := s.slot (zoneIndex k)
    let t := deliver (zoneIndex k) s
    let watched := fun j => s.zoneRating j != 0 && (s.zone j).presence == .present
    let sensor := fun last : LastResult =>
      let seen := fun j => if j = k then last else (s.zone j).last
      (∀ j, (t.zone j).last = seen j)
        ∧ (if s.heat.sensorWaits = true ∧ allZones.any (fun j => watched j && seen j == .none) = true then
            t.condition .zoneSensor = s.condition .zoneSensor ∧ t.heat.sensorWaits = true
          else t.condition .zoneSensor = allZones.any (fun j => watched j && seen j == .opened)
            ∧ t.heat.sensorWaits = false)
    let keepsOver := (∀ j, (t.zone j).overMark = (s.zone j).overMark)
      ∧ t.condition .zoneOvertemp = s.condition .zoneOvertemp
    let cut := s.zoneActive k = true → (t.zone k).demand = 0 ∧ (t.zone k).grant = 0
      ∧ (s.modes.mode ≠ .run → (t.zone k).integral = (s.zone k).integral)
    (x.standing = .opened → sensor .opened ∧ keepsOver ∧ cut)
    ∧ (x.standing = .stale → (∀ j, (t.zone j).last = (s.zone j).last) ∧ keepsOver ∧ cut
      ∧ t.condition .zoneSensor = s.condition .zoneSensor)
    ∧ ∀ v, x.standing = .fresh → x.value = some v → sensor .closed
      ∧ (s.modes.mode = .idle ∨ watched k = false ∨ s.overReference k = none → keepsOver)
      ∧ (∀ reference, s.modes.mode ≠ .idle → watched k = true → s.overReference k = some reference →
        (t.zone k).overMark = decide (reference + s.zoneMargin k < v)
        ∧ (∀ j, j ≠ k → (t.zone j).overMark = (s.zone j).overMark)
        ∧ t.condition .zoneOvertemp = allZones.any (fun j => (t.zone j).overMark)
        ∧ (s.condition .zoneOvertemp = false → t.condition .zoneOvertemp = true → s.modes.mode ≠ .safe →
          t.modes.mode = .safe))
      ∧ (s.zoneActive k = true → (∀ j, (s.zone j).overMark = false) →
        (∀ reference, s.overReference k = some reference → v ≤ reference + s.zoneMargin k) →
        (∀ j, j ≠ k → watched j = true → (s.zone j).last ≠ .opened) →
        let z := s.zone k
        let p := s.zoneParams k
        let e := max (-500) (min 500 (s.zoneWorking k - v))
        let d := (max 0 (min 255 (Int.tdiv (p.kp * e) 64 + Int.tdiv (p.ki * z.integral) 1024 + z.boost))).toNat
        t.modes.mode = s.modes.mode ∧ (t.zone k).demand = d ∧ (t.zone k).integral
          = if s.supplyLow = true ∨ (0 < e ∧ (d = 255 ∨ z.cut = true)) then z.integral
            else (max 0 (min (p.iMax : Int) (z.integral + e))).toNat))
  -- channel 6: the pot loop
  ∧ (∀ s : State,
    let x := s.slot 6
    let t := deliver 6 s
    (x.standing ≠ .fresh → s.potActive = true → t.heat.pot.demand = 0 ∧ t.heat.pot.grant = 0)
    ∧ ∀ v, x.standing = .fresh → x.value = some v → s.potActive = true → s.heat.pot.tripInput = false →
      v ≤ (s.param 74 : Int) → s.pot.molten = false ∨ (s.meltSafe : Int) - 50 ≤ v →
      let z := s.heat.pot
      let p := s.potParams
      let e := max (-500) (min 500 ((s.potSetpoint : Int) - v))
      let d := (max 0 (min 255 (Int.tdiv (p.kp * e) 64 + Int.tdiv (p.ki * z.integral) 1024))).toNat
      t.heat.pot.demand = d ∧ t.heat.pot.integral
        = if s.supplyLow = true ∨ (0 < e ∧ (d = 255 ∨ z.cut = true)) then z.integral
          else (max 0 (min (p.iMax : Int) (z.integral + e))).toNat)
  -- channel 7: the level estimate and what takes it
  ∧ (∀ s : State,
    let x := s.slot 7
    let t := deliver 7 s
    (x.standing ≠ .fresh →
      t = { s with pot := { s.pot with standing := if s.pot.standing = .live then .held else s.pot.standing } })
    ∧ (x.standing = .fresh → s.pot.molten = false ∨ s.pot.driveHold ≠ none → t = s)
    ∧ ∀ v, x.standing = .fresh → x.value = some v → s.pot.molten = true → s.pot.driveHold = none →
      let low := if s.configured = false then s.condition .levelLow
        else if s.condition .levelLow = true then !decide ((s.param 84 : Int) + 10 < v)
        else decide (v < (s.param 84 : Int))
      let waveOn := s.modes.mode = .run ∨ s.modes.mode = .drain ∨ s.modes.mode = .hold
      t.pot.level = some v ∧ t.condition .levelLow = low
      ∧ (s.condition .levelLow = false → low = true → t.modes.mode ≠ .run)
      ∧ (s.condition .levelLow = true ∨ low = false ∨ s.modes.mode ≠ .run →
        t.modes = s.modes
        ∧ t.pot.feeder = (match s.pot.feeder with
          | .running base n =>
            if (s.param 83 : Int) ≤ v then .off
            else if base + (s.param 88 : Int) ≤ v then .running v 0 else .running base n
          | .off =>
            if s.potActive = true ∧ v < (s.param 82 : Int) ∧ s.inForce .feedFault = false then .running v 0 else .off)
        ∧ (¬ waveOn → t.pot.standing = .live ∧ t.wave = s.wave)
        ∧ (waveOn →
          let pair := s.wave.cal.pair.getD (0, 0)
          let d := clampDrive s.minDrive
            (rawDrive pair.1 pair.2 (s.activeField (·.waveHeight)) (s.param 76) (s.param 77) v)
          let qualifies := d.1 ≠ s.wave.output ∧ s.driveThreshold ≤ ((d.1 : Int) - s.pot.refDrive).natAbs
          t.wave.computed = some d.1 ∧ t.wave.output = d.1 ∧ t.wave.side = d.2
          ∧ t.condition .waveLimit = (d.2 != .none)
          ∧ (qualifies → t.pot.standing = .held ∧ t.pot.refDrive = d.1 ∧ t.pot.driveHold = some 0)
          ∧ (¬ qualifies → t.pot.standing = .live ∧ t.pot.refDrive = s.pot.refDrive ∧ t.pot.driveHold = none))))
  -- channel 10: the supply watch
  ∧ ∀ s : State,
    let below := match (s.slot 10).freshValue with
      | some v => s.configured && decide (v < (s.param 35 : Int))
      | none => decide (s.modes.mode ≠ .idle)
    let t := deliver 10 s
    (below = false → t = { s with alarms := s.alarms.set .supplyLow (s.alarm .supplyLow).disappear })
    ∧ (below = true → s.supplyLow = true → t = s)
    ∧ (below = true → s.supplyLow = false → t.supplyLow = true ∧ t.heat.pot.grant = 0 ∧ (∀ k, (t.zone k).grant = 0)
      ∧ t.alarm .supplyLow = { state := .active, count := min 255 ((s.alarm .supplyLow).count + 1),
                               time := some (s.seconds, .current) }
      ∧ (s.modes.mode ≠ .run → t.modes = s.modes) ∧ t.modes.mode ≠ .run)

/-- A stale marking keeps the value and makes the standing STALE; with channel 13 go the FRESH slots of channels 0 to 6, and
the owners are told in rising channel order (log 34). A burnout test of the start-up pass sets the zone's presence and
ZONE_MISSING, and the pass moves on (outside the pass no test ends, log 3). -/
def Obligations.StaleMarkingsAndBurnoutTests : Prop :=
  (∀ (ch : Fin 16) (s : State),
    ((s.slot ch.val).standing = .stale → exec (.staleMarking ch) s = .next (admissionTest s))
    ∧ ((s.slot ch.val).standing ≠ .stale → ∃ t, exec (.staleMarking ch) s = .next t
      ∧ t.store = s.store ∧ t.link = s.link ∧ t.reports = s.reports ∧ t.uptime = s.uptime ∧ t.freeIndex = s.freeIndex
      ∧ t.scan = { s.scan with slots := t.scan.slots }
      ∧ ∀ c, t.slot c = if c = ch.val ∨ (ch.val = 13 ∧ c ≤ 6 ∧ (s.slot c).standing = .fresh)
          then { s.slot c with standing := .stale } else s.slot c)
    ∧ (let marked := (List.range 16).filter (fun c => decide ((s.slot c).standing ≠ .stale)
          && (c == ch.val || decide (ch.val = 13 ∧ (s.slot 13).standing ≠ .stale ∧ c ≤ 6 ∧ (s.slot c).standing = .fresh)))
       exec (.staleMarking ch) s = .next (admissionTest (deliverAll marked (markSlots marked s)))))
  ∧ ∀ (o : Bool) (s : State),
    (s.scan.activity ≠ .startUp ∨ s.store.checking = true →
      exec (.burnoutTestEnd o) s = .next (admissionTest s))
    ∧ ∀ k, s.scan.activity = .startUp → s.store.checking = false → s.scan.burnout = zoneIndex k →
      let seen := fun j => if j = k then (if o then Presence.absent else .present) else (s.zone j).presence
      let missing := allZones.any (fun j => s.zoneRating j != 0 && seen j == .absent)
      ∃ t, exec (.burnoutTestEnd o) s = .next t
        ∧ t.store = s.store ∧ t.link = s.link ∧ t.reports = s.reports ∧ t.uptime = s.uptime ∧ t.freeIndex = s.freeIndex
        ∧ t.scan = { s.scan with
            burnout := zoneIndex k + 1
            activity := if k = .z6 then (if s.scan.single.isSome then .single else .control) else .startUp }
        ∧ (∀ j, (t.zone j).presence = seen j)
        ∧ t.condition .zoneMissing = (if missing then true else if k = .z6 then false else s.condition .zoneMissing)
        ∧ (s.modes.mode ≠ .run → t.modes = s.modes ∧ t.tracker = s.tracker ∧ t.spray = s.spray ∧ t.wave = s.wave
            ∧ t.pot = s.pot ∧ t.extr = s.extr)

/-! ### The traverse and the flux maps -/

/-- PURGE: refused with BUSY while the traverse is busy, the Stroke Queue is not empty or the extraction is not proven, and
refused outside READY, HOLD and STANDBY with WRONG_MODE, changing nothing; else the purge state is RUNNING, the activity
PURGE, and the reply OK. The traverse parks with the purge valve as it was, and one that stands at position 0 already passes
the park at once, so that the purge flushes with its valve open (R86, log 16). -/
def Obligations.PurgeTaken : Prop :=
  ∀ (tag : Byte) (s : State), s.hears →
    let passes := s.modes.mode = .ready ∨ s.modes.mode = .hold ∨ s.modes.mode = .standby
    let busy := s.spray.running ≠ .idle ∨ s.spray.queue ≠ [] ∨ ¬ (s.extr.state = .proven ∨ s.extr.state = .warn)
    (¬ passes → exec (.purge tag) s = .next (s.replying .purge tag [2#8]))
    ∧ (passes → busy → exec (.purge tag) s = .next (s.replying .purge tag [3#8]))
    ∧ (passes → ¬ busy → exec (.purge tag) s = .next
      { s.replying .purge tag [0#8, 1#8] with
        spray := { s.spray with
          running := .purge (if s.spray.position = some 0 then .flush else .park) 0
          purge := .running
          purgeOpen := if s.spray.position = some 0 then true else s.spray.purgeOpen } })

/-- The traverse: the phases of a purge and of a stroke, the cells of a crossing with their open times, and the completion of
a stroke with its row sprayed and its dose. A traverse that becomes idle serves the Stroke Queue: the rows whose tests fail
are skipped, and the first whose tests pass starts its stroke from the rail that lies nearer. An event of a move that is not
under way changes nothing (log 3). -/
def Obligations.TraverseRuns : Prop :=
  ∀ s : State,
    (∀ n, s.spray.running = .purge .park n → exec .purgeParkEnd s = .next
      { s with spray := { s.spray with
        position := some 0, running := .purge .flush 0, purgeOpen := s.extr.state == .proven || s.extr.state == .warn } })
    ∧ ((∀ n, s.spray.running ≠ .purge .park n) → exec .purgeParkEnd s = .next s)
    ∧ (∀ n, s.spray.running = .purge .flush n → s.spray.queue = [] → exec .purgeTimeEnd s = .next (admissionTest
      { s with spray := { s.spray with position := some 0, running := .idle, purgeOpen := false, purge := .completed } }))
    ∧ ((∀ n, s.spray.running ≠ .purge .flush n) → exec .purgeTimeEnd s = .next (admissionTest s))
    ∧ ((∀ r, s.spray.running ≠ .stroke r) → exec .strokePhaseEnd s = .next s ∧ exec .cellEntry s = .next s
      ∧ exec .valveOpenTimeEnd s = .next s ∧ exec .strokeCompletion s = .next (admissionTest s))
    ∧ (∀ r, s.spray.running = .stroke r →
      (r.phase = .homing → exec .strokePhaseEnd s = .next
        { s with spray := { s.spray with
          position := some 0
          running := .stroke { r with phase := if r.startEnd = 0 then .crossing else .reposition, elapsed := 0 } } })
      ∧ (r.phase = .reposition → exec .strokePhaseEnd s = .next
        { s with spray := { s.spray with
          position := some r.startEnd, running := .stroke { r with phase := .crossing, elapsed := 0 } } })
      ∧ (r.phase = .crossing → exec .strokePhaseEnd s = .next s)
      ∧ (r.phase = .crossing → r.entered < r.last + 1 - r.first →
        let column := if r.startEnd ≤ r.farEnd then r.first + r.entered else r.last - r.entered
        let level := s.cellLevel r.buffer r.row column
        let opens := level ≠ 0 ∧ (s.extr.state = .proven ∨ s.extr.state = .warn)
        exec .cellEntry s = .next { s with spray := { s.spray with
          sprayOpen := decide opens
          running := .stroke { r with
            delivered := r.delivered + r.openTime.getD 0
            entered := r.entered + 1
            openTime := if opens then some (100000 * level / (15 * s.traverseSpeed)) else none
            cellElapsed := 0 } } })
      ∧ (∀ o, r.openTime = some o → exec .valveOpenTimeEnd s = .next { s with spray := { s.spray with
          sprayOpen := false, running := .stroke { r with delivered := r.delivered + o, openTime := none } } })
      ∧ (r.phase = .crossing → s.spray.queue = [] → ∃ u, exec .strokeCompletion s = .next (admissionTest u)
        ∧ SameOutside s u ∧ u.modes = s.modes ∧ u.alarms = s.alarms
        ∧ u.spray = { s.spray with position := some r.farEnd, running := .idle, sprayOpen := false }
        ∧ (let dose := ((List.range (r.last + 1 - r.first)).map (fun i =>
             100000 * s.cellLevel r.buffer r.row (r.first + i) / (15 * s.traverseSpeed))).sum
           u.tracker.records.map (fun x => (x.tag, x.sprayed, x.skipped, x.dose))
             = s.tracker.records.map (fun x => if x.tag = r.tag
                 then (x.tag, x.sprayed + 1, x.skipped, min 4294967295 (x.dose + dose))
                 else (x.tag, x.sprayed, x.skipped, x.dose)))))
    -- the traverse comes to rest with rows waiting (R75 to R77, R79, R84)
      ∧ (let sound := s.extr.state = .proven ∨ s.extr.state = .warn
         let reached := fun e : StrokeEntry => ∀ d, (s.record? e.tag).bind s.position = some d →
           d - e.front ≤ (s.sprayReach * s.kScale : Nat)
         let pressed := ∃ v, (s.slot 11).freshValue = some v ∧ (s.minFluxPressure : Int) ≤ v
         let passes := fun e => sound ∧ reached e ∧ pressed
         let rests := fun (c : Instr) (at_ : Nat) =>
           (s.modes.mode = .safe → ∃ u, exec c s = .next (admissionTest u) ∧ u.spray.running = .idle
             ∧ u.spray.queue = s.spray.queue)
           ∧ (∀ (skipped rest : List StrokeEntry) (e : StrokeEntry), s.modes.mode ≠ .safe →
             s.spray.queue = skipped ++ e :: rest → (∀ q ∈ skipped, ¬ passes q) → passes e → e.first ≤ e.last →
             ∃ u n, exec c s = .next (admissionTest u) ∧ SameOutside s u ∧ u.modes = s.modes ∧ u.spray.queue = rest
               ∧ u.spray.position = some at_ ∧ u.spray.running = .stroke n
               ∧ (let near := ((at_ : Int) - 10 * e.first).natAbs ≤ ((at_ : Int) - 10 * (e.last + 1)).natAbs
                  let a := if near then 10 * e.first else 10 * (e.last + 1)
                  n = { tag := e.tag, buffer := e.buffer, row := e.row, first := e.first, last := e.last, startEnd := a,
                        farEnd := if near then 10 * (e.last + 1) else 10 * e.first,
                        phase := if at_ = a then .crossing else .reposition, delivered := 0, entered := 0,
                        openTime := none, elapsed := 0, cellElapsed := 0 })
               ∧ (∀ q ∈ skipped, ∀ x ∈ u.tracker.records, x.tag = q.tag →
                 x.exc.has (if sound then .fluxSkip else .fluxInhibit) = true ∨ x.exc.more = true)
               ∧ u.tracker.records.map (fun x => (x.tag, x.skipped))
                 = s.tracker.records.map (fun x => (x.tag, x.skipped + skipped.countP (fun q => q.tag = x.tag)))
               ∧ u.alarms = s.alarms)
           ∧ (s.modes.mode ≠ .safe → (∀ q ∈ s.spray.queue, ¬ passes q) →
             ∃ u, exec c s = .next (admissionTest u) ∧ SameOutside s u ∧ u.modes = s.modes ∧ u.spray.queue = []
               ∧ u.spray.position = some at_ ∧ u.spray.running = .idle
               ∧ u.tracker.records.map (fun x => (x.tag, x.skipped))
                 = s.tracker.records.map (fun x => (x.tag, x.skipped + s.spray.queue.countP (fun q => q.tag = x.tag)))
               ∧ ((∃ q ∈ s.spray.queue, sound ∧ reached q) → u.condition .fluxPressLow = true)
               ∧ ((∀ q ∈ s.spray.queue, ¬ (sound ∧ reached q)) → u.alarms = s.alarms))
         (∀ r, s.spray.running = .stroke r → r.phase = .crossing → rests .strokeCompletion r.farEnd)
         ∧ (∀ n, s.spray.running = .purge .flush n → rests .purgeTimeEnd 0))

/-- The completion of a composition: the head buffer of the order is READY with its map in travel order and its spans, and the
order moves on. The next buffer's composition starts from a copy of its record's recipe, unless a store operation is in
progress, for whose end it waits. (With no composition in progress none completes, log 3.) -/
def Obligations.CompositionCompletes : Prop :=
  ∀ s : State,
    (s.maps.order = [] ∨ s.maps.working = none → exec .compositionComplete s = .next s)
    ∧ ∀ b rest d m, s.maps.order = b :: rest → s.maps.working = some d → s.maps.buffers.get b = some m →
      ∃ t, exec .compositionComplete s = .next t ∧ t = { s with maps := t.maps } ∧ t.maps.order = rest
        ∧ (rest = [] ∨ s.store.op ≠ none → t.maps.working = none)
        ∧ (∀ c more n r, rest = c :: more → s.store.op = none → s.maps.buffers.get c = some n →
          s.record? n.owner = some r →
          t.maps.working = some { base := (s.recipeOf r.slot).base, rects := (s.recipeOf r.slot).rects })
        ∧ (∀ c, c ≠ b → t.maps.buffers.get c = s.maps.buffers.get c)
        ∧ ∃ cells, t.maps.buffers.get b
            = some { m with composing := false, cells := cells, spans := cells.map rowSpan }
          ∧ cells = if (s.record? m.owner).map (·.orientation) = some .rotated
              then ((composeCells m.rows m.cols d).map List.reverse).reverse else composeCells m.rows m.cols d

/-- Every cell of a composed map is the base level as the rectangles covering it have changed it in list order, a protected
cell being passed over; so its level is at most 15, and 0 where it is protected. -/
def Obligations.ComposedCellsFollowTheirRectangles : Prop :=
  ∀ (rows cols i j : Nat) (d : FluxDef), i < rows → j < cols →
    let change := fun (c : FluxCell) (r : Rect) =>
      if r.row0 ≤ i ∧ i ≤ r.row1 ∧ r.col0 ≤ j ∧ j ≤ r.col1 ∧ c.prot = false then
        match r.kind with
        | .dose => { c with level := (max 0 (min 15 r.level)).toNat }
        | .add => { c with level := (max 0 (min 15 (c.level + r.level))).toNat }
        | .keepout => { level := 0, prot := true }
      else c
    ∃ row cell, (composeCells rows cols d)[i]? = some row ∧ row[j]? = some cell ∧ row.length = cols
      ∧ (composeCells rows cols d).length = rows
      ∧ cell = d.rects.foldl change { level := min 15 d.base, prot := false }
      ∧ cell.level ≤ 15 ∧ (cell.prot = true → cell.level = 0)
      ∧ (∀ a b, rowSpan row = some (a, b) → cell.level ≠ 0 → a ≤ j ∧ j ≤ b)

/-! ### The heaters -/

/-- The end of a slot: the next slot of the frame, or a new frame at slot 0 whose grants are the Power Share's, all zero where
they are forced to zero, with the cut marks; the outputs fire by the grants, and the sum of rating × grant stays within the
budget. -/
def Obligations.SlotsAndFrames : Prop :=
  ∀ s : State, ∃ t, exec .halfCycleSlotEnd s = .next t ∧ t = { s with heat := t.heat }
    ∧ (let fires := fun (g n : Nat) => decide (n * g / 256 < (n + 1) * g / 256)
       t.heat.potFiring = fires t.heat.pot.grant t.heat.frameSlot
         ∧ ∀ k, t.heat.zoneFiring.get k = fires (t.zone k).grant t.heat.frameSlot)
    ∧ (s.heat.frameSlot < 255 → t.heat.frameSlot = s.heat.frameSlot + 1 ∧ t.heat.pot = s.heat.pot
        ∧ t.heat.zones = s.heat.zones)
    ∧ (255 ≤ s.heat.frameSlot → t.heat.frameSlot = 0
      ∧ t.heat.pot.demand = s.heat.pot.demand ∧ (∀ k, (t.zone k).demand = (s.zone k).demand)
      ∧ t.heat.pot.cut = decide (t.heat.pot.grant < t.heat.pot.demand)
      ∧ (∀ k, (t.zone k).cut = decide ((t.zone k).grant < (t.zone k).demand))
      ∧ (s.modes.mode = .idle ∨ s.modes.mode = .safe ∨ s.supplyLow = true →
        t.heat.pot.grant = 0 ∧ ∀ k, (t.zone k).grant = 0)
      ∧ (s.modes.mode ≠ .idle → s.modes.mode ≠ .safe → s.supplyLow = false →
        let available := s.budget * 256 - s.potRating * s.heat.pot.demand
        let use := (allZones.map (fun k => s.zoneRating k * (s.zone k).demand)).sum
        t.heat.pot.grant = s.heat.pot.demand
        ∧ (∀ k, (t.zone k).grant
            = if use ≤ available then (s.zone k).demand else (s.zone k).demand * available / use)
        ∧ (s.potRating * s.heat.pot.demand ≤ s.budget * 256 →
          s.potRating * t.heat.pot.grant + (allZones.map (fun k => s.zoneRating k * (t.zone k).grant)).sum
            ≤ s.budget * 256)))

/-- A grant of at most 256 fires its share of every first part of a frame, and a slot fires where that share rises. -/
def Obligations.GrantFiresItsShare : Prop :=
  (∀ g n : Nat, g ≤ 256 → ((List.range n).filter (slotFires g)).length = n * g / 256)
  ∧ (∀ g n : Nat, slotFires g n = true ↔ n * g / 256 < (n + 1) * g / 256)
  ∧ (∀ n : Nat, slotFires 0 n = false) ∧ ((List.range 256).filter (slotFires 255)).length = 255
  ∧ ∀ s t : State, exec .halfCycleSlotEnd s = .next t →
    t.heat.potFiring = slotFires t.heat.pot.grant t.heat.frameSlot
      ∧ ∀ k, t.heat.zoneFiring.get k = slotFires (t.zone k).grant t.heat.frameSlot

/-- TRIM: refused with BAD_VALUE and index 0 for a zone number outside 1 to 6, without a trim, and for a zone that is not
fitted, with its trim behind the index (log 13); else the value, clamped to −100 to +100, is the zone's trim, and every reply
about a zone carries the trim in force. -/
def Obligations.TrimTaken : Prop :=
  ∀ (tag z : Byte) (v : Word16) (s : State), s.hears → s.modes.mode ≠ .calibrating →
    (z.toNat = 0 ∨ 6 < z.toNat → exec (.trim tag z v) s = .next (s.replying .trim tag [11#8, 0#8]))
    ∧ ∀ k, z.toNat = zoneIndex k + 1 →
      (s.zoneRating k = 0 →
        exec (.trim tag z v) s = .next (s.replying .trim tag ([11#8, 0#8] ++ i8 (s.zone k).trim)))
      ∧ (s.zoneRating k ≠ 0 → ∃ t,
        let x := max (-100) (min 100 v.toInt)
        exec (.trim tag z v) s = .next t
        ∧ Answered s t .trim tag ((if x = v.toInt then 0#8 else 1#8) :: i8 x)
        ∧ (∀ j, (t.zone j).trim = if j = k then x else (s.zone j).trim)
        ∧ t.modes.mode = s.modes.mode ∧ t.modes.activeSet = s.modes.activeSet ∧ t.tracker = s.tracker ∧ t.maps = s.maps
        ∧ t.spray = s.spray ∧ t.wave = s.wave ∧ t.extr = s.extr)

/-! ### The wave calibration and the pot -/

/-- WAVE_CAL with its refusals, and the search by its dwells: down while the finger is wetted, up from the first dry finger to
the candidate, failing at the end of the drive range or at a level that is not LIVE. The end of a dwell shows the level of the
contact finger input (DWELL_END's operand, log 8). -/
def Obligations.CalibrationSearch : Prop :=
  (∀ (tag : Byte) (s : State), s.hears → s.modes.mode = .ready →
    (s.store.key = false → exec (.waveCal tag) s = .next (s.replying .waveCal tag [6#8]))
    ∧ (s.store.key = true → s.pot.molten = false → exec (.waveCal tag) s = .next (s.replying .waveCal tag [2#8]))
    ∧ (s.store.key = true → s.pot.molten = true → ∃ t, exec (.waveCal tag) s = .next t
      ∧ Answered s t .waveCal tag [0#8, 1#8]
      ∧ t.modes = { s.modes with mode := .calibrating, drain := .none, holdPending := false, ret := .none, holdTimer := 0,
                                 warm := none }
      ∧ t.wave.phase = .search .down (s.param 79) 0 ∧ t.wave.outcome = .running ∧ t.wave.cause = .none
      ∧ t.wave.output = s.param 79 ∧ t.wave.cal = s.wave.cal ∧ t.tracker.conveyorRun = false
      ∧ ∀ k, (t.zone k).started = (s.zone k).started))
  ∧ ∀ (wet : Bool) (dir : Direction) (test dwell : Nat) (s : State), s.modes.mode = .calibrating → s.pot.molten = true →
    s.extr.forcedDue = false → s.wave.phase = .search dir test dwell →
    let goes := fun (d : Direction) (drive : Nat) => ∃ t, exec (.dwellEnd wet) s = .next t ∧ SameOutside s t
      ∧ t.wave.phase = .search d drive 0 ∧ t.wave.output = drive ∧ t.modes = s.modes ∧ t.alarms = s.alarms
      ∧ t.wave.cal = s.wave.cal ∧ t.wave.outcome = s.wave.outcome
    let fails := fun (c : CalCause) => ∃ t, exec (.dwellEnd wet) s = .next t ∧ SameOutside s t
      ∧ t.wave.phase = .none ∧ t.wave.outcome = .failed ∧ t.wave.cause = c ∧ t.wave.output = 0 ∧ t.wave.cal = s.wave.cal
      ∧ t.modes.mode = .ready ∧ t.alarm .calFail = { state := .latched, count := min 255 ((s.alarm .calFail).count + 1),
                                                      time := some (s.seconds, .current) }
    (dir = .down → wet = true → s.param 78 < test → goes .down (max (test - s.param 80) (s.param 78)))
    ∧ (dir = .down → wet = true → test ≤ s.param 78 → fails .wetAtMin)
    ∧ (wet = false → test + s.param 80 ≤ 255 → goes .up (test + s.param 80))
    ∧ (wet = false → 255 < test + s.param 80 → fails .noContact)
    ∧ (dir = .up → wet = true → ∀ l, s.pot.standing = .live → s.pot.level = some l →
      ∃ t, exec (.dwellEnd wet) s = .next t ∧ t.scan = s.scan ∧ t.link = s.link ∧ t.reports = s.reports
        ∧ t.wave.phase = .writing test l ∧ t.wave.output = 0 ∧ t.wave.cal = s.wave.cal ∧ t.modes = s.modes
        ∧ t.store = { s.store with op := some (.writeCal test l) })
    ∧ (dir = .up → wet = true → s.pot.standing ≠ .live → fails .levelNotValid)

/-- CAL_ABORT: WRONG_MODE outside CALIBRATING; in SEARCH the search ends ABORTED with the wave off, the record and the alarms
as they were, and the mode READY; in WRITING it is refused with BUSY. (Forced standby that is due acts at the return to
READY.) -/
def Obligations.CalAbortEndsTheSearch : Prop :=
  ∀ (tag : Byte) (s : State), s.hears →
    (s.modes.mode ≠ .calibrating → exec (.calAbort tag) s = .next (s.replying .calAbort tag [2#8]))
    ∧ (∀ d l, s.modes.mode = .calibrating → s.wave.phase = .writing d l →
      exec (.calAbort tag) s = .next (s.replying .calAbort tag [3#8]))
    ∧ (∀ dir test dwell, s.modes.mode = .calibrating → s.wave.phase = .search dir test dwell → s.extr.fan = true →
      ∃ t, exec (.calAbort tag) s = .next t ∧ Answered s t .calAbort tag [0#8, 4#8]
        ∧ t.wave.phase = .none ∧ t.wave.output = 0 ∧ t.wave.outcome = .aborted ∧ t.wave.cause = s.wave.cause
        ∧ t.wave.cal = s.wave.cal
        ∧ (s.extr.forcedDue = false → t.alarms = s.alarms ∧ t.tracker.conveyorRun = true ∧ t.tracker.gateOpen = false
          ∧ (∀ k, (t.zone k).started = (s.zone k).started)
          ∧ t.modes = { s.modes with mode := .ready, drain := .none, holdPending := false, ret := .none, holdTimer := 0,
                                     warm := none })
        ∧ (s.extr.forcedDue = true → t.modes.mode = .standby))

/-- The expiries of the extraction timers change the extraction state by the table of R148, with EXTRACT_WARN's and
EXTRACT_FAIL's conditions and the valves' interlock; a failure in WARMUP aborts it, and the first PROVEN ends its stage
EXTRACTION. The fume signal's first judgement by time turns the fan on, and every result and marking of channel 6 judges it. A
timer that does not run does not expire (log 3). -/
def Obligations.ExtractionTimersExpire : Prop :=
  (∀ s : State,
    let expires := fun (c : Instr) (olds : List ExtState) (timer : Option Nat) (new : ExtState) =>
      (s.extr.state ∉ olds ∨ timer = none → exec c s = .next (admissionTest s))
      ∧ (s.extr.state ∈ olds → timer.isSome = true → ∃ t, exec c s = .next t ∧ SameOutside s t
        ∧ (s.modes.mode ≠ .warmup → t.extr.state = new ∧ t.condition .extractFail = (new == .failed)
          ∧ t.condition .extractWarn = (new == .warn) ∧ t.extr.suction = s.extr.suction
          ∧ t.extr.feedback = s.extr.feedback)
        ∧ (new = .failed → t.spray.sprayOpen = false ∧ t.spray.purgeOpen = false)
        ∧ (new = .failed → s.modes.mode = .warmup → t.modes.mode = .idle)
        ∧ (new = .failed → s.modes.mode = .warmup → t.extr.fan = s.pot.fumeHot
          ∧ t.extr.state = (if s.pot.fumeHot = true then .failed else .off)
          ∧ t.condition .extractFail = s.pot.fumeHot ∧ t.condition .extractWarn = false)
        ∧ (new ≠ .failed → s.modes.mode = .warmup → t.extr.state = new ∧ t.condition .extractFail = false
          ∧ t.condition .extractWarn = (new == .warn) ∧ t.extr.suction = s.extr.suction ∧ t.extr.feedback = s.extr.feedback
          ∧ t.modes.mode = .warmup
          ∧ (s.stage? ≠ some .extraction → t.modes = s.modes)
          ∧ (s.stage? = some .extraction → s.modes.meltKept = false → t.stage? = some .melt ∧ t.pot.soak = .waiting)
          ∧ (s.stage? = some .extraction → s.modes.meltKept = true → (t.stage? = some .zones ∨ t.stage? = some .settle)
            ∧ ∀ k, (t.zone k).started = s.takesPart k))
        ∧ (new = .failed → s.modes.mode = .run → s.condition .extractFail = false → t.modes.mode ≠ .run)
        ∧ (new ≠ .failed → s.modes.mode ≠ .warmup → t.modes = s.modes))
    s.fanFollows → s.forcedSettled → s.valvesSafe →
    expires .proveTimerExpiry [.proving] s.extr.prove .failed
    ∧ expires .qualifyTimerExpiry [.proving, .failed] s.extr.qualify .proven
    ∧ expires .warnTimerExpiry [.proven] s.extr.warn .warn
    ∧ expires .failTimerExpiry [.proven, .warn] s.extr.fail .failed
    ∧ expires .feedbackTimerExpiry [.proven, .warn] s.extr.feedbackTimer .failed
    ∧ expires .recoverTimerExpiry [.warn] s.extr.recover .proven)
  ∧ ∀ s : State,
    (s.pot.fumeJudged = true → exec .fumeFirstJudgementTimeout s = .next (admissionTest s))
    ∧ (s.pot.fumeJudged = false → ∃ t, exec .fumeFirstJudgementTimeout s = .next t ∧ SameOutside s t
      ∧ t.pot = { s.pot with fumeHot := true, fumeJudged := true } ∧ t.modes = s.modes ∧ t.extr.fan = true
      ∧ (s.extr.fan = false → t.extr.state = .proving ∧ t.extr.prove = some 0)
      ∧ (s.extr.fan = true → t.extr = s.extr))
    ∧ (deliver 6 s).pot.fumeJudged = true
    ∧ (deliver 6 s).pot.fumeHot = (match (s.slot 6).freshValue with
      | some v => decide (((if s.configured then s.param 75 else 1000 : Nat) : Int) ≤ v)
      | none => true)

/-! ### Events of one block -/

/-- The events that change the items of one block: the end of the drive-change hold, the feeder's proving that fails, the clog
timer, the fan-run feedback, the key switch, and the two halves of an ALERT pulse. One whose timer does not run changes
nothing (log 3). And what the owners of the channels 8, 9 and 11 do with a slot that they take (ControlConversionEnds): the
suction class and its timers, the filter watch, and the end of FLUX_PRESS_LOW, of which the last two make no judgement without
a configuration record (log 17); the channels 12 to 15 have no owner that acts. -/
def Obligations.EventsOfOneBlock : Prop :=
  ∀ s : State,
    exec .driveHoldEnd s = .next { s with pot := { s.pot with driveHold := none } }
    ∧ (∀ b n, s.pot.feeder = .running b n → s.pot.standing = .live → exec .feedProveExpiry s = .next
      { s with
        pot := { s.pot with feeder := .off }
        alarms := s.alarms.set .feedFault { state := .latched, count := min 255 ((s.alarm .feedFault).count + 1),
                                            time := some (s.seconds, .current) }
        alert := s.alert.onAlarm })
    ∧ (s.pot.feeder = .off ∨ s.pot.standing ≠ .live → exec .feedProveExpiry s = .next s)
    ∧ (∀ n, s.extr.clog = some n → s.condition .filterClog = false → exec .clogTimerExpiry s = .next
      { s with
        extr := { s.extr with clog := none }
        alarms := s.alarms.set .filterClog { state := .active, count := min 255 ((s.alarm .filterClog).count + 1),
                                             time := some (s.seconds, .current) }
        alert := s.alert.onAlarm })
    ∧ (s.extr.clog = none → exec .clogTimerExpiry s = .next s)
    ∧ (∀ on, exec (.maintenanceKeyEdge on) s = .next { s with store := { s.store with key := on } })
    ∧ exec .alertPulseEnd s = .next { s with alert := { s.alert with
        phase := if s.alert.phase = .low then .recovery else s.alert.phase } }
    ∧ exec .alertRecoveryEnd s = .next { s with alert :=
        if s.alert.phase ≠ .recovery then s.alert
        else if s.alert.pending = 0 then { s.alert with phase := .rest }
        else { s.alert with phase := .low, pending := s.alert.pending - 1 } }
    ∧ (let t := deliver 8 s
       let class_ := match (s.slot 8).freshValue with
         | some v => if (s.pProve : Int) ≤ v then Suction.strong else if (s.pWarn : Int) ≤ v then .adequate
             else if (s.pFail : Int) ≤ v then .weak else .lost
         | none => .lost
       let runs := fun (test : Prop) (old new : Option Nat) => (test → new = some (old.getD 0)) ∧ (¬ test → new = none)
       t = { s with extr := t.extr } ∧ t.extr.suction = class_ ∧ t.extr.state = s.extr.state ∧ t.extr.fan = s.extr.fan
         ∧ t.extr.feedback = s.extr.feedback ∧ t.extr.grace = s.extr.grace ∧ t.extr.forcedDue = s.extr.forcedDue
         ∧ t.extr.clog = s.extr.clog
         ∧ (s.extr.state = .proving ∨ s.extr.state = .failed →
           runs (class_ = .strong ∧ s.extr.feedback = true) s.extr.qualify t.extr.qualify)
         ∧ (s.extr.state = .proven → runs (class_ = .weak ∨ class_ = .lost) s.extr.warn t.extr.warn)
         ∧ (s.extr.state = .warn → runs (class_ = .strong ∨ class_ = .adequate) s.extr.recover t.extr.recover)
         ∧ (s.extr.state = .proven ∨ s.extr.state = .warn → runs (class_ = .lost) s.extr.fail t.extr.fail))
    ∧ (match (s.slot 9).freshValue with
       | some v => deliver 9 s
         = if s.extr.fan = true ∧ s.configured = true then
             if v ≤ (s.param 95 : Int) then
               { s with extr := { s.extr with clog := none }
                        alarms := s.alarms.set .filterClog (s.alarm .filterClog).disappear }
             else if s.condition .filterClog = true then s
             else { s with extr := { s.extr with clog := some (s.extr.clog.getD 0) } }
           else s
       | none => deliver 9 s = { s with extr := { s.extr with clog := none } })
    ∧ (deliver 11 s = match (s.slot 11).freshValue with
       | some v => if s.configured = true ∧ (s.minFluxPressure : Int) ≤ v then
           { s with alarms := s.alarms.set .fluxPressLow (s.alarm .fluxPressLow).disappear } else s
       | none => s)
    ∧ (∀ ch, 12 ≤ ch → deliver ch s = s)
    ∧ ∀ b, ∃ t, exec (.fanFeedbackEdge b) s = .next t ∧ t = { s with extr := t.extr }
      ∧ t.extr.feedback = b ∧ t.extr.state = s.extr.state ∧ t.extr.fan = s.extr.fan ∧ t.extr.suction = s.extr.suction
      ∧ t.extr.grace = s.extr.grace ∧ t.extr.clog = s.extr.clog
      ∧ (s.extr.state = .proving ∨ s.extr.state = .failed →
        t.extr.qualify = if s.extr.suction = .strong ∧ b = true then some (s.extr.qualify.getD 0) else none)
      ∧ (s.extr.state = .proven ∨ s.extr.state = .warn →
        t.extr.feedbackTimer = if s.extr.fan = true ∧ b = false then some (s.extr.feedbackTimer.getD 0) else none)

/-! ### Reports, alarms, ALERT -/

/-- REPORT_TAKE gives the oldest report and the number left, in the layout of log 13, or is refused with EMPTY; it keeps the
attention flag, and the admission test follows the removal. -/
def Obligations.ReportTakeGivesTheOldest : Prop :=
  ∀ (tag : Byte) (s : State), s.hears →
    (s.reports.queue = [] → exec (.reportTake tag) s = .next (s.replying .reportTake tag [8#8, 0#8]))
    ∧ ∀ p rest, s.reports.queue = p :: rest →
      let u := admissionTest { s with reports := { s.reports with queue := rest } }
      exec (.reportTake tag) s = .next (u.replying .reportTake tag (0#8 :: reportBytes p ++ u8 rest.length))

/-- ALARM_ACK: a number above 21 is BAD_VALUE; else the entry named, or every entry for 0, follows the table, ACTIVE to ACKED
and LATCHED to CLEAR, keeping its count, time and epoch, and the reply is OK with the kind and its state, or with the number
of entries that changed and those left in force. -/
def Obligations.AlarmAckFollowsItsTable : Prop :=
  ∀ (tag n : Byte) (s : State), s.hears →
    let after := fun (e : AlarmEntry) => { e with state := match e.state with
      | .active => AlarmState.acked
      | .latched => .clear
      | .acked => .acked
      | .clear => .clear }
    (21 < n.toNat → exec (.alarmAck tag n) s = .next (s.replying .alarmAck tag [11#8, 0#8]))
    ∧ (∀ k, n.toNat = alarmNumber k → ∃ t, exec (.alarmAck tag n) s = .next t
      ∧ t.alarms = s.alarms.set k (after (s.alarm k)) ∧ t.alert = s.alert ∧ t.modes = s.modes
      ∧ Answered s t .alarmAck tag ([0#8, n] ++ u8 (alarmStateNumber (t.alarm k).state)))
    ∧ (n.toNat = 0 → ∃ t, exec (.alarmAck tag n) s = .next t
      ∧ (∀ k, t.alarm k = after (s.alarm k)) ∧ t.alert = s.alert ∧ t.modes = s.modes
      ∧ Answered s t .alarmAck tag ([0#8]
          ++ u8 (allAlarms.filter (fun k => (t.alarm k).state ≠ (s.alarm k).state)).length ++ t.forceCounts))

/-- ALERT_MODE: the named mode, a pulse and its recovery ended, the pending count 0, the output at the level the mode gives,
the attention flag kept; a value that names no mode is BAD_VALUE, and CALIBRATING refuses the request. A pin reset leaves the
mode LEVEL, and a RESTART keeps it. -/
def Obligations.AlertModeTaken : Prop :=
  (∀ (pins : ResetPins) (s : State), (∃ t, exec (.pinReset pins) s = .next t ∧ t.alert.mode = .level)
    ∧ (s.link.tx ≠ .quiet → s.link.restartDue = true →
      ∃ t, exec (.replySent pins) s = .next t ∧ t.alert.mode = s.alert.mode))
  ∧ ∀ (tag m : Byte) (s : State), s.hears →
    (s.modes.mode = .calibrating → exec (.alertMode tag m) s = .next (s.replying .alertMode tag [2#8]))
    ∧ (s.modes.mode ≠ .calibrating → 3 < m.toNat →
      exec (.alertMode tag m) s = .next (s.replying .alertMode tag [11#8, 0#8]))
    ∧ (∀ x, s.modes.mode ≠ .calibrating → m.toNat = alertModeNumber x → ∃ t, exec (.alertMode tag m) s = .next t
      ∧ t = { s.replying .alertMode tag [0#8, m] with
              alert := { attention := s.alert.attention, mode := x, phase := .rest, pending := 0 } }
      ∧ t.alertLow = (x == .level && s.alert.attention))

/-! ### The store -/

/-- The store requests: the first check that fails gives the refusal, and a request that passes them all begins its operation
and owes its reply; a row with too few or too many fields is answered BAD_VALUE with index 0. -/
def Obligations.StoreRequestsBegin : Prop :=
  ∀ (tag n k : Byte) (words : List Word16) (f : RecipeFields) (s : State), s.hears → s.modes.mode ≠ .calibrating →
    let refused := fun (kind : RequestKind) (code : Bytes) => s.replying kind tag code
    let begins := fun (kind : RequestKind) (op : StoreOp) =>
      { s.owing kind tag with store := { s.store with op := some op } }
    let fields := words.map BitVec.toNat
    (words.length = 101 → s.modes.mode = .idle →
      exec (.configWrite tag words) s = .next (
        if s.store.op.isSome then refused .configWrite [3#8]
        else if s.store.key = false then refused .configWrite [6#8]
        else match configFault ⟨fields⟩ with
          | some i => refused .configWrite (11#8 :: u8 i)
          | none => begins .configWrite (.writeConfig ⟨fields⟩)))
    ∧ (words.length = 16 →
      exec (.thermalWrite tag n words) s = .next (
        if 8 ≤ n.toNat then refused .thermalWrite [11#8, 0#8]
        else if s.store.op.isSome then refused .thermalWrite [3#8]
        else if s.store.key = false ∧ (s.store.work.set n.toNat).locked = true then refused .thermalWrite [5#8]
        else if s.setInUse n.toNat then refused .thermalWrite [4#8]
        else match thermalFault ⟨fields⟩ with
          | some i => refused .thermalWrite (11#8 :: u8 i)
          | none => begins .thermalWrite (.writeSet n.toNat ⟨fields⟩)))
    ∧ (f.fits = true →
      exec (.recipeWrite tag n f) s = .next (
        if 32 ≤ n.toNat then refused .recipeWrite [11#8, 0#8]
        else if s.store.op.isSome then refused .recipeWrite [3#8]
        else if s.store.key = false ∧ (s.store.work.recipe n.toNat).locked = true then refused .recipeWrite [5#8]
        else if s.recipeInUse n.toNat then refused .recipeWrite [4#8]
        else match recipeFault f with
          | some i => refused .recipeWrite (11#8 :: u8 i)
          | none => begins .recipeWrite (.writeRecipe n.toNat (recipeOfFields f))))
    ∧ exec (.recipeErase tag n) s = .next (
        if 32 ≤ n.toNat then refused .recipeErase [11#8, 0#8]
        else if s.store.op.isSome then refused .recipeErase [3#8]
        else if s.store.key = false ∧ (s.store.work.recipe n.toNat).locked = true then refused .recipeErase [5#8]
        else if s.recipeInUse n.toNat then refused .recipeErase [4#8]
        else begins .recipeErase (.eraseRecipe n.toNat))
    ∧ (let locks := fun (kind : RequestKind) (b : Bool) =>
         if ¬ (k.toNat = 0 ∧ n.toNat < 32) ∧ ¬ (k.toNat = 1 ∧ n.toNat < 8) then refused kind [11#8, 0#8]
         else if s.store.op.isSome then refused kind [3#8]
         else if s.store.key = false then refused kind [6#8]
         else if k.toNat = 0 then
           if (s.store.work.recipe n.toNat).item.isValid then begins kind (.setLock (.recipe n.toNat) b)
           else refused kind [12#8]
         else if (s.store.work.set n.toNat).item.isValid then begins kind (.setLock (.thermal n.toNat) b)
         else refused kind [13#8]
       exec (.lock tag k n) s = .next (locks .lock true) ∧ exec (.unlock tag k n) s = .next (locks .unlock false))
    -- a payload of the wrong length (R190)
    ∧ (words.length ≠ 101 → s.modes.mode = .idle → exec (.configWrite tag words) s = .next (refused .configWrite [11#8, 0#8]))
    ∧ (words.length ≠ 16 → exec (.thermalWrite tag n words) s = .next (refused .thermalWrite [11#8, 0#8]))
    ∧ (f.fits = false → exec (.recipeWrite tag n f) s = .next (refused .recipeWrite [11#8, 0#8]))

/-- The completion of a store operation: the item takes the table's outcome in the working copy and in the array, the record
is absent, STORE_FAULT occurs where the verify failed, the request is answered, and a calibration write reaches the Pot
Controller; every other item, and its lock flag, is as it was. A lost configuration record clears the pot over mark. With no
operation in progress none completes (log 3). -/
def Obligations.StoreOperationCompletes : Prop :=
  ∀ (ok : Bool) (s : State),
    (s.store.op = none → exec (.storeOperationComplete ok) s = .next s)
    ∧ ∀ op, s.store.op = some op → ∃ t, exec (.storeOperationComplete ok) s = .next t
      ∧ t.store.op = none ∧ t.store.key = s.store.key ∧ t.store.checking = s.store.checking ∧ t.uptime = s.uptime
      ∧ (let sameRecipes := fun except : Option Nat =>
           ∀ m, some m ≠ except → t.store.work.recipe m = s.store.work.recipe m
         let sameSets := fun except : Option Nat => ∀ m, some m ≠ except → t.store.work.set m = s.store.work.set m
         let sameConfig := t.store.work.config = s.store.work.config
         let sameCal := t.store.work.cal = s.store.work.cal
         (∀ n r, op = .writeRecipe n r → n < s.store.work.recipes.length →
          (t.store.work.recipe n).item = (if ok then .valid r else .corrupt)
          ∧ (t.store.work.recipe n).locked = (!ok || (s.store.work.recipe n).locked)
          ∧ sameRecipes (some n) ∧ sameSets none ∧ sameConfig ∧ sameCal)
         ∧ (∀ n x, op = .writeSet n x → n < s.store.work.sets.length →
          (t.store.work.set n).item = (if ok then .valid x else .corrupt)
          ∧ (t.store.work.set n).locked = (!ok || (s.store.work.set n).locked)
          ∧ sameRecipes none ∧ sameSets (some n) ∧ sameConfig ∧ sameCal)
         ∧ (∀ c, op = .writeConfig c → t.store.work.config = (if ok then .valid c else .corrupt) ∧ t.heat.frameSlot = 0
          ∧ (ok = false → t.heat.pot.overMark = false) ∧ sameRecipes none ∧ sameSets none ∧ sameCal)
         ∧ (∀ n, op = .eraseRecipe n → n < s.store.work.recipes.length →
          (t.store.work.recipe n).item = (if ok then .empty else .corrupt)
          ∧ (t.store.work.recipe n).locked = !ok
          ∧ sameRecipes (some n) ∧ sameSets none ∧ sameConfig ∧ sameCal)
         ∧ (∀ n b, op = .setLock (.recipe n) b → n < s.store.work.recipes.length →
          (t.store.work.recipe n).item = (if ok then (s.store.work.recipe n).item else .corrupt)
          ∧ (t.store.work.recipe n).lock = (!ok || b)
          ∧ sameRecipes (some n) ∧ sameSets none ∧ sameConfig ∧ sameCal)
         ∧ (∀ n b, op = .setLock (.thermal n) b → n < s.store.work.sets.length →
          (t.store.work.set n).item = (if ok then (s.store.work.set n).item else .corrupt)
          ∧ (t.store.work.set n).lock = (!ok || b)
          ∧ sameRecipes none ∧ sameSets (some n) ∧ sameConfig ∧ sameCal)
         ∧ (∀ d l, op = .writeCal d l → sameRecipes none ∧ sameSets none ∧ sameConfig))
      ∧ (∀ d l, op = .writeCal d l → t.wave.cal = { pair := some (d, l), valid := ok } ∧ t.wave.phase = .none
          ∧ t.wave.outcome = (if ok then .ok else .storeFault) ∧ t.link = s.link
          ∧ t.store.work.cal = (if ok then .valid (d, l) else .corrupt)
          ∧ (s.modes.mode = .calibrating → s.extr.forcedDue = false → t.modes.mode = .ready)
          ∧ (s.modes.mode ≠ .calibrating → s.modes.mode ≠ .warmup → t.modes = s.modes))
      ∧ (s.store.array = s.store.work → t.store.array = t.store.work)
      ∧ (ok = false → t.alarm .storeFault = { state := .latched, count := min 255 ((s.alarm .storeFault).count + 1),
                                              time := some (s.seconds, .current) })
      ∧ (ok = true → t.alarm .storeFault = s.alarm .storeFault)
      ∧ (∀ kind tag, (∀ d l, op ≠ .writeCal d l) → s.link.owed = some (kind, tag) →
          t.link = { s.link with
            receiver := .hunt, tx := .sending (frameBytes (kind + 0x80#8) tag (completionPayload op ok t)) })

/-! ### Promises of the outputs -/

/-- Every step keeps the valves shut without proven extraction, the grants at 0 where they are forced to 0, and the wave off
while the pot is not molten. -/
def Obligations.OutputsStaySafe : Prop :=
  ∀ s t : State, step s = .next t → (s.valvesSafe → t.valvesSafe) ∧ (s.heatersSafe → t.heatersSafe) ∧ (s.waveSafe → t.waveSafe)
end

