-- ==== Sys2Proof/Laws/Modes.lean ====
section
/-! SUPPORT. The Mode Controller's items after the operations that change them. -/

namespace Sys2Proof.Machine

/-- Entry into a mode gives the items that the Mode Controller's own rule gives, whatever the other blocks do (R3 to R23). -/
@[simp] theorem setMode_modes (new : Mode) (s : State) : (setMode new s).modes = s.modes.enter new s.pot.molten := by
  have h : (setMode new s).quiet = (s.setModes (s.modes.enter new s.pot.molten)).quiet := by
    unfold setMode
    dsimp only
    split <;> split <;> simp
  exact congrArg (·.modes) h

/-- An entry into DRAIN sets the target (R16). -/
@[simp] theorem toDrain_modes (t : DrainTarget) (s : State) :
    (toDrain t s).modes = { s.modes with mode := .drain, drain := t, ret := .none, holdTimer := 0, warm := none } := by
  simp [toDrain, ModeCtl.enter]

end Sys2Proof.Machine
end

