-- ==== Sys2Proof/Laws/Requests.lean ====
section
/-! SUPPORT. What a request that is heard does: its handling at the owner, and the reply on the line. -/

namespace Sys2Proof.Machine

/-- Every request row runs as the arrival of its frame, with the contact finger input as POT_READ shows it. -/
theorem exec_commandOf (tag : Byte) (finger : Bool) (r : Request) (s : State) :
    exec (commandOf tag finger r) s = .next (requestArrives tag r (s.shown finger r)) := by
  cases r <;> rfl

/-- A request that is heard goes to its owner with its reply owed. -/
theorem requestArrives_hears (tag : Byte) (r : Request) (s : State) (h : s.hears) :
    requestArrives tag r s = handle r (s.owing (requestKind r) tag) := by
  obtain ⟨hd, ho⟩ := h
  simp [requestArrives, hd, State.setLink, ho, owe, State.owing]

/-- A request that passes the mode check and the payload check is acted on. -/
theorem handle_act (r : Request) (s : State) (hm : modeAllows (requestKind r) s.modes.mode = true)
    (hw : r.wellFormed = true) : handle r s = act r s := by simp [handle, hm, hw]

/-- Answering while a reply is owed puts it on the line and changes nothing else. -/
theorem answer_owed (payload : Bytes) (s : State) (k : RequestKind) (tag : Byte)
    (h : s.link.owed = some (kindByte k, tag)) : answer payload s = s.replying k tag payload := by
  simp [answer, h, State.replying]

/-- The reply owed is the one on the line after an answer. -/
theorem answer_owing (payload : Bytes) (s : State) (k : RequestKind) (tag : Byte) :
    answer payload (s.owing k tag) = s.replying k tag payload := by
  simp [answer, State.owing, State.replying, State.setLink]

/-- The last reply built is the one on the line. -/
@[simp] theorem replying_owing (s : State) (k : RequestKind) (tag : Byte) (payload : Bytes) :
    (s.owing k tag).replying k tag payload = s.replying k tag payload := rfl

/-- An answer after effects that leave the link alone puts the reply on the line and touches nothing else. -/
theorem answer_far {s g : State} {k : RequestKind} {tag : Byte} (payload : Bytes) (h : g.far = (s.owing k tag).far) :
    answer payload g = g.replying k tag payload ∧ Answered s (g.replying k tag payload) k tag payload := by
  have hl : g.link = (s.owing k tag).link := congrArg (·.link) h
  refine ⟨answer_owed _ _ _ _ (by rw [hl]; rfl), ⟨congrArg (·.scan) h, congrArg (·.store) h, congrArg (·.uptime) h,
    congrArg (·.freeIndex) h, congrArg (·.pending) h⟩, ?_, congrArg (·.reports) h⟩
  simp only [State.replying, setLink_link, hl]
  rfl

/-- The byte of a kind names the kind (R191). -/
theorem kindOf_kindByte (k : RequestKind) : kindOf (kindByte k) = some k := by cases k <;> rfl

/-- A two-byte field reads back as it was sent (R190). -/
theorem word16_bytes (w : Word16) : word16 (w.extractLsb' 8 8) (w.extractLsb' 0 8) = w := by
  unfold word16
  apply BitVec.eq_of_toNat_eq
  simp only [BitVec.toNat_append, BitVec.extractLsb'_toNat]
  rw [← Nat.shiftLeft_add_eq_or_of_lt (by omega)]
  have := w.isLt
  simp only [Nat.shiftRight_eq_div_pow, Nat.shiftLeft_eq]
  omega

end Sys2Proof.Machine
end

