-- ==== Sys2Proof/Tests/Slice0.lean ====
section
/-! SUPPORT. Tests: ill-formed commands, the manual's worked figures, single steps, and a concrete state for the hypotheses of each
statement. -/

namespace Sys2Proof.Tests

open Sys2Proof Sys2Proof.Machine

/-! ### Ill-formed commands are refused by WellFormed -/

theorem test_ill_recipe_item : StoreItem.inRange (.recipe 32) = false ∧ StoreItem.inRange (.recipe 31) = true := by decide
theorem test_ill_thermal_item : StoreItem.inRange (.thermal 8) = false ∧ StoreItem.inRange (.thermal 7) = true := by decide
theorem test_ill_reading : Reading.inRange ⟨false, some 65536⟩ = false ∧ Reading.inRange ⟨false, some 65535⟩ = true := by
  decide
theorem test_ill_reading_low : Reading.inRange ⟨false, some (-32769)⟩ = false := by decide
theorem test_ill_config_write : (Instr.configWrite 1#8 [0#16]).wellFormed = false := by decide
theorem test_ill_thermal_write : (Instr.thermalWrite 1#8 0#8 (List.replicate 17 0#16)).wellFormed = false := by decide
theorem test_ill_findings : (Instr.storeStartUpCheckEnd ⟨[.recipe 40], .former⟩).wellFormed = false := by decide

/-- A recipe as RECIPE_WRITE carries it (R181). -/
def sampleRecipe : RecipeFields :=
  { name := [0x41#8], set := 0#8, length := 230#16, width := 100#16, tolerance := 5#16, base := 4#8, boost := 12#8,
    exitMin := 900#16, exitMax := 1300#16, rects := [⟨0#8, 9#8, 0#8, 1#8, 0#8, 4#8⟩] }

theorem test_ill_recipe_write :
    (Instr.recipeWrite 1#8 0#8 { sampleRecipe with rects := List.replicate 38 ⟨0#8, 9#8, 0#8, 1#8, 0#8, 4#8⟩ }).wellFormed
      = false := by decide

/-! ### Worked figures of the manual -/

/-- R29: the three examples of the speed reference. -/
theorem test_speed_reference :
    min 255 (roundDiv (1200 * 256) 3000) = 102 ∧ min 255 (roundDiv (305 * 256) 2560) = 31
      ∧ min 255 (roundDiv (2400 * 256) 600) = 255 := by decide

/-- R30: 380 counts at K = 20 are inside, 379 outside. -/
theorem test_speed_window :
    windowSpeed 380 20 = 1140 ∧ windowOutside 1200 1140 = false ∧ windowSpeed 379 20 = 1137
      ∧ windowOutside 1200 1137 = true := by decide

/-- R40: 4,620 counts measure 231 mm, 4,730 counts 237 mm. -/
theorem test_measured_length : measuredLength 4620 20 = 231 ∧ measuredLength 4730 20 = 237 := by decide

/-- The five rectangles of the chapter's worked example of a composition. -/
def exampleRects : List Rect :=
  [⟨.dose, 9, 0, 1, 0, 4⟩, ⟨.keepout, 0, 2, 3, 3, 6⟩, ⟨.add, 8, 1, 4, 2, 4⟩, ⟨.dose, 0, 5, 9, 0, 4⟩,
   ⟨.add, -15, 10, 12, 0, 4⟩]

/-- The composition of the worked example takes 4.6 ms (R60, in units of 0.02 ms). -/
theorem test_composition_time : compositionTime 6 5 exampleRects = 230 := by decide

/-- The worked example's map, its protected cells and its spans (R61 to R64). -/
theorem test_composed_map :
    (composeCells 6 5 ⟨4, exampleRects⟩).map (·.map (·.level))
        = [[9, 9, 9, 9, 9], [9, 9, 15, 15, 15], [4, 4, 12, 0, 0], [4, 4, 12, 0, 0], [4, 4, 12, 12, 12], [0, 0, 0, 0, 0]]
      ∧ (composeCells 6 5 ⟨4, exampleRects⟩).map (fun r => positions (·.prot) 0 r) = [[], [], [3, 4], [3, 4], [], []]
      ∧ (composeCells 6 5 ⟨4, exampleRects⟩).map rowSpan
        = [some (0, 4), some (0, 4), some (0, 2), some (0, 2), some (0, 4), none] := by decide

/-- The same map for a ROTATED record (R63). -/
theorem test_rotated_spans :
    (placeCells .rotated (composeCells 6 5 ⟨4, exampleRects⟩)).map rowSpan
      = [none, some (0, 4), some (2, 4), some (2, 4), some (0, 4), some (0, 4)] := by decide

/-- R78: the open times at 500 mm/s. -/
theorem test_open_times :
    [0, 4, 9, 15].map (openTimeOf 500) = [0, 53, 120, 200] := by decide

/-- The chapter's table of one zone loop (R94, R95). -/
theorem test_loop_updates :
    let p : LoopParams := { kp := 96, ki := 40, iMax := 20000, band := 50 }
    let e := fun t => loopError 1600 t
    (loopDemand p (e 1540) 5000 0, loopIntegral p (e 1540) 5000 255 false false) = (255, 5000)
      ∧ (loopDemand p (e 1610) 5000 0, loopIntegral p (e 1610) 5000 180 true false) = (180, 4990)
      ∧ (loopDemand p (e 1598) 4990 0, loopIntegral p (e 1598) 4990 197 false false) = (197, 4992) := by decide

/-- The second case of that table: a boost of 12. -/
theorem test_loop_boost :
    let p : LoopParams := { kp := 96, ki := 40, iMax := 20000, band := 50 }
    (loopDemand p (loopError 1500 1420) 3000 12, loopIntegral p 80 3000 249 false false) = (249, 3080) := by decide

/-- The chapter's sharing of the supply (R98). -/
theorem test_power_share :
    shareAvailable 260 120 255 = 35960
      ∧ [255, 255, 255, 255, 100, 0].map (shareGrant 35960 41250) = [222, 222, 222, 222, 87, 0] := by decide

/-- R99: a grant of 87 fires 43 slots in half a frame, a grant of 222 fires 86 in 100. -/
theorem test_slots_fired :
    ((List.range 128).filter (slotFires 87)).length = 43 ∧ ((List.range 100).filter (slotFires 222)).length = 86 := by
  decide

/-- R132, R133: the chapter's table of the wave drive. -/
theorem test_wave_drives :
    [1225, 1200, 1185, 1170, 1169, 1290].map (fun l => clampDrive 100 (rawDrive 142 1200 95 80 40 l))
      = [(117, .none), (180, .none), (217, .none), (255, .none), (255, .high), (100, .low)] := by decide

/-- R132: a negative quotient is rounded toward plus infinity. -/
theorem test_ceil : ceilDiv (-1000) 40 = -25 ∧ ceilDiv (-1001) 40 = -25 := by decide

/-- R113: the fume signal at a fume-off temperature of 150.0 °C. -/
theorem test_fume :
    fumeHotBy 1500 ⟨some 1500, .fresh, none⟩ = true ∧ fumeHotBy 1500 ⟨some 1499, .fresh, none⟩ = false
      ∧ fumeHotBy 1500 ⟨some 1499, .stale, none⟩ = true := by decide

/-- R110: a band of 5.0 °C about 1600. -/
theorem test_band :
    [1549, 1550, 1650, 1651].map (fun t => inBand ⟨some t, .fresh, none⟩ 1600 50) = [false, true, true, false] := by decide

/-- R157: a range that wraps from 15 to 0. -/
theorem test_scan_order : [14, 15, 0, 2].map (nextChannel 14 2) = [15, 0, 1, 14] := by decide

/-- R186: the published check value of this polynomial, start value and bit order over the bytes "123456789" (PRESUMED). -/
theorem test_crc : crc [0x31#8, 0x32#8, 0x33#8, 0x34#8, 0x35#8, 0x36#8, 0x37#8, 0x38#8, 0x39#8] = 0x29B1#16 := by decide +kernel

/-- R120: with a threshold of 20 an output of 222 starts no hold on a reference of 235, and one of 215 does. -/
theorem test_drive_watch :
    let p : PotCtl := { PotCtl.afterReset with refDrive := 235, level := some 1200, standing := .live }
    watchDrive 20 222 p = p ∧ (watchDrive 20 215 p).refDrive = 215 ∧ (watchDrive 20 215 p).standing = .held := by decide

/-- R181, R179: the sample recipe passes its checks; a load boost of 101 is refused at index 7, a level 16 at index 12. -/
theorem test_recipe_checks :
    recipeFault sampleRecipe = none ∧ recipeFault { sampleRecipe with boost := 101#8 } = some 7
      ∧ recipeFault { sampleRecipe with rects := [⟨0#8, 16#8, 0#8, 1#8, 0#8, 4#8⟩] } = some 12 := by decide

/-! ### States for the hypotheses -/

/-- A configuration record within R179 and R180. -/
def config : ConfigRecord :=
  { fields := [20, 3000, 350, 400, 600, 600, 800, 800, 1000, 1000, 1200, 1200, 1400, 1400, 1600, 1700, 2000, 50, 3600, 50, 5,
               20, 500, 50, 5, 100, 120, 40, 40, 40, 30, 30, 30, 260, 200]
      ++ (List.replicate 7 [96, 40, 20000, 50]).flatten ++ List.replicate 6 150
      ++ [600, 120, 2200, 300, 3000, 1500, 80, 40, 100, 150, 8, 5, 1180, 1200, 1120, 30, 20, 30, 5, 400, 300, 150, 60, 5, 3,
          500, 60, 60, 0, 13, 500, 60] }

theorem test_config : config.fields.length = 101 ∧ configFault config = none := by decide

/-- A thermal set within R181. -/
def thermal : ThermalSet :=
  { fields := List.replicate 6 1600 ++ List.replicate 6 1500 ++ [2500, 2300, 1200, 95] }

theorem test_thermal : thermal.fields.length = 16 ∧ thermalFault thermal = none := by decide

/-- A store with a recipe in slot 0, a set 0, a configuration record and a calibration record. -/
def image : StoreImage :=
  { recipes := { item := .valid (recipeOfFields sampleRecipe), lock := false }
      :: List.replicate 31 { item := .empty, lock := false },
    sets := { item := .valid thermal, lock := false } :: List.replicate 7 { item := .empty, lock := false },
    config := .valid config, cal := .valid (142, 1200) }

/-- After the start-up check of a part with that store, set 0 active. -/
def idle : State :=
  { State.reset with
    store := { work := image, array := image, op := none, abandoned := none, checking := false, key := true }
    wave := { Wave.afterReset false with cal := { pair := some (142, 1200), valid := true } }
    modes := { ModeCtl.afterReset with activeSet := some 0 } }

/-- The same part in a mode with its fan on and the extraction proven, the pot molten. -/
def inMode (m : Mode) : State :=
  { idle with
    modes := { idle.modes with mode := m }
    extr := { Extraction.afterReset true with fan := true, state := .proven, suction := .strong }
    pot := { PotCtl.afterReset with molten := true, level := some 1200, standing := .live } }

/-- A board on the conveyor, 4,620 counts past the entry sensor, in buffer 0. -/
def board : Record :=
  { newRecord ⟨7, 0, .normal⟩ .b0 23 with stage := .conveyed, entry := some 0#24 }

/-- The part in a mode with that board in transit. -/
def withBoard (m : Mode) (r : Record) : State :=
  let s := inMode m
  { s with
    tracker := { s.tracker with count := 4620#24, records := [r] }
    maps := { buffers := ⟨some { owner := 7, composing := false, rows := 23, cols := 10, cells := [], spans := [],
                                 resolved := 0 }, none, none, none⟩, order := [], working := none } }

/-- A stroke record over the columns 0 to 4 of row 0 of the board. -/
def stroke : Stroke :=
  { tag := 7, buffer := .b0, row := 0, first := 0, last := 4, startEnd := 0, farEnd := 50, phase := .crossing,
    delivered := 0, entered := 0, openTime := none, elapsed := 0, cellElapsed := 0 }

/-- The part in HOLD with a running traverse. -/
def traversing (r : Running) : State :=
  let s := withBoard .hold board
  { s with modes := { s.modes with ret := .run }, spray := { s.spray with running := r, position := some 0 } }

/-- The part in WARMUP in a stage. -/
def warming (g : WarmStage) : State :=
  let s := inMode .warmup
  { s with modes := { s.modes with warm := some { WarmUp.fresh with stage := g, zonesEntered := g != .melt } } }

/-- A slot with a FRESH value. -/
def fresh (v : Int) : Slot := { value := some v, standing := .fresh, refreshed := some 0 }

/-- The part in CALIBRATING, searching. -/
def searching (d : Direction) (test : Nat) : State :=
  let s := inMode .calibrating
  { s with wave := { s.wave with phase := .search d test 0, outcome := .running, output := test } }

/-- A part that owes the reply to a request. -/
def owing (k : RequestKind) : State := idle.owing k 9#8

/-! ### Single steps -/

/-- R4, R6, R145: START in IDLE turns the fan on and waits for the extraction. -/
theorem test_start :
    ∃ t, exec (.start 1#8) idle = .next t ∧ t.modes.mode = .warmup ∧ t.extr.state = .proving := ⟨_, rfl, by decide⟩

/-- R23, R101: a SAFE alarm in RUN closes the gate and turns every grant and the wave off. -/
theorem test_trip :
    ∃ t, exec (.potTripEdge true) (inMode .run) = .next t ∧ t.modes.mode = .safe ∧ t.wave.output = 0 := ⟨_, rfl, by decide⟩

/-- R143: POT_READ carries the contact finger input as it stands. -/
theorem test_finger_shown : ∃ t, exec (.potRead ⟨1#8, true⟩) idle = .next t ∧ t.wave.finger = true := ⟨_, rfl, by decide⟩

/-! ### Witnesses: concrete states that meet the hypotheses of the statements -/

/-- The part with a receiver state. -/
def receiving (r : Receiver) : State := { idle with link := { idle.link with receiver := r } }

theorem witness_StepRunsTheFrontCommand :
    ({ idle with pending := [.byteGapExpiry, .soakComplete] } : State).pending = .byteGapExpiry :: [.soakComplete] := rfl

theorem witness_EmptyQueueIsOneTick : State.reset.pending = [] := rfl

/-- A tick of a search leaves its drive and direction, and the level estimate, as they are. -/
theorem test_tick_of_a_search :
    ∃ t, step (searching .up 120) = .next t ∧ t.wave.phase = .search .up 120 1 ∧ t.pot = (searching .up 120).pot :=
  ⟨_, rfl, by decide +kernel⟩

/-- Running timers: the melt timer, a hold, a search, a stroke and the entry timer's conveyor. -/
theorem witness_EmptyQueueIsOneTick_timers :
    (warming .melt).pending = [] ∧ (warming .melt).supplyLow = false ∧ (warming .melt).stage? = some .melt
      ∧ (warming .zones).pending = [] ∧ (warming .zones).stage? = some .zones
      ∧ (traversing (.stroke stroke)).pending = [] ∧ (traversing (.stroke stroke)).spray.running = .stroke stroke
      ∧ (searching .up 120).pending = [] ∧ (searching .up 120).wave.phase = .search .up 120 0
      ∧ (inMode .run).pot.feeder = .off ∧ (inMode .run).pot.soak = .none := by decide

theorem witness_ReceiverByteByByte :
    State.reset.deaf = true ∧ (receiving .hunt).deaf = false ∧ (receiving .hunt).link.receiver = .hunt
      ∧ (receiving (.inFrame [])).deaf = false
      ∧ ([2#8, 9#8, 9#8, 9#8, 9#8] : Bytes).length < (2#8 : Byte).toNat + 4
      ∧ (receiving (.inFrame [2#8, 9#8, 9#8, 9#8, 9#8])).deaf = false
      ∧ (idle.replying .start 1#8 [0#8]).link.restartDue = false ∧ (idle.replying .start 1#8 [0#8]).link.tx ≠ .quiet := by
  decide

/-- The CRC of a frame of the unknown kind 0x7F without payload. -/
def strangeCrc : Word16 := crc [0#8, 0x7F#8, 1#8]

theorem witness_FramesNotAccepted :
    let s := receiving (.inFrame [0#8, 0x7F#8, 1#8, strangeCrc.extractLsb' 8 8])
    s.deaf = false ∧ s.link.owed = none ∧ [strangeCrc.extractLsb' 8 8].length = (0#8 : Byte).toNat + 1
      ∧ ([strangeCrc.extractLsb' 8 8] ++ [strangeCrc.extractLsb' 0 8]).drop 0 = wordBytes (crc [0#8, 0x7F#8, 1#8])
      ∧ ([strangeCrc.extractLsb' 8 8] ++ [strangeCrc.extractLsb' 0 8 + 1#8]).drop 0 ≠ wordBytes (crc [0#8, 0x7F#8, 1#8])
      ∧ kindOf 0x7F#8 = none ∧ (owing .start).deaf = false ∧ (owing .start).link.owed ≠ none := by decide +kernel

/-- A CAPS frame with one byte of payload, the CRC matching: its length is not CAPS's. -/
theorem witness_FramesNotAccepted_length :
    let c := crc [1#8, 0x01#8, 1#8, 5#8]
    let got := [5#8, c.extractLsb' 8 8]
    let s := receiving (.inFrame (1#8 :: 0x01#8 :: 1#8 :: got))
    s.deaf = false ∧ s.link.owed = none ∧ got.length = (1#8 : Byte).toNat + 1
      ∧ (got ++ [c.extractLsb' 0 8]).drop 1 = wordBytes c ∧ kindOf 0x01#8 = some .caps ∧ ¬ got.take 1 = [] := by
  decide +kernel

theorem witness_RequestPayloadRoundTrip :
    (Request.recipeWrite 31#8 sampleRecipe).wellFormed = true
      ∧ (Request.configWrite (List.replicate 101 0xFFFF#16)).wellFormed = true := by decide

theorem witness_FrameBytesAreTheRequest :
    (Request.trim 6#8 0x8000#16).wellFormed = true ∧ idle.hears ∧ idle.link.receiver = .hunt := by decide

theorem witness_RequestsUnheardOrOverlapping :
    State.reset.deaf = true ∧ (owing .start).deaf = false ∧ (owing .start).link.owed ≠ none := by decide

theorem witness_ModeCheckComesFirst : idle.hears ∧ modeAllows (requestKind .run) idle.modes.mode = false := by decide

theorem witness_ReadsOnlyAnswer :
    idle.hears ∧ (7#8 : Byte).toNat < 8 ∧ 8 ≤ (8#8 : Byte).toNat ∧ (31#8 : Byte).toNat < 32 ∧ 32 ≤ (32#8 : Byte).toNat := by
  decide

/-- Input pins at a reset, with the pot trip input as given. -/
def pins (trip : Bool) : ResetPins :=
  { speed := .b115200, key := true, trip := trip, stopper := false, fanFeedback := true, finger := false }

theorem witness_PinResetValues : (pins false).trip = false ∧ (pins true).trip = true := by decide

/-- The part at the end of the reply to a RESTART. -/
def restarting : State :=
  { idle with link := { idle.link with tx := .sending [0#8], owed := some (0x24#8, 1#8), restartDue := true } }

theorem witness_RestartKeepsTheAlarmTable :
    restarting.link.tx ≠ .quiet ∧ restarting.link.restartDue = true ∧ (pins false).trip = false
      ∧ restarting.condition .potOvertemp = false := by decide

theorem witness_RestartKeepsTheAlarmTable_trip :
    restarting.link.tx ≠ .quiet ∧ restarting.link.restartDue = true ∧ (pins true).trip = true
      ∧ restarting.condition .potOvertemp = false
      ∧ (occurrence .potOvertemp .active restarting).condition .potOvertemp = true
      ∧ (occurrence .potOvertemp .active restarting).link.restartDue = true := by decide

theorem witness_StartUpCheckEnds :
    idle.store.checking = false ∧ ({ idle with store := { idle.store with checking := true } } : State).store.checking = true
      ∧ idle.store.abandoned = none ∧ 31 < idle.store.array.recipes.length := by decide

/-- The part in its start-up check with an array whose recipe 0 has a load boost of 101. -/
def unsound : State :=
  let r := { item := .valid (recipeOfFields { sampleRecipe with boost := 101#8 }), lock := false }
  { idle with store := { idle.store with checking := true, array := { image with recipes := image.recipes.set 0 r } } }

theorem witness_StartUpCheckEnds_judged :
    unsound.store.checking = true ∧ unsound.store.abandoned = none ∧ 0 < unsound.store.array.recipes.length
      ∧ 0 < unsound.store.array.sets.length ∧ (unsound.store.array.recipe 0).item.isValid = true
      ∧ recipeSound (recipeOfFields { sampleRecipe with boost := 101#8 }) = false ∧ recipeFault sampleRecipe = none
      ∧ StoreItem.config ∈ [StoreItem.config, .recipe 31] := by decide

/-- R178, R181: the check finds that recipe CORRUPT. -/
theorem test_unsound_recipe :
    ∃ t, exec (.storeStartUpCheckEnd ⟨[], .former⟩) unsound = .next t ∧ (t.store.work.recipe 0).item = .corrupt
      ∧ (t.store.work.set 0).item = .valid thermal := ⟨_, rfl, by decide⟩

theorem witness_RestartIsAnsweredFirst : idle.hears ∧ (idle.modes.mode = .idle ∨ idle.modes.mode = .safe) := by decide

/-- The part in IDLE with a hot pot: the fan on, the extraction in a state. -/
def hotIdle (e : ExtState) : State := { idle with extr := { idle.extr with fan := true, state := e } }

theorem witness_StartFromIdle :
    idle.hears ∧ idle.modes.mode = .idle ∧ idle.modes.meltKept = false ∧ idle.configured = true ∧ idle.activeFit = true
      ∧ idle.safeInForce = false ∧ idle.extr.fan = false
      ∧ (hotIdle .proven).hears ∧ (hotIdle .proven).activeFit = true ∧ (hotIdle .proven).safeInForce = false
      ∧ (hotIdle .failed).extr.fan = true ∧ (hotIdle .failed).extr.state = .failed := by decide

theorem witness_StartFromIdle_proving :
    (hotIdle .proving).hears ∧ (hotIdle .proving).modes.mode = .idle ∧ (hotIdle .proving).modes.meltKept = false
      ∧ (hotIdle .proving).configured = true ∧ (hotIdle .proving).activeFit = true
      ∧ (hotIdle .proving).safeInForce = false ∧ (hotIdle .proving).extr.fan = true
      ∧ (hotIdle .proving).extr.state = .proving ∧ (hotIdle .off).extr.state = .off := by decide

/-- The part with one alarm ACTIVE. -/
def alarmed (k : AlarmKind) (s : State) : State := occurrence k .active s

theorem witness_ModeRequestsRefused :
    State.reset.configured = false ∧ (inMode .standby).hears
      ∧ ({ idle with modes := ModeCtl.afterReset } : State).configured = true
      ∧ ({ idle with modes := ModeCtl.afterReset } : State).activeFit = false
      ∧ (alarmed .potOvertemp idle).activeFit = true ∧ (alarmed .potOvertemp idle).safeInForce = true
      ∧ (alarmed .levelLow (inMode .ready)).stopInForce = true ∧ (inMode .ready).pot.molten = true
      ∧ (inMode .ready).wave.cal.valid = true
      ∧ ({ inMode .ready with wave := Wave.afterReset false } : State).wave.cal.valid = false
      ∧ ({ inMode .ready with pot := PotCtl.afterReset } : State).pot.molten = false
      ∧ (withBoard .safe board).tracker.records ≠ [] ∧ (alarmed .potOvertemp (inMode .safe)).tracker.records = []
      ∧ (alarmed .potOvertemp (inMode .safe)).safeInForce = true := by decide

/-- The part in STANDBY with the melt kept. -/
def resting : State :=
  let s := inMode .standby
  { s with modes := { s.modes with meltKept := true } }

theorem witness_RecoveryFromStandby :
    resting.hears ∧ resting.modes.mode = .standby ∧ resting.modes.meltKept = true ∧ resting.configured = true
      ∧ resting.activeFit = true ∧ resting.safeInForce = false ∧ resting.extr.fan = true
      ∧ resting.extr.state = .proven := by decide

/-- The part in STANDBY with its fan on, in an extraction state, the melt kept or not. -/
def recovering (e : ExtState) (kept : Bool) : State :=
  let s := inMode .standby
  { s with modes := { s.modes with meltKept := kept }, extr := { s.extr with state := e } }

theorem witness_RecoveryFromStandby_states :
    (recovering .warn true).hears ∧ (recovering .warn true).activeFit = true ∧ (recovering .warn true).safeInForce = false
      ∧ (recovering .proven false).modes.meltKept = false ∧ (recovering .proven false).extr.fan = true
      ∧ (recovering .proving true).extr.state ≠ .proven ∧ (recovering .proving true).extr.state ≠ .warn
      ∧ (recovering .proving true).extr.state ≠ .failed ∧ (recovering .failed true).extr.state = .failed
      ∧ (let s := recovering .proven true
         (s.setExtr { s.extr with fan := false }).extr.fan = false)
      ∧ resting.takesPart .z1 = true ∧ ((resting.setModes { resting.modes with activeSet := none }).takesPart .z1 = false) := by
  decide

/-- R6, R13: a recovery with the extraction FAILED is aborted within the START; one with the melt lost goes to MELT. -/
theorem test_recovery :
    (∃ t, exec (.start 1#8) (recovering .failed true) = .next t ∧ t.modes.mode = .idle)
      ∧ ∃ t, exec (.start 1#8) (recovering .proven false) = .next t ∧ t.stage? = some .melt ∧ t.pot.soak = .waiting :=
  ⟨⟨_, rfl, by decide⟩, _, rfl, by decide⟩

/-- The part with a drain target and a return mode. -/
def draining (m : Mode) (d : DrainTarget) (r : ReturnMode) : State :=
  let s := withBoard m board
  { s with modes := { s.modes with drain := d, ret := r } }

theorem witness_RunTaken :
    (inMode .ready).hears ∧ (inMode .ready).extr.forcedDue = false ∧ (inMode .ready).wave.cal.valid = true
      ∧ (inMode .ready).pot.molten = true ∧ (inMode .ready).stopInForce = false
      ∧ (draining .drain .ready .none).hears ∧ (draining .drain .ready .none).extr.forcedDue = false
      ∧ (draining .drain .ready .none).stopInForce = false ∧ (draining .hold .ready .drain).modes.ret = .drain
      ∧ (draining .hold .ready .drain).stopInForce = false ∧ (draining .hold .none .run).modes.ret ≠ .drain := by decide

theorem witness_ModeRequestsRefused_run :
    (draining .drain .standby .none).hears ∧ (draining .drain .standby .none).modes.mode = .drain
      ∧ (draining .drain .standby .none).modes.drain ≠ .ready
      ∧ (draining .hold .ready .drain).hears ∧ (draining .hold .ready .drain).modes.ret = .drain
      ∧ (alarmed .levelLow (draining .hold .ready .drain)).stopInForce = true
      ∧ (alarmed .levelLow (draining .hold .ready .drain)).modes.drain = .ready := by decide

theorem witness_DrainRequestsTaken :
    (withBoard .run board).hears ∧ (withBoard .run board).modes.mode = .run
      ∧ (withBoard .run board).extr.forcedDue = false ∧ (withBoard .run board).tracker.records ≠ []
      ∧ (inMode .run).tracker.records = [] ∧ (draining .drain .ready .none).modes.mode = .drain
      ∧ (draining .hold .none .run).modes.mode = .hold ∧ resting.modes.mode = .standby ∧ idle.modes.mode = .idle := by
  decide

theorem witness_RestingRequests :
    (inMode .ready).hears ∧ (inMode .ready).modes.mode = .ready ∧ (warming .zones).modes.mode = .warmup
      ∧ (inMode .safe).hears ∧ (inMode .safe).tracker.records = [] ∧ (inMode .safe).safeInForce = false := by decide

theorem witness_HoldAndResumeTaken :
    (withBoard .run board).hears ∧ (withBoard .run board).modes.holdPending = false
      ∧ (withBoard .run board).waveOccupied = false ∧ (withBoard .run board).extr.forcedDue = false
      ∧ (withBoard .run { board with inWave := true }).waveOccupied = true
      ∧ (traversing (.purge .park 0)).spray.running.isPurge = true ∧ (draining .hold .none .run).hears
      ∧ (draining .hold .none .run).spray.running.isPurge = false ∧ (draining .hold .none .run).modes.ret ≠ .drain
      ∧ (draining .hold .idle .drain).modes.ret = .drain ∧ (draining .hold .idle .drain).tracker.records ≠ [] := by decide

/-- The part in HOLD from a drain to a target, its last board gone. -/
def emptied (d : DrainTarget) : State :=
  let s := inMode .hold
  { s with modes := { s.modes with drain := d, ret := .drain } }

theorem witness_HoldAndResumeTaken_empty :
    (emptied .standby).hears ∧ (emptied .standby).modes.mode = .hold ∧ (emptied .standby).modes.ret = .drain
      ∧ (emptied .standby).spray.running.isPurge = false ∧ (emptied .standby).extr.forcedDue = false
      ∧ (emptied .standby).tracker.records = [] := by decide

/-- R18: RESUME with no board in transit completes the kept drain to IDLE. -/
theorem test_resume_completes :
    ∃ t, exec (.resume 1#8) (emptied .idle) = .next t ∧ t.modes.mode = .idle ∧ t.wave.output = 0 := ⟨_, rfl, by decide⟩

theorem witness_SelectSetTaken :
    idle.hears ∧ (0#8 : Byte).toNat ≤ 7 ∧ 7 < (8#8 : Byte).toNat ∧ (idle.store.work.set 0).item = .valid thermal
      ∧ idle.configured = true ∧ (allZones.all fun k => idle.zoneRating k != 0) = true ∧ idle.tracker.queue = []
      ∧ (idle.store.work.set 7).item = .empty ∧ (inMode .run).modes.mode = .run := by decide

theorem witness_StopSeverityDrainsRunAlone :
    severity .levelLow = .stop ∧ (withBoard .run board).condition .levelLow = false
      ∧ (withBoard .run board).extr.forcedDue = false ∧ (withBoard .run board).modes.mode = .run
      ∧ (withBoard .run board).tracker.records ≠ [] ∧ (inMode .run).tracker.records = []
      ∧ (inMode .ready).modes.mode ≠ .run := by decide

theorem witness_PotTripEntersSafe :
    (withBoard .run board).modes.mode ≠ .safe ∧ (withBoard .run board).condition .potOvertemp = false
      ∧ (searching .up 120).wave.phase = .search .up 120 0 ∧ (inMode .run).heat.pot.overMark = false := by decide

/-- A slot that an OPEN result has refreshed. -/
def opened : Slot := { value := none, standing := .opened, refreshed := some 0 }

theorem witness_PotTripEntersSafe_over :
    (let s := (inMode .ready).setSlot 6 (fresh 3001)
     (s.slot 6).standing = .fresh ∧ (s.slot 6).value = some 3001 ∧ s.configured = true ∧ (s.param 74 : Int) < 3001
       ∧ s.condition .potOvertemp = false ∧ s.modes.mode ≠ .safe)
    ∧ (((inMode .ready).setSlot 6 opened).slot 6).standing ≠ .fresh := by decide

theorem witness_HoldLimitDrains :
    (inMode .run).modes.mode ≠ .hold ∧ (draining .hold .none .run).modes.mode = .hold
      ∧ (draining .hold .none .run).tracker.records ≠ [] ∧ (draining .hold .none .run).extr.forcedDue = false
      ∧ (draining .hold .none .run).extr.fan = true ∧ (emptied .ready).extr.fan = true
      ∧ (emptied .ready).tracker.records = [] := by decide

/-- The part with the grace timer running. -/
def graced (s : State) : State := { s with extr := { s.extr with state := .failed, grace := .running 5 } }

theorem witness_GraceExpiryForcesStandby :
    (∀ n, (inMode .run).extr.grace ≠ .running n) ∧ (graced (inMode .ready)).extr.grace = .running 5
      ∧ (graced (inMode .ready)).extr.fan = true ∧ (graced (withBoard .run board)).tracker.records ≠ []
      ∧ (graced (draining .hold .idle .drain)).tracker.records ≠ []
      ∧ (graced (inMode .run)).modes.mode = .run ∧ (graced (inMode .run)).tracker.records = []
      ∧ (graced (inMode .run)).extr.fan = true ∧ (graced (emptied .ready)).modes.drain ≠ .idle
      ∧ (graced (emptied .idle)).modes.mode = .hold ∧ (graced (emptied .idle)).tracker.records = [] :=
  ⟨fun _ => nofun, by decide⟩

theorem witness_WarmUpTimersExpire :
    (warming .melt).modes.warm = some { WarmUp.fresh with stage := .melt } ∧ (warming .melt).supplyLow = false
      ∧ (warming .melt).condition .potWarmFail = false
      ∧ (let w : WarmUp := { WarmUp.fresh with
           stage := .zones, zonesEntered := true, timers := { Six.same .unstarted with z1 := .running 3 } }
         let s := (inMode .warmup).setModes { (inMode .warmup).modes with warm := some w }
         s.modes.warm = some w ∧ w.timers.get .z1 = .running 3 ∧ s.zoneInBand .z1 = false ∧ w.cursor = some .z1
           ∧ s.supplyLow = false) := by decide

theorem witness_SoakAndSettleEnd :
    (let s := warming .settle
     let t := s.setSlot 6 (fresh 2500)
     t.modes.mode = .warmup ∧ t.stage? = some .settle ∧ t.allInBand = true ∧ t.supplyLow = false
       ∧ t.extr.forcedDue = false)
    ∧ (let s := { warming .melt with pot := { PotCtl.afterReset with soak := .soaking 9 } }
       s.modes.mode = .warmup ∧ s.modes.warm = some { WarmUp.fresh with stage := .melt } ∧ s.pot.soak = .soaking 9
         ∧ s.supplyLow = false) := by decide

/-- The pot's result reaches melt-safe, stays below it, or is a little below it. -/
theorem witness_SoakAndSettleEnd_result :
    (let s := { (warming .melt).setSlot 6 (fresh 2200) with pot := { PotCtl.afterReset with soak := .waiting } }
     (s.slot 6).standing = .fresh ∧ (s.slot 6).value = some 2200 ∧ s.configured = true ∧ s.heat.pot.tripInput = false
       ∧ (2200 : Int) ≤ (s.param 74 : Int) ∧ (s.meltSafe : Int) ≤ 2200 ∧ s.pot.soak = .waiting)
    ∧ (let s := { (warming .melt).setSlot 6 (fresh 2199) with pot := { PotCtl.afterReset with soak := .soaking 9 } }
       (2199 : Int) < (s.meltSafe : Int) ∧ s.pot.molten = false ∧ s.pot.soak = .soaking 9)
    ∧ (let s := (inMode .run).setSlot 6 (fresh 2150)
       (2150 : Int) < (s.meltSafe : Int) ∧ (s.meltSafe : Int) - 50 ≤ 2150 ∧ s.pot.molten = true)
    ∧ ((inMode .run).slot 6).standing = .stale := by decide

/-- POT_MOLTEN is lost, by an OPEN result or by one more than 5.0 °C below melt-safe, in each mode that reacts. -/
theorem witness_SoakAndSettleEnd_lost :
    (let s := (inMode .run).setSlot 6 opened
     (s.slot 6).standing = .opened ∧ s.pot.molten = true ∧ s.modes.mode = .run ∧ s.wave.phase = .none
       ∧ s.condition .potCold = false)
    ∧ (let s := (inMode .ready).setSlot 6 (fresh 2149)
       (s.slot 6).standing = .fresh ∧ (s.slot 6).value = some 2149 ∧ s.configured = true ∧ s.heat.pot.tripInput = false
         ∧ (2149 : Int) ≤ (s.param 74 : Int) ∧ (2149 : Int) < (s.meltSafe : Int) - 50 ∧ s.pot.molten = true
         ∧ s.wave.phase = .none ∧ s.modes.mode = .ready)
    ∧ (let s := (searching .up 150).setSlot 6 opened
       s.wave.phase = .search .up 150 0 ∧ s.modes.mode = .calibrating ∧ s.extr.forcedDue = false ∧ s.pot.molten = true)
    ∧ (let s := (warming .zones).setSlot 6 opened
       s.modes.mode = .warmup ∧ s.stage? = some .zones ∧ s.pot.molten = true ∧ s.wave.phase = .none)
    ∧ (let s := (warming .extraction).setSlot 6 opened
       s.stage? = some .extraction ∧ s.pot.molten = true ∧ s.wave.phase = .none)
    ∧ (let s := resting.setSlot 6 opened
       s.modes.mode = .standby ∧ s.pot.molten = true ∧ s.wave.phase = .none) := by decide

theorem witness_ModeItemsStayFitting :
    ({ resting with pending := [.shutdown 1#8] } : State).modes.shaped
      ∧ ({ resting with pending := [.shutdown 1#8] } : State).fanFollows
      ∧ ({ resting with pending := [.shutdown 1#8] } : State).forcedSettled
      ∧ ∃ t, step { resting with pending := [.shutdown 1#8] } = .next t := ⟨by decide, by decide, by decide, _, rfl⟩

theorem witness_AnnounceChecksAndJoins :
    (inMode .run).hears ∧ modeAllows .announce (inMode .run).modes.mode = true ∧ (65535#16 : Word16).toNat ≠ 0
      ∧ (31#8 : Byte).toNat < 32 ∧ (1#8 : Byte).toNat < 2 ∧ (inMode .run).announced 65535 = false
      ∧ (inMode .run).inTransit 65535 = false ∧ (inMode .run).freePlaces ≠ 0
      ∧ ((inMode .run).store.work.recipe 0).item = .valid (recipeOfFields sampleRecipe)
      ∧ ((inMode .run).store.work.recipe 31).item = .empty ∧ (inMode .run).modes.activeSet = some 0
      ∧ (recipeOfFields sampleRecipe).set = 0 ∧ (withBoard .run board).inTransit 7 = true := by decide

/-- The part in RUN with one announcement. -/
def announced : State :=
  let s := inMode .run
  { s with tracker := { s.tracker with queue := [⟨7, 0, .normal⟩] } }

theorem witness_WithdrawTakesOneOut :
    announced.hears ∧ announced.modes.mode ≠ .calibrating ∧ announced.announced 7 = true
      ∧ (withBoard .run board).announced 7 = false ∧ (withBoard .run board).inTransit 7 = true
      ∧ (inMode .run).announced 7 = false ∧ (inMode .run).inTransit 7 = false := by decide

theorem witness_StopperEdgeOpensTheGate :
    (announced.setTracker { announced.tracker with stopper := true }).mayAdmit = true
      ∧ announced.tracker.queue = [⟨7, 0, .normal⟩] ∧ announced.maps.buffers.get .b0 = none
      ∧ (announced.setTracker { announced.tracker with stopper := false }).mayAdmit = false := by decide

/-- The nine conditions, and the composition order empty with the tag new in the machine. -/
theorem witness_StopperEdgeOpensTheGate_nine :
    announced.modes.mode = .run ∧ announced.modes.holdPending = false ∧ announced.tracker.admission = none
      ∧ announced.tracker.gapRef = none ∧ announced.tracker.records.length < 12
      ∧ announced.tracker.records.length + announced.reports.queue.length < 16
      ∧ (allAlarms.all fun k => (announced.alarm k).state == .clear) = true ∧ announced.extr.state = .proven
      ∧ announced.maps.order = [] ∧ announced.maps.working = none ∧ announced.store.op = none
      ∧ announced.inTransit 7 = false := by decide

/-- R36: an advance of exactly G_min × K counts past the gap reference passes, and one count less does not. -/
theorem test_gap :
    let s := fun (n : Count24) => announced.setTracker { announced.tracker with stopper := true, gapRef := some 0#24, count := n }
    (s 1000#24).mayAdmit = true ∧ (s 999#24).mayAdmit = false := by decide

theorem witness_EncoderStepCounts : (inMode .run).tracker.records = [] := by decide

/-- The part in RUN with a board, at an encoder count. -/
def atCount (n : Count24) (r : Record) : State :=
  let s := withBoard .run r
  s.setTracker { s.tracker with count := n }

/-- A record and its step onto each kind of threshold: a sample point with the board under the pyrometer, the board past it, the
wave window, and a zone. -/
theorem witness_EncoderStepCounts_stages :
    (withBoard .run board).tagsDistinct ∧ board.entry = some 0 ∧ board ∈ (withBoard .run board).tracker.records
      ∧ (let s := atCount 34399#24 board
         let d : Int := 34400
         (s.tracker.count + 1 - 0).toInt = d ∧ (d - s.pyroLine * s.kScale) % (20 * s.kScale) = 0
           ∧ (board.pointsCrossed : Int) ≤ (d - s.pyroLine * s.kScale) / (20 * s.kScale)
           ∧ d - s.boardCounts board < s.pyroLine * s.kScale)
      ∧ (let s := atCount 38799#24 board
         let d : Int := 38800
         (s.tracker.count + 1 - 0).toInt = d ∧ (d - s.pyroLine * s.kScale) % (20 * s.kScale) = 0
           ∧ (board.pointsCrossed : Int) ≤ (d - s.pyroLine * s.kScale) / (20 * s.kScale)
           ∧ ¬ d - s.boardCounts board < s.pyroLine * s.kScale)
      ∧ (let s := atCount 39999#24 board
         s.pyroLine * s.kScale ≤ 40000 - s.boardCounts board ∧ board.pyroDone = false)
      ∧ (let s := atCount 39999#24 board
         (((s.waveCentre : Int) - s.waveHalf) * s.kScale < 40000
           ∧ 40000 - s.boardCounts board < ((s.waveCentre : Int) + s.waveHalf) * s.kScale)
           ∧ board.inWave = false ∧ board.waveDone = false)
      ∧ (let s := atCount 12000#24 board
         (s.zoneStart .z1 * s.kScale : Nat) < 12001 ∧ s.zoneRating .z1 ≠ 0 ∧ board.zonesDone.get .z1 = false) := by decide

theorem witness_EncoderStepCounts_counts : (withBoard .run board).countsFit :=
  ⟨fun k => by cases k <;> decide, by decide⟩

/-- A pending hold with the board about to leave the wave window, an overrun of a matched record, and a missing record. -/
theorem witness_EncoderStepCounts_ends :
    (let s := atCount 76999#24 { board with matched := true, waveDone := true, pyroDone := true, nextRow := 23 }
     s.tagsDistinct ∧ ((s.exitLine + s.exitTol) * s.kScale : Nat) ≤ 77000 - s.boardCounts board)
    ∧ (let s := atCount 72400#24 { board with waveDone := true, pyroDone := true, nextRow := 23 }
       s.tagsDistinct ∧ ((s.exitLine + s.exitTol) * s.kScale : Nat) < 72401)
    ∧ (let s := atCount 45599#24 { board with inWave := true, pyroDone := true, nextRow := 23 }
       s.waveOccupied = true
         ∧ ((s.waveCentre : Int) + s.waveHalf) * s.kScale ≤ 45600 - s.boardCounts board) := by decide

/-- R47: at a sample point reached with the trailing edge past the line the tracker does not act, and the next-sample index stays;
at the point before it does. -/
theorem test_point_without_sample :
    let s := (inMode .run).setSlot 12 (fresh 1000)
    (pyroStep s 38800 4600 board).nextSample = 0 ∧ (pyroStep s 38800 4600 board).peak = none
      ∧ (pyroStep s 38400 4600 board).nextSample = 12 ∧ (pyroStep s 38400 4600 board).peak = some 1000 := by decide

/-- R28: a point crossed without a sample is not sampled when a longer board crosses it again. -/
theorem test_point_crossed_once :
    let s := (inMode .run).setSlot 12 (fresh 1000)
    (pyroStep s 38800 5600 (pyroStep s 38800 4600 board)).peak = none
      ∧ (pyroStep s 38800 5600 board).peak = some 1000 := by decide

/-- A map buffer of board 7, composing or with its spans. -/
def rowsBuffer (composing : Bool) : MapBuffer :=
  { owner := 7, composing := composing, rows := 23, cols := 10, cells := [], spans := [none, some (0, 4)], resolved := 0 }

/-- The part with row 1 of board 7 at the spray line. -/
def rowDue (m : Mode) (composing : Bool) (nextRow : Nat) (run : Running) (queue : List StrokeEntry) : State :=
  let s := withBoard m { board with nextRow := nextRow }
  let t := s.setTracker { s.tracker with count := 7200#24 }
  { t with
    maps := { t.maps with buffers := ⟨some (rowsBuffer composing), none, none, none⟩ }
    spray := { t.spray with running := run, queue := queue }
    scan := { t.scan with slots := t.scan.slots.set 11 (fresh 200) } }

/-- A queued row of board 7. -/
def queued (front : Nat) : StrokeEntry := { tag := 7, buffer := .b0, row := 2, front := front, first := 0, last := 4 }

theorem witness_EncoderStepCounts_rows :
    (let s := rowDue .run false 1 .idle []
     let r := { board with nextRow := 1 }
     s.record? 7 = some r ∧ s.position r = some 7200 ∧ r.buffer = some .b0
       ∧ s.maps.buffers.get .b0 = some (rowsBuffer false) ∧ r.nextRow < r.rowsTotal
       ∧ ((s.sprayLine + 10 * r.nextRow) * s.kScale : Nat) ≤ 7200 ∧ (rowsBuffer false).spans.getD 1 none = some (0, 4)
       ∧ s.modes.mode ≠ .safe ∧ s.spray.running = .idle ∧ s.extr.state = .proven
       ∧ 7200 - (s.sprayLine + 10) * s.kScale ≤ s.sprayReach * s.kScale ∧ (s.minFluxPressure : Int) ≤ 200)
    ∧ (rowsBuffer true).composing = true ∧ (rowsBuffer false).spans.getD 0 none = none
    ∧ (rowDue .run false 0 .idle []).record? 7 = some { board with nextRow := 0 }
    ∧ (rowDue .safe false 1 .idle []).modes.mode = .safe
    ∧ (rowDue .run false 1 (.stroke stroke) [queued 0]).spray.queue.length < 4
    ∧ 4 ≤ (rowDue .run false 1 (.stroke stroke) (List.replicate 4 (queued 0))).spray.queue.length := by decide

/-- The part in RUN with the admission of board 7 in progress. -/
def admitting (r : Record) : State :=
  let s := withBoard .run r
  { s with tracker := { s.tracker with admission := some ⟨7, some 4⟩, gateOpen := true, conveyorRun := true } }

/-- R3: a drain that a missing board completes into IDLE with the gate open closes the gate. -/
theorem test_drain_closes_gate :
    let s := admitting { board with pyroDone := true, waveDone := true, nextRow := 23 }
    let u := { s with
      tracker := { s.tracker with count := 72400#24 }, modes := { s.modes with mode := .drain, drain := .idle } }
    ∃ t, exec (.encoderStep true) u = .next t ∧ t.modes.mode = .idle ∧ t.tracker.gateOpen = false := ⟨_, rfl, by decide⟩

/-- R14, R20: the same with the drain targets READY and STANDBY. -/
theorem test_drain_closes_gate_ready :
    let s := admitting { board with pyroDone := true, waveDone := true, nextRow := 23 }
    let u := fun d => { s with
      tracker := { s.tracker with count := 72400#24 }, modes := { s.modes with mode := .drain, drain := d } }
    (∃ t, exec (.encoderStep true) (u .ready) = .next t ∧ t.modes.mode = .ready ∧ t.tracker.gateOpen = false)
      ∧ ∃ t, exec (.encoderStep true) (u .standby) = .next t ∧ t.modes.mode = .standby ∧ t.tracker.gateOpen = false :=
  ⟨⟨_, rfl, by decide⟩, _, rfl, by decide⟩

/-- The record of board 7 as the gate has opened. -/
def entering : Record := newRecord ⟨7, 0, .normal⟩ .b0 23

theorem witness_EntryEdgesOutsideAnAdmission :
    (withBoard .run board).tracker.admission = none ∧ (admitting entering).tracker.admission = some ⟨7, some 4⟩
      ∧ (admitting entering).record? 7 = some entering ∧ entering.stage = .entering := by decide

theorem witness_EntryEdgesOutsideAnAdmission_ignored :
    (admitting board).tracker.admission = some ⟨7, some 4⟩ ∧ (admitting board).record? 7 = some board
      ∧ board.stage ≠ .entering
      ∧ (let s := (inMode .run).setTracker { (inMode .run).tracker with admission := some ⟨7, none⟩ }
         s.tracker.admission = some ⟨7, none⟩ ∧ s.record? 7 = none) := by decide

theorem witness_AdmittedBoardsEdges :
    (admitting entering).tracker.admission = some ⟨7, some 4⟩ ∧ (admitting entering).record? 7 = some entering
      ∧ entering.stage = .entering ∧ (admitting board).record? 7 = some board ∧ board.stage ≠ .entering
      ∧ (admitting board).position board = some 4620 := by decide

theorem witness_EntryTimeoutReturnsTheAnnouncement :
    (admitting entering).tracker.admission = some { tag := 7, timer := some 4 }
      ∧ (admitting entering).record? 7 = some entering ∧ (admitting entering).tracker.conveyorRun = true := by decide

/-- A board at the exit sensor. -/
def leaving (m : Bool) : State :=
  let s := withBoard .run { board with matched := m }
  { s with tracker := { s.tracker with count := 72000#24 } }

theorem witness_ExitSensorMatchesAndReports :
    (leaving false).exitCandidate? = some { board with matched := false } ∧ (inMode .run).exitCandidate? = none
      ∧ (inMode .run).tracker.records.find? (·.matched) = none
      ∧ (leaving true).tracker.records.find? (·.matched) = some { board with matched := true }
      ∧ (leaving true).record? 7 = some { board with matched := true } := by decide

theorem witness_SpeedWindowJudges :
    (admitting board).extr.forcedDue = false ∧ (admitting board).tracker.conveyorRun = true
      ∧ (admitting board).tracker.windowFirst = true ∧ (inMode .hold).tracker.conveyorRun = false
      ∧ (let s := admitting board
         (s.setTracker { s.tracker with windowFirst := false }).tracker.windowFirst = false) := by decide

theorem witness_TablesStayWithinTheirBounds :
    (withBoard .run board).withinCapacity ∧ (withBoard .run board).tagsDistinct ∧ (withBoard .run board).complete
      ∧ ∃ t, step { withBoard .run board with pending := [.exitSensorFall] } = .next t :=
  ⟨by decide, by decide, by decide, _, rfl⟩

theorem witness_TablesStayWithinTheirBounds_places :
    (admitting entering).tagsDistinct ∧ (admitting entering).placesFit
      ∧ ∃ t, step { admitting entering with pending := [.entryTimerExpiry] } = .next t ∧ t.tracker.queue.length = 1 :=
  ⟨by decide, by decide, _, rfl, by decide⟩

theorem witness_TablesStayWithinTheirBounds_counts :
    (leaving true).countsFit ∧ ∃ t, step { leaving true with pending := [.exitSensorFall] } = .next t ∧ t.reports.next = 1 :=
  ⟨⟨fun k => by cases k <;> decide, by decide⟩, _, rfl, by decide⟩

/-- The part with a single shot of the channels 14 to 0 at a cursor. -/
def shooting (c : Nat) : State :=
  let s := owing .measure
  { s with scan := { s.scan with activity := .single, single := some { first := 14, last := 0, cursor := c, taken := [] } } }

theorem witness_MeasureConverts :
    idle.hears ∧ (15#8 : Byte).toNat ≤ 15 ∧ ¬ (16#8 : Byte).toNat ≤ 15 ∧ (inMode .run).scan.activity ≠ .single
      ∧ (shooting 15).scan.activity = .single
      ∧ (shooting 15).scan.single = some { first := 14, last := 0, cursor := 15, taken := [] }
      ∧ (shooting 0).link.owed = some (0x07#8, 9#8) := by decide

theorem witness_MeasureConverts_counts :
    (shooting 14).scan.activity = .single ∧ (shooting 14).scan.single.map (·.cursor) = some 14
      ∧ (shooting 14).scan.single.map (·.last) = some 0 := by decide

/-- R156: 65,535 counts of channel 14 are over-range, and 65,534 are not. -/
theorem test_counts_over_range :
    (shooting 14).shotOf 14 ⟨false, some 65535⟩ = { channel := 14, value := none, standing := .stale }
      ∧ (shooting 14).shotOf 14 ⟨false, some 65534⟩ = { channel := 14, value := some 65534, standing := .fresh }
      ∧ (shooting 14).shotOf 14 ⟨false, some 0⟩ = { channel := 14, value := none, standing := .stale } := by decide

/-- The part in READY scanning a channel, with zone Z1 active. -/
def scanning (c : Nat) (fault : Bool) : State :=
  let s := inMode .ready
  let t := s.updZone .z1 (fun z => { z with presence := .present, started := true })
  { t with scan := { t.scan with activity := .control, cursor := c, refFault := fault, slots := t.scan.slots.set 13 (fresh 250) } }

theorem witness_ControlConversionEnds :
    (inMode .run).scan.activity ≠ .control ∧ (scanning 0 false).scan.activity = .control
      ∧ (scanning 6 true).scan.refFault = true ∧ (scanning 6 false).scan.cursor ≤ 6 ∧ 6 < (scanning 7 false).scan.cursor
      ∧ ((scanning 6 false).slot 13).freshValue = some 250 ∧ ((inMode .run).slot 13).freshValue = none
      ∧ (scanning 15 false).scan.cursor = 15 ∧ (scanning 0 false).modes.mode = .ready
      ∧ (scanning 0 false).scan.cursor = zoneIndex .z1 ∧ (scanning 0 false).scan.slots.length = 16
      ∧ (scanning 0 false).zoneActive .z1 = true ∧ (scanning 0 false).anyOver = false
      ∧ (scanning 0 false).overReference .z1 = some 1600 ∧ (1500 + 250 : Int) ≤ 1600 + (scanning 0 false).zoneMargin .z1 := by
  decide

/-- The owners of channels 0 to 6: a FRESH result over the margin and within it, an OPEN one, IDLE, no reference, and a judgement
that waits after a RESTART. -/
theorem witness_ControlConversionEnds_loops :
    (let s := (scanning 0 false).setSlot 0 (fresh 1600)
     (s.slot 0).standing = .fresh ∧ (s.slot 0).value = some 1600 ∧ s.modes.mode ≠ .idle ∧ s.zoneRating .z1 ≠ 0
       ∧ (s.zone .z1).presence = .present ∧ s.overReference .z1 = some 1600 ∧ s.zoneActive .z1 = true
       ∧ (allZones.all fun j => !(s.zone j).overMark) = true ∧ (1600 : Int) ≤ 1600 + s.zoneMargin .z1
       ∧ (allZones.all fun j => (s.zone j).last != .opened) = true ∧ s.condition .zoneOvertemp = false
       ∧ s.modes.mode ≠ .safe ∧ (1600 : Int) + s.zoneMargin .z1 < 2601)
    ∧ (((scanning 0 false).setSlot 0 opened).slot 0).standing = .opened ∧ (scanning 0 false).modes.mode ≠ .run
    ∧ idle.modes.mode = .idle ∧ State.reset.overReference .z1 = none
    ∧ (let s := (scanning 0 false).setHeat { (scanning 0 false).heat with sensorWaits := true }
       let t := s.updZone .z2 (fun z => { z with presence := .present })
       t.heat.sensorWaits = true ∧ t.zoneRating .z2 ≠ 0 ∧ (t.zone .z2).presence = .present ∧ (t.zone .z2).last = .none)
    ∧ (let s := (inMode .ready).setSlot 6 (fresh 2450)
       s.potActive = true ∧ s.heat.pot.tripInput = false ∧ (2450 : Int) ≤ (s.param 74 : Int)
         ∧ (s.meltSafe : Int) - 50 ≤ 2450 ∧ (s.slot 6).standing = .fresh ∧ (s.slot 6).value = some 2450)
    ∧ (inMode .ready).potActive = true ∧ ((inMode .ready).slot 6).standing ≠ .fresh := by decide

theorem witness_ControlConversionEnds_counts :
    (scanning 14 false).scan.activity = .control ∧ (scanning 14 false).scan.cursor = 14
      ∧ (scanning 14 false).scan.refFault = false ∧ (scanning 15 false).scan.slots.length = 16
      ∧ (some (65535 : Int)).filter (fun v => decide (14 < 14 ∨ (0 < v ∧ v < 65535))) = none := by decide

/-- The owners of channels 7 and 10: a level below the minimum and one at a working height, with the wave off and on, a hold in
progress, a pot not molten; a supply judged low, judged low already, and judged well. -/
theorem witness_ControlConversionEnds_level :
    (let s := (inMode .run).setSlot 7 (fresh 1119)
     (s.slot 7).standing = .fresh ∧ (s.slot 7).value = some 1119 ∧ s.pot.molten = true ∧ s.pot.driveHold = none
       ∧ s.condition .levelLow = false ∧ s.configured = true ∧ (1119 : Int) < (s.param 84 : Int))
    ∧ (let s := (inMode .run).setSlot 7 (fresh 1180)
       let d := (clampDrive s.minDrive (rawDrive 142 1200 (s.activeField (·.waveHeight)) (s.param 76) (s.param 77) 1180)).1
       ¬ (1180 : Int) < (s.param 84 : Int) ∧ s.modes.mode = .run ∧ d ≠ s.wave.output
         ∧ s.driveThreshold ≤ ((d : Int) - s.pot.refDrive).natAbs
         ∧ ¬ s.driveThreshold ≤ ((d : Int) - (d : Int)).natAbs)
    ∧ (inMode .ready).modes.mode ≠ .run ∧ ((inMode .ready).slot 7).standing ≠ .fresh
    ∧ ({ inMode .ready with pot := PotCtl.afterReset } : State).pot.molten = false
    ∧ (let s := (inMode .run).setSlot 10 (fresh 230)
       (s.slot 10).freshValue = some 230 ∧ ¬ (230 : Int) < (s.param 35 : Int))
    ∧ ((inMode .run).slot 10).freshValue = none ∧ (inMode .run).modes.mode ≠ .idle ∧ (inMode .run).supplyLow = false
    ∧ (alarmed .supplyLow (inMode .ready)).supplyLow = true := by decide

theorem witness_StaleMarkingsAndBurnoutTests :
    ((inMode .run).slot 13).standing = .stale ∧ ((scanning 0 false).slot 13).standing ≠ .stale
      ∧ (inMode .run).scan.activity = .startUp ∧ (inMode .run).store.checking = false
      ∧ (inMode .run).scan.burnout = zoneIndex .z1 ∧ State.reset.store.checking = true := by decide

theorem witness_StaleMarkingsAndBurnoutTests_compensation :
    (let s := (scanning 0 false).setSlot 0 (fresh 1600)
     (s.slot (13 : Fin 16).val).standing ≠ .stale ∧ (s.slot 0).standing = .fresh ∧ (s.slot 1).standing = .stale) := by decide

/-- R159: a marking of channel 13 takes the FRESH slots of the thermocouples with it. -/
theorem test_compensation_lost :
    ∃ t, exec (.staleMarking 13) ((scanning 0 false).setSlot 0 (fresh 1600)) = .next t ∧ (t.slot 0).standing = .stale
      ∧ (t.slot 0).value = some 1600 := ⟨_, rfl, by decide⟩

theorem witness_PurgeTaken :
    (inMode .ready).hears ∧ (inMode .ready).modes.mode = .ready ∧ (inMode .ready).spray.running = .idle
      ∧ (inMode .ready).spray.queue = [] ∧ (inMode .ready).extr.state = .proven
      ∧ (traversing (.purge .park 3)).hears ∧ (traversing (.purge .park 3)).modes.mode = .hold
      ∧ (traversing (.purge .park 3)).spray.running ≠ .idle ∧ (inMode .run).modes.mode = .run
      ∧ (inMode .ready).spray.position ≠ some 0 ∧ (traversing .idle).spray.position = some 0
      ∧ (traversing .idle).hears ∧ (traversing .idle).modes.mode = .hold ∧ (traversing .idle).spray.queue = [] := by decide

theorem witness_TraverseRuns :
    (traversing (.purge .park 3)).spray.running = .purge .park 3
      ∧ (traversing (.purge .flush 3)).spray.running = .purge .flush 3 ∧ (traversing (.purge .flush 3)).spray.queue = []
      ∧ (traversing (.stroke stroke)).spray.running = .stroke stroke ∧ stroke.phase = .crossing
      ∧ stroke.entered < stroke.last + 1 - stroke.first ∧ ({ stroke with phase := .homing } : Stroke).phase = .homing
      ∧ ({ stroke with phase := .reposition } : Stroke).phase = .reposition
      ∧ ({ stroke with openTime := some 120 } : Stroke).openTime = some 120
      ∧ (traversing (.stroke stroke)).spray.queue = [] := by decide

/-- The part with rows waiting behind a running traverse. -/
def waiting (m : Mode) (r : Running) (queue : List StrokeEntry) (pressure : Int) : State :=
  let s := (traversing r).setSlot 11 (fresh pressure)
  { s with modes := { s.modes with mode := m }, spray := { s.spray with queue := queue } }

theorem witness_TraverseRuns_queue :
    (let s := waiting .hold (.stroke stroke) [queued 0, queued 4620] 200
     s.spray.queue = [queued 0] ++ queued 4620 :: [] ∧ s.modes.mode ≠ .safe ∧ s.extr.state = .proven
       ∧ (s.record? 7).bind s.position = some 4620 ∧ ¬ (4620 : Int) - (queued 0).front ≤ (s.sprayReach * s.kScale : Nat)
       ∧ (4620 : Int) - (queued 4620).front ≤ (s.sprayReach * s.kScale : Nat)
       ∧ (s.slot 11).freshValue = some 200 ∧ (s.minFluxPressure : Int) ≤ 200 ∧ (queued 4620).first ≤ (queued 4620).last
       ∧ s.spray.running = .stroke stroke ∧ stroke.phase = .crossing)
    ∧ ¬ ((waiting .hold (.stroke stroke) [queued 4620] 99).minFluxPressure : Int) ≤ 99
    ∧ (waiting .safe (.purge .flush 3) [queued 4620] 200).modes.mode = .safe
    ∧ (waiting .hold (.purge .flush 3) [queued 0] 200).spray.running = .purge .flush 3 := by decide

/-- The part composing the map of board 7. -/
def composing : State :=
  let s := withBoard .run board
  { s with maps := { s.maps with order := [.b0], working := some ⟨4, exampleRects⟩ } }

theorem witness_CompositionCompletes :
    (inMode .run).maps.order = [] ∧ composing.maps.order = [.b0] ∧ composing.maps.working = some ⟨4, exampleRects⟩
      ∧ (composing.maps.buffers.get .b0).isSome = true := by decide

/-- The part composing, with a second buffer of board 9 waiting. -/
def composingTwo : State :=
  let s := composing
  let m : MapBuffer := { owner := 9, composing := true, rows := 23, cols := 10, cells := [], spans := [], resolved := 0 }
  { s with
    tracker := { s.tracker with records := s.tracker.records ++ [newRecord ⟨9, 0, .normal⟩ .b1 23] }
    maps := { s.maps with buffers := s.maps.buffers.set .b1 (some m), order := [.b0, .b1] } }

theorem witness_CompositionCompletes_next :
    composingTwo.maps.order = .b0 :: .b1 :: [] ∧ (composingTwo.maps.buffers.get .b0).isSome = true
      ∧ composingTwo.maps.working = some ⟨4, exampleRects⟩ ∧ composingTwo.store.op = none
      ∧ (composingTwo.maps.buffers.get .b1).map (·.owner) = some 9
      ∧ composingTwo.record? 9 = some (newRecord ⟨9, 0, .normal⟩ .b1 23) := by decide

/-- R59: the next buffer's composition starts from its own recipe, or waits for a store operation. -/
theorem test_next_composition :
    (∃ t, exec .compositionComplete composingTwo = .next t
      ∧ t.maps.working = some { base := 4, rects := (recipeOfFields sampleRecipe).rects })
    ∧ ∃ t, exec .compositionComplete
        { composingTwo with store := { composingTwo.store with op := some (.eraseRecipe 3) } } = .next t
      ∧ t.maps.working = none := ⟨⟨_, rfl, by decide⟩, _, rfl, by decide⟩

theorem witness_ComposedCellsFollowTheirRectangles :
    5 < (composeCells 6 5 ⟨4, exampleRects⟩).length ∧ (4 : Nat) < 5 := by decide

theorem witness_SlotsAndFrames :
    (inMode .run).heat.frameSlot < 255
      ∧ (let s := inMode .run
         let t := s.setHeat { s.heat with frameSlot := 255 }
         255 ≤ t.heat.frameSlot ∧ t.modes.mode ≠ .idle ∧ t.modes.mode ≠ .safe ∧ t.supplyLow = false
           ∧ t.potRating * t.heat.pot.demand ≤ t.budget * 256) := by decide

theorem witness_GrantFiresItsShare :
    (256 : Nat) ≤ 256 ∧ ∃ t, exec .halfCycleSlotEnd (inMode .run) = .next t := ⟨by decide, _, rfl⟩

theorem witness_TrimTaken :
    (inMode .run).hears ∧ (inMode .run).modes.mode ≠ .calibrating ∧ (0#8 : Byte).toNat = 0 ∧ 6 < (7#8 : Byte).toNat
      ∧ (6#8 : Byte).toNat = zoneIndex .z6 + 1 ∧ (inMode .run).zoneRating .z6 ≠ 0 ∧ State.reset.zoneRating .z6 = 0 := by
  decide

theorem witness_CalibrationSearch :
    (inMode .ready).hears ∧ (inMode .ready).modes.mode = .ready ∧ (inMode .ready).store.key = true
      ∧ (inMode .ready).pot.molten = true ∧ (searching .down 150).modes.mode = .calibrating
      ∧ (searching .down 150).pot.molten = true ∧ (searching .down 150).extr.forcedDue = false
      ∧ (searching .down 150).wave.phase = .search .down 150 0 ∧ (searching .down 150).param 78 < 150
      ∧ 100 ≤ (searching .down 100).param 78 ∧ 247 + (searching .up 247).param 80 ≤ 255
      ∧ 255 < 248 + (searching .up 248).param 80 ∧ (searching .up 142).pot.standing = .live
      ∧ (searching .up 142).pot.level = some 1200 := by decide

theorem witness_CalAbortEndsTheSearch :
    (inMode .run).hears ∧ (inMode .run).modes.mode ≠ .calibrating ∧ (searching .up 150).hears
      ∧ (searching .up 150).modes.mode = .calibrating ∧ (searching .up 150).wave.phase = .search .up 150 0
      ∧ (searching .up 150).extr.fan = true ∧ (searching .up 150).extr.forcedDue = false
      ∧ (let s := searching .up 150
         (s.setWave { s.wave with phase := .writing 150 1200 }).wave.phase = .writing 150 1200) := by decide

/-- The part in READY in an extraction state with every timer of the table running. -/
def timed (e : ExtState) : State :=
  let s := inMode .ready
  { s with extr := { s.extr with
      state := e, prove := some 1, qualify := some 1, warn := some 1, fail := some 1, feedbackTimer := some 1, recover := some 1 } }

theorem witness_ExtractionTimersExpire :
    (timed .proven).fanFollows ∧ (timed .proven).forcedSettled ∧ (timed .proven).valvesSafe
      ∧ (timed .proven).extr.state ∈ [ExtState.proven, .warn] ∧ (timed .proven).extr.fail.isSome = true
      ∧ (timed .proving).extr.prove.isSome = true ∧ (timed .warn).extr.recover.isSome = true
      ∧ (inMode .ready).extr.prove = none ∧ (inMode .ready).pot.fumeJudged = false := by decide

/-- The part in WARMUP in stage EXTRACTION, its duct qualifying. -/
def qualifying (kept : Bool) : State :=
  let s := warming .extraction
  { s with
    modes := { s.modes with meltKept := kept }
    extr := { s.extr with state := .proving, prove := some 1, qualify := some 1 } }

theorem witness_ExtractionTimersExpire_warmup :
    (qualifying true).fanFollows ∧ (qualifying true).forcedSettled ∧ (qualifying true).valvesSafe
      ∧ (qualifying true).extr.state ∈ [ExtState.proving, .failed] ∧ (qualifying true).extr.qualify.isSome = true
      ∧ (qualifying true).modes.mode = .warmup ∧ (qualifying true).stage? = some .extraction
      ∧ (qualifying true).modes.meltKept = true ∧ (qualifying false).modes.meltKept = false
      ∧ (qualifying false).fanFollows ∧ (qualifying false).forcedSettled ∧ (qualifying false).valvesSafe
      ∧ (qualifying false).extr.prove.isSome = true ∧ (warming .melt).stage? ≠ some .extraction := by decide

/-- R5, R148: the duct proves and stage EXTRACTION ends. -/
theorem test_duct_proves :
    ∃ t, exec .qualifyTimerExpiry (qualifying false) = .next t ∧ t.stage? = some .melt ∧ t.extr.state = .proven :=
  ⟨_, rfl, by decide⟩

theorem witness_ExtractionTimersExpire_fume :
    (((inMode .run).setSlot 6 (fresh 1500)).slot 6).freshValue = some 1500 ∧ (inMode .run).configured = true
      ∧ State.reset.configured = false := by decide

theorem witness_EventsOfOneBlock :
    (let s := inMode .run
     let t := s.setPot { s.pot with feeder := .running 1180 9 }
     t.pot.feeder = .running 1180 9 ∧ t.pot.standing = .live ∧ s.pot.feeder = .off)
    ∧ (let s := inMode .run
       (s.setExtr { s.extr with clog := some 7 }).extr.clog = some 7 ∧ s.extr.clog = none
         ∧ s.condition .filterClog = false) := by decide

theorem witness_EventsOfOneBlock_channels :
    (let s := (timed .proven).setSlot 8 (fresh 500)
     (s.slot 8).freshValue = some 500 ∧ s.extr.state = .proven)
    ∧ ((timed .warn).slot 8).freshValue = none ∧ (timed .warn).extr.state = .warn ∧ (timed .proving).extr.state = .proving
    ∧ (let s := (inMode .run).setSlot 9 (fresh 301)
       (s.slot 9).freshValue = some 301 ∧ s.extr.fan = true ∧ s.configured = true)
    ∧ ((inMode .run).slot 9).freshValue = none
    ∧ (let s := (inMode .run).setSlot 11 (fresh 200)
       (s.slot 11).freshValue = some 200 ∧ (s.minFluxPressure : Int) ≤ 200)
    ∧ 12 ≤ (12 : Nat) := by decide

/-- A completion report. -/
def report : Report := makeReport 0 0 false board

theorem witness_ReportTakeGivesTheOldest :
    idle.hears ∧ idle.reports.queue = []
      ∧ ({ idle with reports := { queue := [report], next := 1 } } : State).reports.queue = [report] := by decide

theorem witness_AlarmAckFollowsItsTable :
    (alarmed .storeFault idle).hears ∧ (21#8 : Byte).toNat = alarmNumber .storeFault ∧ 21 < (22#8 : Byte).toNat
      ∧ (0#8 : Byte).toNat = 0 := by decide

theorem witness_AlertModeTaken :
    idle.hears ∧ idle.modes.mode ≠ .calibrating ∧ (3#8 : Byte).toNat = alertModeNumber .pulseBoth ∧ 3 < (4#8 : Byte).toNat
      ∧ (searching .up 150).hears ∧ restarting.link.tx ≠ .quiet ∧ restarting.link.restartDue = true := by decide

theorem witness_StoreRequestsBegin :
    idle.hears ∧ idle.modes.mode = .idle ∧ (List.replicate 101 0#16).length = 101 ∧ sampleRecipe.fits = true
      ∧ idle.store.op.isSome = false ∧ idle.store.key = true ∧ idle.recipeInUse 0 = false
      ∧ idle.setInUse 0 = false := by decide

theorem witness_StoreRequestsBegin_length :
    ([0#16] : List Word16).length ≠ 101 ∧ ([0#16] : List Word16).length ≠ 16
      ∧ ({ sampleRecipe with rects := List.replicate 38 ⟨0#8, 9#8, 0#8, 1#8, 0#8, 4#8⟩ } : RecipeFields).fits = false := by
  decide

/-- The part with a store operation in progress. -/
def storing (op : StoreOp) : State :=
  let s := owing .recipeErase
  { s with store := { s.store with op := some op } }

theorem witness_StoreOperationCompletes :
    idle.store.op = none ∧ (storing (.eraseRecipe 31)).store.op = some (.eraseRecipe 31)
      ∧ 31 < (storing (.eraseRecipe 31)).store.work.recipes.length ∧ 7 < idle.store.work.sets.length
      ∧ (storing (.eraseRecipe 31)).store.array = (storing (.eraseRecipe 31)).store.work
      ∧ (storing (.eraseRecipe 31)).link.owed = some (0x21#8, 9#8) := by decide

theorem witness_StoreOperationCompletes_kinds :
    (storing (.setLock (.thermal 7) true)).store.op = some (.setLock (.thermal 7) true)
      ∧ 7 < (storing (.setLock (.thermal 7) true)).store.work.sets.length
      ∧ (storing (.writeConfig config)).store.op = some (.writeConfig config)
      ∧ (storing (.writeSet 7 thermal)).store.op = some (.writeSet 7 thermal)
      ∧ (let s := searching .up 150
         let t := { s with
           wave := { s.wave with phase := .writing 150 1200 }, store := { s.store with op := some (.writeCal 150 1200) } }
         t.store.op = some (.writeCal 150 1200) ∧ t.modes.mode = .calibrating ∧ t.extr.forcedDue = false)
      ∧ (storing (.writeCal 150 1200)).modes.mode ≠ .calibrating ∧ (storing (.writeCal 150 1200)).modes.mode ≠ .warmup := by
  decide

/-- R183: a LOCK of a set whose verify fails leaves the set CORRUPT and the recipes as they were. -/
theorem test_lock_fails :
    ∃ t, exec (.storeOperationComplete false) (storing (.setLock (.thermal 0) true)) = .next t
      ∧ (t.store.work.set 0).item = .corrupt ∧ (t.store.work.recipe 0) = (idle.store.work.recipe 0) := ⟨_, rfl, by decide⟩

theorem witness_OutputsStaySafe :
    (traversing (.stroke stroke)).valvesSafe ∧ (inMode .run).waveSafe ∧ idle.heatersSafe
      ∧ ∃ t, step { inMode .run with pending := [.potTripEdge true] } = .next t :=
  ⟨by decide, by decide, fun _ => ⟨rfl, fun k => by cases k <;> rfl⟩, _, rfl⟩

end Sys2Proof.Tests
end

section
/-! PROOFS. WITHDRAW (R33): the admission test does not see the link, so a withdrawal runs on the state that owes the reply as it
runs on the state itself, and the reply goes on the line behind it. -/

namespace Sys2Proof.Machine

/-! ### The admission test and the link (R36, R37) -/

/-- The start of a composition neither reads nor writes the link (R59). -/
@[simp] theorem compositionTest_setLink (s : State) (x : Link) :
    compositionTest (s.setLink x) = (compositionTest s).setLink x := by
  unfold compositionTest
  simp only [setLink_maps, setLink_store]
  split
  · split
    · simp only [State.record?, setLink_tracker]
      split <;> rfl
    · rfl
  · rfl

/-- A buffer is taken beside the link (R58). -/
@[simp] theorem takeBuffer_setLink (b : BufferId) (tag : Nat) (recipe : Recipe) (s : State) (x : Link) :
    takeBuffer b tag recipe (s.setLink x) = (takeBuffer b tag recipe s).setLink x := rfl

/-- The Board Tracker and the link are set in either order. -/
theorem setTracker_setLink (s : State) (t : Tracker) (x : Link) :
    (s.setLink x).setTracker t = (s.setTracker t).setLink x := rfl

/-- A slot's recipe is the store's, whatever the link holds. -/
@[simp] theorem recipeOf_setLink (s : State) (slot : Nat) (x : Link) : (s.setLink x).recipeOf slot = s.recipeOf slot := rfl

/-- A gate opens without reading or writing the link (R37). -/
@[simp] theorem openGate_setLink (a : Announcement) (rest : List Announcement) (b : BufferId) (s : State) (x : Link) :
    openGate a rest b (s.setLink x) = (openGate a rest b s).setLink x := by
  simp [openGate, setTracker_setLink]

/-- The link is in none of the nine conditions (R36). -/
@[simp] theorem mayAdmit_setLink (s : State) (x : Link) : (s.setLink x).mayAdmit = s.mayAdmit := rfl

/-- The admission test neither reads nor writes the link (R36). -/
@[simp] theorem admissionTest_setLink (s : State) (x : Link) :
    admissionTest (s.setLink x) = (admissionTest s).setLink x := by
  unfold admissionTest
  by_cases hm : s.mayAdmit = true
  · rw [if_pos ((mayAdmit_setLink s x).trans hm), if_pos hm]
    simp only [setLink_tracker, setLink_maps]
    split
    · exact openGate_setLink _ _ _ _ _
    · rfl
  · rw [if_neg (mt (mayAdmit_setLink s x).symm.trans hm), if_neg hm]

@[simp] theorem admissionTest_link (s : State) : (admissionTest s).link = s.link :=
  congrArg (·.link) (admissionTest_outer s)

/-- The admission test finds the same with a reply owed as without. -/
@[simp] theorem admissionTest_owing (s : State) (k : RequestKind) (tag : Byte) :
    admissionTest (s.owing k tag) = (admissionTest s).owing k tag := by
  simp [State.owing]

/-! ### A request at its owner, and its reply (R26, R189, R190) -/

/-- A request that is heard and passes the mode check and the payload check is acted on with its reply owed. -/
theorem exec_act (tag : Byte) (finger : Bool) (r : Request) (s : State) (h : (s.shown finger r).hears)
    (hm : modeAllows (requestKind r) (s.shown finger r).modes.mode = true) (hw : r.wellFormed = true) :
    exec (commandOf tag finger r) s = .next (act r ((s.shown finger r).owing (requestKind r) tag)) := by
  rw [exec_commandOf, requestArrives_hears tag r _ h]
  exact congrArg _ (handle_act r _ hm hw)

/-- Accepting while the reply is owed puts the code OK and the fields on the line (R190). -/
theorem accept_owing (fields : State → Bytes) (s : State) (k : RequestKind) (tag : Byte) :
    accept fields (s.owing k tag) = s.replying k tag (codeByte .ok ++ fields (s.owing k tag)) :=
  answer_owing _ s k tag

/-- No field of a refusal is the link's. -/
@[simp] theorem requestFields_owing (r : Request) (s : State) (k : RequestKind) (tag : Byte) :
    requestFields r (s.owing k tag) = requestFields r s := by cases r <;> rfl

/-- A refusal puts its code and its fields on the line, and changes nothing else (R190). -/
theorem refuse_owing (r : Request) (c : ResultCode) (i : Nat) (s : State) (k : RequestKind) (tag : Byte) :
    refuse r c i (s.owing k tag) = s.replying k tag (refusalPayload c i (requestFields r s)) := by
  simp [refuse, answer_owing]

/-! ### WITHDRAW (R33) -/

/-- A tag in the Announce Queue: its announcement leaves, the admission test runs, and the reply carries the free places. -/
theorem actWithdraw_announced (b : Word16) (s : State) (tag : Byte) (h : s.announced b.toNat = true) :
    actWithdraw b (s.owing .withdraw tag)
      = (admissionTest (withdraw b.toNat s)).replying .withdraw tag
          (codeByte .ok ++ u8 (admissionTest (withdraw b.toNat s)).freePlaces) := by
  have hq : (s.owing .withdraw tag).announced b.toNat = true := h
  have ht : admissionTest (withdraw b.toNat (s.owing .withdraw tag))
      = (admissionTest (withdraw b.toNat s)).owing .withdraw tag :=
    admissionTest_owing (withdraw b.toNat s) .withdraw tag
  rw [actWithdraw, if_pos hq, ht, accept_owing]
  rfl

/-- A tag not in the Announce Queue: refused, by whether it is in the Transit Table. -/
theorem actWithdraw_not_announced (b : Word16) (s : State) (tag : Byte) (h : s.announced b.toNat = false) :
    actWithdraw b (s.owing .withdraw tag)
      = s.replying .withdraw tag
          (refusalPayload (if s.inTransit b.toNat then .inUse else .notFound) 0 (u8 s.freePlaces)) := by
  have hq : ¬ (s.owing .withdraw tag).announced b.toNat = true := Bool.eq_false_iff.mp h
  rw [actWithdraw, if_neg hq, refuse_owing]
  rfl

/-- A WITHDRAW that is heard outside CALIBRATING comes to the Board Tracker (R26). -/
theorem exec_withdraw (tag : Byte) (b : Word16) (s : State) (h : s.hears) (hm : s.modes.mode ≠ .calibrating) :
    exec (.withdraw tag b) s = .next (actWithdraw b (s.owing .withdraw tag)) :=
  exec_act tag false (.withdraw b) s h (bne_iff_ne.mpr hm) rfl

/-- Settles O32: the Announce Queue decides, then the Transit Table. -/
theorem withdrawTakesOneOut : Obligations.WithdrawTakesOneOut := by
  intro tag b s h hm
  rw [exec_withdraw tag b s h hm]
  refine ⟨fun hq => ?announced, fun hq ht => ?inTransit, fun hq ht => ?neither⟩
  case announced =>
    rw [actWithdraw_announced b s tag hq]
    rfl
  case inTransit =>
    rw [actWithdraw_not_announced b s tag hq, ht]
    rfl
  case neither =>
    rw [actWithdraw_not_announced b s tag hq, ht]
    rfl

end Sys2Proof.Machine
end

section
/-! PROOFS. Firing by slots (R99): the share `n * g / 256` of the first `n` slots rises by at most one per slot, as a grant is at
most 256, so the slots where it rises are as many as the share itself. -/

namespace Sys2Proof.Machine

/-! ### The slots of a grant (R99) -/

/-- A slot fires where the share of the slots before it rises. -/
theorem slotFires_iff (g n : Nat) : slotFires g n = true ↔ n * g / 256 < (n + 1) * g / 256 := decide_eq_true_iff

/-- Without a grant no slot fires. -/
@[simp] theorem slotFires_zero (n : Nat) : slotFires 0 n = false := by simp [slotFires]

/-- One slot more raises the share by one where that slot fires, and keeps it elsewhere. -/
theorem share_succ {g : Nat} (hg : g ≤ 256) (n : Nat) :
    (n + 1) * g / 256 = n * g / 256 + (slotFires g n).toNat := by
  have hmul : (n + 1) * g = n * g + g := Nat.succ_mul n g
  cases hf : slotFires g n with
  | true =>
    have hrise := (slotFires_iff g n).mp hf
    rw [Bool.toNat_true]
    omega
  | false =>
    have hflat := mt (slotFires_iff g n).mpr (Bool.eq_false_iff.mp hf)
    rw [Bool.toNat_false]
    omega

/-- After the first `n` slots a grant has fired its share of them. -/
theorem length_filter_slotFires {g : Nat} (hg : g ≤ 256) (n : Nat) :
    ((List.range n).filter (slotFires g)).length = n * g / 256 := by
  induction n with
  | zero => simp
  | succ n ih =>
    rw [List.range_succ, List.filter_append, List.length_append, ih, share_succ hg]
    cases hf : slotFires g n <;> simp [hf]

/-! ### The outputs of a slot (R97, R99) -/

@[simp] theorem exec_halfCycleSlotEnd (s : State) : exec .halfCycleSlotEnd s = .next (slotEnds s) := rfl

/-- The pot fires by its grant. -/
theorem fireSlot_potFiring (s : State) :
    (fireSlot s).heat.potFiring = slotFires (fireSlot s).heat.pot.grant (fireSlot s).heat.frameSlot := rfl

/-- A zone fires by its grant. -/
theorem fireSlot_zoneFiring (s : State) (k : ZoneId) :
    (fireSlot s).heat.zoneFiring.get k = slotFires ((fireSlot s).zone k).grant (fireSlot s).heat.frameSlot :=
  six_get_mapZones _ _ k

/-- Within a frame and at its start alike, the end of a slot decides the outputs of the next one last. -/
theorem slotEnds_eq_fireSlot (s : State) : ∃ u, slotEnds s = fireSlot u := by
  unfold slotEnds
  split
  · exact ⟨_, rfl⟩
  · exact ⟨_, rfl⟩

/-- Settles O49, by induction on the number of slots for the share, and by the last operation of a slot's end for the outputs. -/
theorem grantFiresItsShare : Obligations.GrantFiresItsShare := by
  refine ⟨fun g n hg => length_filter_slotFires hg n, slotFires_iff, slotFires_zero,
    length_filter_slotFires (by decide) 256, fun s t ht => ?outputs⟩
  case outputs =>
    obtain ⟨u, hu⟩ := slotEnds_eq_fireSlot s
    rw [exec_halfCycleSlotEnd, hu] at ht
    obtain rfl : fireSlot u = t := by injection ht
    exact ⟨fireSlot_potFiring u, fireSlot_zoneFiring u⟩

end Sys2Proof.Machine
end

section
/-! PROOFS. CAL_ABORT (R142): the search ends at the Pot Controller, and the return to READY, with the step on to STANDBY where
forced standby is due, is an entry into a mode at rest: the wave is off before and after it, and the fan command stands. -/

namespace Sys2Proof.Machine

/-! ### What the operations of a mode entry write (R29, R93, R122, R131) -/

/-- The feeder's part of a mode entry writes the pot items alone (R122, R123). -/
theorem feedAtActivity_eq_setPot (s : State) : ∃ p, feedAtActivity s = s.setPot p := by
  unfold feedAtActivity feedTestNow feedTest
  repeat' split
  all_goals exact ⟨_, rfl⟩

/-- The loops settle in the heater records, and the feeder follows in the pot items (R93, R122). -/
theorem afterLoops_eq_setPot (s : State) : ∃ p, afterLoops s = (settleLoops s).setPot p := feedAtActivity_eq_setPot _

@[simp] theorem afterLoops_wave (s : State) : (afterLoops s).wave = s.wave := by
  obtain ⟨p, hp⟩ := afterLoops_eq_setPot s
  rw [hp]; rfl

@[simp] theorem afterLoops_tracker (s : State) : (afterLoops s).tracker = s.tracker := by
  obtain ⟨p, hp⟩ := afterLoops_eq_setPot s
  rw [hp]; rfl

@[simp] theorem afterLoops_alarms (s : State) : (afterLoops s).alarms = s.alarms := by
  obtain ⟨p, hp⟩ := afterLoops_eq_setPot s
  rw [hp]; rfl

@[simp] theorem afterLoops_extr (s : State) : (afterLoops s).extr = s.extr := by
  obtain ⟨p, hp⟩ := afterLoops_eq_setPot s
  rw [hp]; rfl

/-- A loop that comes to its rest keeps its zone's started mark (R93). -/
@[simp] theorem afterLoops_zone_started (s : State) (k : ZoneId) :
    ((afterLoops s).zone k).started = (s.zone k).started := by
  obtain ⟨p, hp⟩ := afterLoops_eq_setPot s
  have hz : (afterLoops s).zone k = if s.zoneActive k then s.zone k else (s.zone k).inactive := by
    rw [hp]
    exact six_get_mapZones _ _ k
  rw [hz]
  split <;> rfl

/-- The wave output becomes what R131 gives; a change reaches the drive-change watch in the pot items, and the records in
transit (R135). -/
theorem waveSync_eq (s : State) :
    ∃ p t, waveSync s = ((s.setWave { s.wave with output := s.waveTarget }).setPot p).setTracker t := by
  unfold waveSync driveWave
  split
  next h =>
    rw [h]
    exact ⟨s.pot, s.tracker, rfl⟩
  next => exact ⟨_, _, rfl⟩

@[simp] theorem waveSync_wave (s : State) : (waveSync s).wave = { s.wave with output := s.waveTarget } := by
  obtain ⟨p, t, h⟩ := waveSync_eq s
  rw [h]; rfl

@[simp] theorem waveSync_alarms (s : State) : (waveSync s).alarms = s.alarms := by
  obtain ⟨p, t, h⟩ := waveSync_eq s
  rw [h]; rfl

@[simp] theorem waveSync_extr (s : State) : (waveSync s).extr = s.extr := by
  obtain ⟨p, t, h⟩ := waveSync_eq s
  rw [h]; rfl

@[simp] theorem waveSync_heat (s : State) : (waveSync s).heat = s.heat := by
  obtain ⟨p, t, h⟩ := waveSync_eq s
  rw [h]; rfl

@[simp] theorem waveSync_modes (s : State) : (waveSync s).modes = s.modes := congrArg (·.modes) (waveSync_quiet s)

/-- With the wave off by the mode and no search, the wave output is 0 (R131). -/
theorem waveTarget_of_off (s : State) (hm : s.modes.mode.waveOn = false) (hp : s.wave.phase = .none) : s.waveTarget = 0 := by
  unfold State.waveTarget
  rw [hm, hp]
  simp

/-- A conveyor that is wanted runs, and nothing but the Tracker's items changes (R29). -/
theorem conveyorSync_of_wanted (s : State) (h : s.conveyorWanted = true) :
    ∃ t, conveyorSync s = s.setTracker t ∧ t.conveyorRun = true ∧ t.gateOpen = s.tracker.gateOpen := by
  unfold conveyorSync
  rw [h]
  split
  next hrun => exact ⟨s.tracker, rfl, hrun.symm, rfl⟩
  next => exact ⟨_, rfl, rfl, rfl⟩

@[simp] theorem conveyorSync_wave (s : State) : (conveyorSync s).wave = s.wave := by
  unfold conveyorSync
  split
  · rfl
  · split <;> rfl

@[simp] theorem entryMarks_extr (new : Mode) (s : State) : (entryMarks new s).extr = s.extr := by cases new <;> rfl

@[simp] theorem entryMarks_wave (new : Mode) (s : State) : (entryMarks new s).wave = s.wave := by cases new <;> rfl

@[simp] theorem entryMarks_modes (new : Mode) (s : State) : (entryMarks new s).modes = s.modes :=
  congrArg (·.modes) (entryMarks_quiet new s)

@[simp] theorem closeGate_wave (s : State) : (closeGate s).wave = s.wave := rfl

/-! ### Entry into READY and STANDBY with the wave off (R14, R20) -/

/-- Outside IDLE the fan is wanted on, so a fan that runs goes on (R145). -/
theorem fanSync_of_running (s : State) (hm : s.modes.mode ≠ .idle) (hf : s.extr.fan = true) : fanSync s = s := by
  have hw : s.fanWanted = true := by
    unfold State.fanWanted
    split
    next h => exact absurd h hm
    next => rfl
  rw [fanSync, if_pos (hw.trans hf.symm)]

/-- The supply is not judged at a change between modes other than IDLE (R107). -/
theorem supplyAtMode_of_heated {old new : Mode} (s : State) (ho : old ≠ .idle) (hn : new ≠ .idle) :
    supplyAtMode old new s = s := by simp [supplyAtMode, ho, hn]

/-- A change between modes with the wave off brings the output to what R131 gives, and no more (R131). -/
theorem waveAtMode_of_off {old new : Mode} (s : State) (ho : old.waveOn = false) (hn : new.waveOn = false) :
    waveAtMode old new s = waveSync s := by simp [waveAtMode, ho, hn]

/-- The mode entered is the mode (R1). -/
@[simp] theorem enter_mode (new : Mode) (molten : Bool) (c : ModeCtl) : (c.enter new molten).mode = new := by
  cases new <;> rfl

/-- An entry into READY or STANDBY from CALIBRATING or READY, the fan running: of all the blocks' effects the marks, the wave
output, the gate, the conveyor and the loops are left (R14, R20). -/
theorem setMode_resting (new : Mode) (s : State) (hn : new = .ready ∨ new = .standby)
    (ho : s.modes.mode = .calibrating ∨ s.modes.mode = .ready) (hf : s.extr.fan = true) :
    setMode new s = afterLoops (conveyorSync (closeGate (waveSync
      (entryMarks new (s.setModes (s.modes.enter new s.pot.molten)))))) := by
  have hwarm : s.modes.mode ≠ .warmup := by rcases ho with h | h <;> simp [h]
  have hidle : s.modes.mode ≠ .idle := by rcases ho with h | h <;> simp [h]
  have hoff : s.modes.mode.waveOn = false := by rcases ho with h | h <;> simp [h, Mode.waveOn]
  have hsupply : ∀ u, supplyAtMode s.modes.mode new u = u := fun u =>
    supplyAtMode_of_heated u hidle (by rcases hn with rfl | rfl <;> simp)
  have hfan : ∀ u : State, u.modes.mode = new → u.extr.fan = true → fanSync u = u := fun u hu =>
    fanSync_of_running u (by rcases hn with rfl | rfl <;> simp [hu])
  have hwave : ∀ u, waveAtMode s.modes.mode new u = waveSync u := fun u =>
    waveAtMode_of_off u hoff (by rcases hn with rfl | rfl <;> rfl)
  rcases hn with rfl | rfl <;> simp [setMode, hwarm, hsupply, hfan, hf, hwave, sprayAtMode, trackAtMode]

/-- Such an entry with no calibration in progress leaves the wave items as they were, but for the output, which is 0 (R131). -/
theorem setMode_resting_wave (new : Mode) (s : State) (hn : new = .ready ∨ new = .standby)
    (ho : s.modes.mode = .calibrating ∨ s.modes.mode = .ready) (hf : s.extr.fan = true) (hp : s.wave.phase = .none) :
    (setMode new s).wave = { s.wave with output := 0 } := by
  have hoff : new.waveOn = false := by rcases hn with rfl | rfl <;> rfl
  rw [setMode_resting new s hn ho hf, afterLoops_wave, conveyorSync_wave, closeGate_wave, waveSync_wave,
    waveTarget_of_off _ (by simp [hoff]) (by simp [hp])]
  simp

/-- READY is entered from CALIBRATING: the conveyor runs and the gate is closed, and the alarms, the extraction items and the
started marks stand (R14, R29). -/
theorem setMode_ready_of_calibrating (s : State) (hm : s.modes.mode = .calibrating) (hf : s.extr.fan = true) :
    (setMode .ready s).alarms = s.alarms ∧ (setMode .ready s).extr = s.extr
      ∧ (setMode .ready s).tracker.conveyorRun = true ∧ (setMode .ready s).tracker.gateOpen = false
      ∧ ∀ k, ((setMode .ready s).zone k).started = (s.zone k).started := by
  let u := waveSync (s.setModes (s.modes.enter .ready s.pot.molten))
  have hwanted : (closeGate u).conveyorWanted = true := by simp [State.conveyorWanted, closeGate, u]
  obtain ⟨t, ht, hrun, hgate⟩ := conveyorSync_of_wanted (closeGate u) hwanted
  have h : setMode .ready s = afterLoops ((closeGate u).setTracker t) := by
    rw [setMode_resting .ready s (.inl rfl) (.inl hm) hf, ← ht]
    rfl
  rw [h]
  refine ⟨?alarms, ?extr, ?conveyor, ?gate, fun k => ?started⟩
  case alarms => simp [closeGate, u]
  case extr => simp [closeGate, u]
  case conveyor => simpa using hrun
  case gate => simpa [closeGate] using hgate
  case started =>
    rw [afterLoops_zone_started]
    simp [State.zone, closeGate, u]

/-! ### Forced standby at the return to READY (R25, R151) -/

/-- Forced standby that is not due does not act. -/
theorem forcedTest_of_not_due (s : State) (h : s.extr.forcedDue = false) : forcedTest s = s := by simp [forcedTest, h]

/-- Forced standby that is due in READY enters STANDBY (R25). -/
theorem forcedTest_of_due_ready (s : State) (h : s.extr.forcedDue = true) (hm : s.modes.mode = .ready) :
    forcedTest s = setMode .standby (s.setExtr { s.extr with forcedDue := false }) := by
  simp [forcedTest, h, hm, Mode.forcible, forceStandby]

/-- A return from CALIBRATING without forced standby due stays in READY. -/
theorem enterReady_of_not_due (s : State) (hm : s.modes.mode = .calibrating) (hf : s.extr.fan = true)
    (hd : s.extr.forcedDue = false) : enterReady s = setMode .ready s := by
  obtain ⟨-, hextr, -⟩ := setMode_ready_of_calibrating s hm hf
  exact forcedTest_of_not_due _ (by rw [hextr, hd])

/-- A return from CALIBRATING with forced standby due goes on into STANDBY (R25). -/
theorem enterReady_of_due (s : State) (hm : s.modes.mode = .calibrating) (hf : s.extr.fan = true)
    (hd : s.extr.forcedDue = true) :
    enterReady s = setMode .standby ((setMode .ready s).setExtr { s.extr with forcedDue := false }) := by
  obtain ⟨-, hextr, -⟩ := setMode_ready_of_calibrating s hm hf
  rw [enterReady, forcedTest_of_due_ready _ (by rw [hextr, hd]) (by simp), hextr]

/-- Either way the return leaves the wave items as they were, but for the output, which is 0 (R131). -/
theorem enterReady_wave (s : State) (hm : s.modes.mode = .calibrating) (hf : s.extr.fan = true)
    (hp : s.wave.phase = .none) : (enterReady s).wave = { s.wave with output := 0 } := by
  have hready := setMode_resting_wave .ready s (.inl rfl) (.inl hm) hf hp
  cases hd : s.extr.forcedDue with
  | false => rw [enterReady_of_not_due s hm hf hd, hready]
  | true =>
    let u := (setMode .ready s).setExtr { s.extr with forcedDue := false }
    have hmode : u.modes.mode = .ready := by simp [u]
    have hwave : u.wave = { s.wave with output := 0 } := hready
    rw [enterReady_of_due s hm hf hd, setMode_resting_wave .standby u (.inr rfl) (.inr hmode) hf (by rw [hwave, hp]), hwave]

/-! ### A request outside its modes (R26) -/

/-- A request that is heard in a mode that does not allow it is refused with WRONG_MODE (R26). -/
theorem exec_wrongMode (tag : Byte) (finger : Bool) (r : Request) (s : State) (h : (s.shown finger r).hears)
    (hm : modeAllows (requestKind r) (s.shown finger r).modes.mode = false) :
    exec (commandOf tag finger r) s = .next ((s.shown finger r).replying (requestKind r) tag
      (refusalPayload .wrongMode 0 (requestFields r (s.shown finger r)))) := by
  have hm' : modeAllows (requestKind r) ((s.shown finger r).owing (requestKind r) tag).modes.mode = false := hm
  rw [exec_commandOf, requestArrives_hears tag r _ h, handle, hm', Bool.not_false, if_pos rfl, refuse_owing]

/-! ### CAL_ABORT (R142) -/

/-- The state whose search has ended ABORTED and whose mode is still CALIBRATING. -/
def searchEnded (s : State) : State := waveSync (s.setWave { s.wave with phase := .none, outcome := .aborted })

theorem abortSearch_eq (s : State) : abortSearch s = enterReady (searchEnded s) := rfl

@[simp] theorem searchEnded_modes (s : State) : (searchEnded s).modes = s.modes := by simp [searchEnded]

@[simp] theorem searchEnded_extr (s : State) : (searchEnded s).extr = s.extr := by simp [searchEnded]

@[simp] theorem searchEnded_alarms (s : State) : (searchEnded s).alarms = s.alarms := by simp [searchEnded]

@[simp] theorem searchEnded_zone (s : State) (k : ZoneId) : (searchEnded s).zone k = s.zone k := by
  simp [searchEnded, State.zone]

@[simp] theorem abortSearch_far (s : State) : (abortSearch s).far = s.far := by simp [abortSearch]

/-- An aborted search is over with the outcome ABORTED and the wave off; the cause and the record stand (R142). -/
theorem abortSearch_wave (s : State) (hm : s.modes.mode = .calibrating) (hf : s.extr.fan = true) :
    (abortSearch s).wave = { s.wave with phase := .none, outcome := .aborted, output := 0 } := by
  rw [abortSearch_eq, enterReady_wave _ (by simp [hm]) (by simp [hf]) (by simp [searchEnded])]
  simp [searchEnded]

/-- Without forced standby due the part is READY, its conveyor running, its gate closed, its alarms and started marks as they
were (R14, R142). -/
theorem abortSearch_of_not_due (s : State) (hm : s.modes.mode = .calibrating) (hf : s.extr.fan = true)
    (hd : s.extr.forcedDue = false) :
    (abortSearch s).alarms = s.alarms ∧ (abortSearch s).tracker.conveyorRun = true
      ∧ (abortSearch s).tracker.gateOpen = false ∧ (∀ k, ((abortSearch s).zone k).started = (s.zone k).started)
      ∧ (abortSearch s).modes = { s.modes with mode := .ready, drain := .none, holdPending := false, ret := .none,
                                               holdTimer := 0, warm := none } := by
  have hm' : (searchEnded s).modes.mode = .calibrating := by simp [hm]
  have hf' : (searchEnded s).extr.fan = true := by simp [hf]
  obtain ⟨halarms, -, hrun, hgate, hstarted⟩ := setMode_ready_of_calibrating (searchEnded s) hm' hf'
  rw [abortSearch_eq, enterReady_of_not_due _ hm' hf' (by simp [hd])]
  exact ⟨by simpa using halarms, hrun, hgate, fun k => by simpa using hstarted k, by simp [ModeCtl.enter]⟩

/-- With forced standby due the part goes on into STANDBY (R25, R142). -/
theorem abortSearch_of_due (s : State) (hm : s.modes.mode = .calibrating) (hf : s.extr.fan = true)
    (hd : s.extr.forcedDue = true) : (abortSearch s).modes.mode = .standby := by
  rw [abortSearch_eq, enterReady_of_due _ (by simp [hm]) (by simp [hf]) (by simp [hd])]
  simp

/-- A CAL_ABORT that is heard in CALIBRATING comes to the Pot Controller (R26). -/
theorem exec_calAbort (tag : Byte) (s : State) (h : s.hears) (hm : s.modes.mode = .calibrating) :
    exec (.calAbort tag) s = .next (actCalAbort (s.owing .calAbort tag)) :=
  exec_act tag false .calAbort s h (beq_iff_eq.mpr hm) rfl

/-- While the record is written CAL_ABORT is refused with BUSY. -/
theorem actCalAbort_writing (s : State) (h : s.wave.phase.isWriting = true) :
    actCalAbort s = refuse .calAbort .busy 0 s := by simp [actCalAbort, checked, firstRefusal, h]

/-- Otherwise it aborts the search, and answers with the outcome. -/
theorem actCalAbort_not_writing (s : State) (h : s.wave.phase.isWriting = false) :
    actCalAbort s = accept State.outcomeField (abortSearch s) := by simp [actCalAbort, checked, firstRefusal, h]

/-- Settles O52: the mode check decides, then the phase; the search that ends leaves a state from which READY is entered, and
forced standby that is due acts there. -/
theorem calAbortEndsTheSearch : Obligations.CalAbortEndsTheSearch := by
  intro tag s h
  refine ⟨fun hm => ?wrongMode, fun d l hm hp => ?writing, fun dir test dwell hm hp hf => ?search⟩
  case wrongMode => exact exec_wrongMode tag false .calAbort s h (beq_eq_false_iff_ne.mpr hm)
  case writing =>
    have hw : (s.owing .calAbort tag).wave.phase.isWriting = true := congrArg CalPhase.isWriting hp
    rw [exec_calAbort tag s h hm, actCalAbort_writing _ hw, refuse_owing]
    rfl
  case search =>
    let u := s.owing .calAbort tag
    have hw : u.wave.phase.isWriting = false := congrArg CalPhase.isWriting hp
    have hwave : (abortSearch u).wave = { s.wave with phase := .none, outcome := .aborted, output := 0 } :=
      abortSearch_wave u hm hf
    have hpayload : codeByte .ok ++ (abortSearch u).outcomeField = [0#8, 4#8] := by
      rw [State.outcomeField, hwave]
      rfl
    obtain ⟨hreply, hanswered⟩ := answer_far [0#8, 4#8] (abortSearch_far u)
    have hexec : exec (.calAbort tag) s = .next ((abortSearch u).replying .calAbort tag [0#8, 4#8]) := by
      rw [exec_calAbort tag s h hm, actCalAbort_not_writing _ hw, accept, hpayload, hreply]
    have hcause : (abortSearch u).wave.cause = s.wave.cause := by rw [hwave]
    have hcal : (abortSearch u).wave.cal = s.wave.cal := by rw [hwave]
    exact ⟨_, hexec, hanswered, congrArg Wave.phase hwave, congrArg Wave.output hwave, congrArg Wave.outcome hwave,
      hcause, hcal, abortSearch_of_not_due u hm hf, abortSearch_of_due u hm hf⟩

end Sys2Proof.Machine
end

section
/-! PROOFS. ALARM_ACK (R168): an acknowledgement writes one entry of the Alarm Table and the feeder in the pot items, and the
admission test behind it writes the Tracker and the maps: the table and the reply are those of the acknowledged entries. -/

namespace Sys2Proof.Machine

/-! ### What the admission test and the feeder's start test write (R36, R59, R122) -/

/-- The start of a composition writes the maps alone (R59). -/
theorem compositionTest_eq (s : State) : ∃ m, compositionTest s = { s with maps := m } := by
  unfold compositionTest
  repeat' split
  all_goals exact ⟨_, rfl⟩

/-- The admission test writes the Tracker's items and the maps alone (R37, R58, R59). -/
theorem admissionTest_eq (s : State) : ∃ t m, admissionTest s = { s with tracker := t, maps := m } := by
  unfold admissionTest openGate
  split
  · split
    · obtain ⟨m, hm⟩ := compositionTest_eq _
      exact ⟨_, m, hm⟩
    · exact ⟨_, _, rfl⟩
  · exact ⟨_, _, rfl⟩

@[simp] theorem admissionTest_alarms (s : State) : (admissionTest s).alarms = s.alarms := by
  obtain ⟨t, m, h⟩ := admissionTest_eq s
  rw [h]

@[simp] theorem admissionTest_alert (s : State) : (admissionTest s).alert = s.alert := by
  obtain ⟨t, m, h⟩ := admissionTest_eq s
  rw [h]

@[simp] theorem admissionTest_quiet (s : State) : (admissionTest s).quiet = s.quiet := by
  obtain ⟨t, m, h⟩ := admissionTest_eq s
  rw [h]
  rfl

@[simp] theorem admissionTest_alarm (s : State) (k : AlarmKind) : (admissionTest s).alarm k = s.alarm k :=
  congrArg (·.get k) (admissionTest_alarms s)

/-- The start test on the estimate writes the pot items alone (R122). -/
theorem feedTestNow_eq_setPot (s : State) : ∃ p, feedTestNow s = s.setPot p := by
  unfold feedTestNow feedTest
  repeat' split
  all_goals exact ⟨_, rfl⟩

/-! ### Acknowledging entries (R168) -/

/-- An acknowledgement writes the entry of its kind, and the pot items where the feeder starts. -/
theorem acknowledge_eq (k : AlarmKind) (s : State) :
    ∃ p, acknowledge k s = { s with alarms := s.alarms.set k (s.alarm k).acknowledge, pot := p } := by
  unfold acknowledge
  dsimp only
  split
  · exact feedTestNow_eq_setPot _
  · exact ⟨_, rfl⟩

@[simp] theorem acknowledge_alarms (k : AlarmKind) (s : State) :
    (acknowledge k s).alarms = s.alarms.set k (s.alarm k).acknowledge := by
  obtain ⟨p, h⟩ := acknowledge_eq k s
  rw [h]

@[simp] theorem acknowledge_alert (k : AlarmKind) (s : State) : (acknowledge k s).alert = s.alert := by
  obtain ⟨p, h⟩ := acknowledge_eq k s
  rw [h]

@[simp] theorem acknowledge_quiet (k : AlarmKind) (s : State) : (acknowledge k s).quiet = s.quiet := by
  obtain ⟨p, h⟩ := acknowledge_eq k s
  rw [h]
  rfl

theorem acknowledge_alarm_same (k : AlarmKind) (s : State) : (acknowledge k s).alarm k = (s.alarm k).acknowledge := by
  simp [State.alarm]

theorem acknowledge_alarm_other (k j : AlarmKind) (s : State) (h : j ≠ k) : (acknowledge k s).alarm j = s.alarm j := by
  simp [State.alarm, alarms_get_set_other _ _ _ _ h]

/-- An entry that was acknowledged is not changed by another acknowledgement. -/
theorem acknowledge_idem (e : AlarmEntry) : e.acknowledge.acknowledge = e.acknowledge := by
  obtain ⟨state, count, time⟩ := e
  cases state <;> rfl

@[simp] theorem acknowledgeAll_alert (ks : List AlarmKind) (s : State) : (acknowledgeAll ks s).alert = s.alert := by
  induction ks generalizing s with
  | nil => rfl
  | cons k rest ih => rw [acknowledgeAll, ih, acknowledge_alert]

@[simp] theorem acknowledgeAll_quiet (ks : List AlarmKind) (s : State) : (acknowledgeAll ks s).quiet = s.quiet := by
  induction ks generalizing s with
  | nil => rfl
  | cons k rest ih => rw [acknowledgeAll, ih, acknowledge_quiet]

/-- The entries acknowledged in turn are those of the list, each once in effect, and no other. -/
theorem acknowledgeAll_alarm (ks : List AlarmKind) (s : State) (j : AlarmKind) :
    (acknowledgeAll ks s).alarm j = if j ∈ ks then (s.alarm j).acknowledge else s.alarm j := by
  induction ks generalizing s with
  | nil => rfl
  | cons k rest ih =>
    rw [acknowledgeAll, ih]
    by_cases hj : j = k
    · subst hj
      simp [acknowledge_alarm_same, acknowledge_idem]
    · simp [acknowledge_alarm_other k j s hj, hj]

/-! ### The numbers of the kinds (R165) -/

theorem mem_allAlarms (k : AlarmKind) : k ∈ allAlarms := by cases k <;> decide

/-- The number of a kind names the kind. -/
theorem alarmOf_alarmNumber (k : AlarmKind) : alarmOf (alarmNumber k) = some k :=
  List.getElem?_idxOf (mem_allAlarms k)

/-- A number above 21 names no kind. -/
theorem alarmOf_of_gt {n : Nat} (h : 21 < n) : alarmOf n = none := by
  refine List.getElem?_eq_none ?_
  have hlen : allAlarms.length = 21 := rfl
  omega

/-- A byte is the one-byte field of its value (R190). -/
theorem u8_toNat (b : Byte) : u8 b.toNat = [b] := by simp [u8]

/-- Accepting after effects that leave the link alone puts the code OK and the fields on the line (R190). -/
theorem accept_quiet {s g : State} {k : RequestKind} {tag : Byte} (fields : State → Bytes)
    (h : g.quiet = (s.owing k tag).quiet) :
    accept fields g = g.replying k tag (codeByte .ok ++ fields g)
      ∧ Answered s (g.replying k tag (codeByte .ok ++ fields g)) k tag (codeByte .ok ++ fields g) :=
  answer_far _ (far_of_quiet h)

/-! ### ALARM_ACK (R168) -/

/-- An ALARM_ACK that is heard comes to the Alarm Table in every mode (R26). -/
theorem exec_alarmAck (tag n : Byte) (s : State) (h : s.hears) :
    exec (.alarmAck tag n) s = .next (actAlarmAck n (s.owing .alarmAck tag)) :=
  exec_act tag false (.alarmAck n) s h rfl rfl

theorem actAlarmAck_none (n : Byte) (s : State) (h : 21 < n.toNat) :
    actAlarmAck n s = refuse (.alarmAck n) .badValue 0 s := by
  rw [actAlarmAck, if_neg (by omega), alarmOf_of_gt h]

theorem actAlarmAck_one (n : Byte) (k : AlarmKind) (s : State) (h : n.toNat = alarmNumber k) :
    actAlarmAck n s
      = accept (fun t => [n] ++ u8 (alarmStateNumber (t.alarm k).state)) (admissionTest (acknowledge k s)) := by
  have hn : ¬ n.toNat = 0 := by rw [h]; exact Nat.succ_ne_zero _
  rw [actAlarmAck, if_neg hn, u8_toNat, h, alarmOf_alarmNumber]

theorem actAlarmAck_all (n : Byte) (s : State) (h : n.toNat = 0) :
    actAlarmAck n s = accept (fun t => u8 s.ackChanges ++ t.forceCounts) (admissionTest (acknowledgeAll allAlarms s)) :=
  if_pos h

/-- Settles O56: the number decides; the effects leave the link alone, so the reply carries the acknowledged entries. -/
theorem alarmAckFollowsItsTable : Obligations.AlarmAckFollowsItsTable := by
  intro tag n s h after
  have hafter : ∀ e, after e = e.acknowledge := by
    rintro ⟨state, count, time⟩
    cases state <;> rfl
  refine ⟨fun hn => ?none, fun k hn => ?one, fun hn => ?all⟩
  case none =>
    rw [exec_alarmAck tag n s h, actAlarmAck_none n _ hn, refuse_owing]
    rfl
  case one =>
    let g := admissionTest (acknowledge k (s.owing .alarmAck tag))
    have hg : g.quiet = (s.owing .alarmAck tag).quiet := by simp [g]
    have halarms : g.alarms = s.alarms.set k (after (s.alarm k)) := by
      rw [hafter]
      exact (admissionTest_alarms _).trans (acknowledge_alarms k _)
    have halert : g.alert = s.alert := (admissionTest_alert _).trans (acknowledge_alert k _)
    obtain ⟨hreply, hanswered⟩ := accept_quiet (fun t => [n] ++ u8 (alarmStateNumber (t.alarm k).state)) hg
    have hexec := exec_alarmAck tag n s h
    rw [actAlarmAck_one n k _ hn, hreply] at hexec
    exact ⟨_, hexec, halarms, halert, congrArg (·.modes) hg, hanswered⟩
  case all =>
    let g := admissionTest (acknowledgeAll allAlarms (s.owing .alarmAck tag))
    have hg : g.quiet = (s.owing .alarmAck tag).quiet := by simp [g]
    have halarm : ∀ k, g.alarm k = (s.alarm k).acknowledge := fun k => by
      rw [admissionTest_alarm, acknowledgeAll_alarm, if_pos (mem_allAlarms k)]
      rfl
    have halert : g.alert = s.alert := (admissionTest_alert _).trans (acknowledgeAll_alert _ _)
    have hcount : (s.owing .alarmAck tag).ackChanges
        = (allAlarms.filter (fun k => (g.alarm k).state ≠ (s.alarm k).state)).length := by
      simp only [halarm]
      rfl
    obtain ⟨hreply, hanswered⟩ := accept_quiet (fun t =>
      u8 (allAlarms.filter (fun k => (g.alarm k).state ≠ (s.alarm k).state)).length ++ t.forceCounts) hg
    have hexec := exec_alarmAck tag n s h
    rw [actAlarmAck_all n _ hn, hcount, hreply] at hexec
    exact ⟨_, hexec, fun k => (halarm k).trans (hafter _).symm, halert, congrArg (·.modes) hg, hanswered⟩

end Sys2Proof.Machine
end

section
/-! PROOFS. ALERT_MODE (R176): the request writes the ALERT items alone. A reset gives the mode to the ALERT items, and the
occurrences at an active trip input, that of POT_OVERTEMP and those of the entry into SAFE, never write it (R174, R175). -/

namespace Sys2Proof.Machine

/-! ### Occurrences keep the ALERT mode (R174, R175) -/

@[simp] theorem pulse_mode (a : Alert) : (pulse a).mode = a.mode := by
  unfold pulse
  split
  · split <;> rfl
  · rfl

@[simp] theorem onAlarm_mode (a : Alert) : a.onAlarm.mode = a.mode := by
  unfold Alert.onAlarm
  dsimp only
  split <;> simp

@[simp] theorem occurrence_alertMode (k : AlarmKind) (st : AlarmState) (s : State) :
    (occurrence k st s).alert.mode = s.alert.mode := onAlarm_mode s.alert

@[simp] theorem conditionAppears_alertMode (k : AlarmKind) (s : State) :
    (conditionAppears k s).alert.mode = s.alert.mode := by
  unfold conditionAppears
  split <;> simp

@[simp] theorem eventOccurs_alertMode (k : AlarmKind) (s : State) : (eventOccurs k s).alert.mode = s.alert.mode :=
  occurrence_alertMode k .latched s

@[simp] theorem judgeQuiet_alertMode (k : AlarmKind) (present : Bool) (s : State) :
    (judgeQuiet k present s).alert.mode = s.alert.mode := by
  unfold judgeQuiet
  split <;> simp

/-! ### The maps and the Spray Controller at the ALERT items -/

@[simp] theorem compositionTest_alert (s : State) : (compositionTest s).alert = s.alert := by
  obtain ⟨m, h⟩ := compositionTest_eq s
  rw [h]

@[simp] theorem skipRow_alert (tag : Nat) (b : BufferId) (k : ExcKind) (dose : Nat) (s : State) :
    (skipRow tag b k dose s).alert = s.alert := by
  unfold skipRow rowResolved
  split
  · rfl
  · dsimp only
    split
    · simp [releaseBuffer]
    · rfl

@[simp] theorem skipRows_alert (es : List StrokeEntry) (s : State) : (skipRows es s).alert = s.alert := by
  induction es generalizing s with
  | nil => rfl
  | cons e rest ih => rw [skipRows, ih, skipRow_alert]

@[simp] theorem cutStroke_alert (k : ExcKind) (s : State) : (cutStroke k s).alert = s.alert := by
  unfold cutStroke
  split
  · simp [haltTraverse]
  · rfl
  · rfl

@[simp] theorem cutPurge_alert (s : State) : (cutPurge s).alert = s.alert := by
  unfold cutPurge
  split <;> rfl

@[simp] theorem spraySafe_alert (s : State) : (spraySafe s).alert = s.alert := by simp [spraySafe]

/-- Rows brought to stroke start may make the flux pressure low condition appear (R75, R84). -/
@[simp] theorem serveRows_alertMode (es : List StrokeEntry) (s : State) :
    (serveRows es s).alert.mode = s.alert.mode := by
  induction es generalizing s with
  | nil => rfl
  | cons e rest ih =>
    unfold serveRows
    split
    · rfl
    · rw [ih, dropRow]
      split <;> simp

@[simp] theorem serveQueue_alertMode (s : State) : (serveQueue s).alert.mode = s.alert.mode := by
  unfold serveQueue
  split <;> simp

@[simp] theorem sprayAtMode_alertMode (new : Mode) (s : State) : (sprayAtMode new s).alert.mode = s.alert.mode := by
  unfold sprayAtMode
  repeat' split
  all_goals simp

@[simp] theorem sprayExtractionLost_alertMode (s : State) : (sprayExtractionLost s).alert.mode = s.alert.mode := by
  unfold sprayExtractionLost
  split <;> simp

/-! ### A mode entry keeps the ALERT mode -/

@[simp] theorem changeExtraction_alertMode (new : ExtState) (s : State) :
    (changeExtraction new s).alert.mode = s.alert.mode := by
  unfold changeExtraction
  dsimp only
  split <;> simp

@[simp] theorem fanSync_alertMode (s : State) : (fanSync s).alert.mode = s.alert.mode := by
  unfold fanSync
  repeat' split
  all_goals simp

@[simp] theorem supplyAtMode_alertMode (old new : Mode) (s : State) :
    (supplyAtMode old new s).alert.mode = s.alert.mode := by
  unfold supplyAtMode judgeSupply
  repeat' split
  all_goals simp [zeroGrants]

@[simp] theorem waveSync_alert (s : State) : (waveSync s).alert = s.alert := by
  obtain ⟨p, t, h⟩ := waveSync_eq s
  rw [h]
  rfl

@[simp] theorem judgeSide_alertMode (side : WaveSide) (s : State) : (judgeSide side s).alert.mode = s.alert.mode := by
  unfold judgeSide
  repeat' split
  all_goals simp

@[simp] theorem waveAtMode_alertMode (old new : Mode) (s : State) :
    (waveAtMode old new s).alert.mode = s.alert.mode := by
  unfold waveAtMode
  repeat' split
  all_goals simp [computeDrive]

@[simp] theorem searchAtSafe_alertMode (s : State) : (searchAtSafe s).alert.mode = s.alert.mode := by
  unfold searchAtSafe
  split <;> simp [failSearch]

@[simp] theorem conveyorSync_alert (s : State) : (conveyorSync s).alert = s.alert := by
  unfold conveyorSync
  repeat' split
  all_goals rfl

@[simp] theorem afterLoops_alert (s : State) : (afterLoops s).alert = s.alert := by
  obtain ⟨p, h⟩ := afterLoops_eq_setPot s
  rw [h]
  rfl

@[simp] theorem entryMarks_alert (new : Mode) (s : State) : (entryMarks new s).alert = s.alert := by cases new <;> rfl

@[simp] theorem trackAtMode_alert (new : Mode) (s : State) : (trackAtMode new s).alert = s.alert := by cases new <;> rfl

@[simp] theorem leaveWarmup_alert (s : State) : (leaveWarmup s).alert = s.alert := rfl

/-- The occurrences of a mode entry act on the attention flag and the pulses, and leave the mode of ALERT. -/
@[simp] theorem setMode_alertMode (new : Mode) (s : State) : (setMode new s).alert.mode = s.alert.mode := by
  simp only [setMode, afterLoops_alert, conveyorSync_alert, trackAtMode_alert, waveAtMode_alertMode]
  split <;> split <;> simp

/-- An alarm of severity SAFE that appears leaves the mode of ALERT. -/
theorem raise_alertMode_of_safe {k : AlarmKind} (h : severity k = .safe) (s : State) :
    (raise k s).alert.mode = s.alert.mode := by
  unfold raise
  split
  · rfl
  · rw [h, react]
    split <;> simp

/-- The trip input read at a reset leaves the mode of ALERT as the reset gives it (R106). -/
theorem tripAtReset_alertMode (s : State) : (tripAtReset s).alert.mode = s.alert.mode := by
  unfold tripAtReset
  split
  · exact raise_alertMode_of_safe rfl s
  · rfl

/-! ### The resets (R176, R193) -/

/-- A pin reset leaves the mode LEVEL (R176). -/
theorem pinReset_alertMode (pins : ResetPins) (s : State) : (pinReset pins s).alert.mode = .level :=
  tripAtReset_alertMode _

/-- A RESTART keeps the mode (R176). -/
theorem restartPart_alertMode (pins : ResetPins) (s : State) : (restartPart pins s).alert.mode = s.alert.mode :=
  tripAtReset_alertMode _

/-- A transmitter that is not QUIET is SENDING (R187). -/
theorem isSending_of_ne_quiet {x : Transmitter} (h : x ≠ .quiet) : x.isSending = true := by
  cases x with
  | quiet => exact absurd rfl h
  | sending bytes => rfl

/-- The end of the reply to a RESTART restarts the part (R193). -/
theorem replyEnds_of_restartDue (pins : ResetPins) (s : State) (ht : s.link.tx ≠ .quiet) (hd : s.link.restartDue = true) :
    replyEnds pins s = restartPart pins s := by
  rw [replyEnds, if_pos (isSending_of_ne_quiet ht), if_pos hd]

/-! ### ALERT_MODE (R176) -/

/-- The number of a mode names the mode (R175). -/
theorem alertModeOf_number {m : Byte} {x : AlertMode} (h : m.toNat = alertModeNumber x) : alertModeOf m = some x := by
  rw [alertModeOf, h]
  cases x <;> rfl

/-- A value above 3 names no mode. -/
theorem alertModeOf_of_gt {m : Byte} (h : 3 < m.toNat) : alertModeOf m = none := by
  unfold alertModeOf
  split
  case h_5 => rfl
  all_goals omega

/-- An ALERT_MODE that is heard outside CALIBRATING comes to the ALERT items (R26). -/
theorem exec_alertMode (tag m : Byte) (s : State) (h : s.hears) (hm : s.modes.mode ≠ .calibrating) :
    exec (.alertMode tag m) s = .next (actAlertMode m (s.owing .alertMode tag)) :=
  exec_act tag false (.alertMode m) s h (bne_iff_ne.mpr hm) rfl

/-- A value that names no mode is refused with BAD_VALUE. -/
theorem actAlertMode_of_gt {m : Byte} (h : 3 < m.toNat) (s : State) :
    actAlertMode m s = refuse (.alertMode m) .badValue 0 s := by
  rw [actAlertMode, alertModeOf_of_gt h]

/-- A named mode is taken with the output at rest and nothing pending, and answered with its number. -/
theorem actAlertMode_of_number {m : Byte} {x : AlertMode} (h : m.toNat = alertModeNumber x) (s : State) :
    actAlertMode m s
      = accept (fun _ => [m]) { s with alert := { s.alert with mode := x, phase := .rest, pending := 0 } } := by
  rw [actAlertMode, alertModeOf_number h, ← u8_toNat m, h]

/-- At rest the output is low by the attention flag in LEVEL, and high in the pulse modes (R175). -/
theorem alertLow_of_rest (s : State) (h : s.alert.phase = .rest) :
    s.alertLow = (s.alert.mode == .level && s.alert.attention) := by
  unfold State.alertLow
  rw [h]
  cases s.alert.mode <;> rfl

/-- Settles O57: the resets by the frames of the ALERT mode, the request by the mode check and the value. -/
theorem alertModeTaken : Obligations.AlertModeTaken := by
  refine ⟨fun pins s => ⟨⟨_, rfl, pinReset_alertMode pins s⟩, fun ht hd => ⟨_, rfl, ?restart⟩⟩,
    fun tag m s h => ⟨fun hm => ?wrongMode, fun hm hv => ?badValue, fun x hm hx => ?taken⟩⟩
  case restart =>
    have hends := congrArg (·.alert.mode) (replyEnds_of_restartDue pins s ht hd)
    exact hends.trans (restartPart_alertMode pins s)
  case wrongMode => exact exec_wrongMode tag false (.alertMode m) s h (bne_eq_false_iff_eq.mpr hm)
  case badValue =>
    rw [exec_alertMode tag m s h hm, actAlertMode_of_gt hv, refuse_owing]
    rfl
  case taken =>
    refine ⟨_, ?_, rfl, alertLow_of_rest _ rfl⟩
    rw [exec_alertMode tag m s h hm, actAlertMode_of_number hx]
    rfl

end Sys2Proof.Machine
end

section
/-! PROOFS. Promises that outlast every step. A promise is a predicate on states. What keeps it is said once, block by block: by
how much an operation may change a block while the promise stands. Every operation of the model is then a chain of such
changes, so that each promise has to be compared with the blocks alone. -/

namespace Sys2Proof.Machine

/-! ### What an operation below the Mode Controller may do to a block -/

/-- What the places and the tags of the boards rest on in a record (R31, R34, R38). -/
def Record.outline (r : Record) : Nat × Stage × Option Count24 := (r.tag, r.stage, r.entry)

/-- What they rest on in the admission in progress (R27, R38). -/
def Admission.outline (a : Admission) : Nat × Bool := (a.tag, a.timer.isSome)

/-- The leading edge of the admitted board: its record takes the encoder count and is CONVEYED (R39). -/
def Record.convey (c : Count24) (r : Record) : Record := { r with entry := some c, stage := .conveyed }

/-- The exit sensor matches a record (R51). -/
def Record.meetExit (r : Record) : Record := { r with matched := true, stage := .exiting }

/-- The boards of one tracker stand as those of another. -/
structure Tracker.SameBoards (x y : Tracker) : Prop where
  queue : x.queue = y.queue
  records : x.records.map Record.outline = y.records.map Record.outline
  admission : x.admission.map Admission.outline = y.admission.map Admission.outline

/-- No grant that was 0 has risen. -/
structure Heaters.Grants0Kept (x y : Heaters) : Prop where
  pot : y.pot.grant = 0 → x.pot.grant = 0
  zone : ∀ k, (y.zones.get k).grant = 0 → (x.zones.get k).grant = 0

/-- Both images of the store have their thirty-two recipe slots and eight thermal sets. -/
structure Store.Whole (x : Store) : Prop where
  workRecipes : x.work.recipes.length = 32
  workSets : x.work.sets.length = 8
  arrayRecipes : x.array.recipes.length = 32
  arraySets : x.array.sets.length = 8

/-- A promise that every operation below the Mode Controller keeps. A field that a promise does not name is one whose block the
promise does not read. -/
structure KeptBelow (P : State → Prop) : Prop where
  link : ∀ (s : State) (x : Link), P s → P (s.setLink x) := by exact fun _ _ h => h
  alert : ∀ (s : State) (x : Alert), P s → P { s with alert := x } := by exact fun _ _ h => h
  maps : ∀ (s : State) (x : Compositor), P s → P { s with maps := x } := by exact fun _ _ h => h
  clock : ∀ (s : State) (u f : Nat), P s → P { s with uptime := u, freeIndex := f } := by exact fun _ _ _ h => h
  queue : ∀ (s : State) (cs : List Instr), P s → P { s with pending := cs } := by exact fun _ _ h => h
  scan : ∀ (s : State) (x : Scanner), x.slots.length = s.scan.slots.length → P s → P (s.setScan x) := by exact fun _ _ _ h => h
  store : ∀ (s : State) (x : Store), (s.store.Whole → x.Whole) → P s → P (s.setStore x) := by exact fun _ _ _ h => h
  alarm : ∀ (s : State) (k : AlarmKind) (e : AlarmEntry), e.count ≤ max 255 (s.alarm k).count →
    (k = .supplyLow → e.state.present = true → s.supplyLow = true) → P s → P { s with alarms := s.alarms.set k e } := by
      exact fun _ _ _ _ _ h => h
  supply : ∀ s : State, P s → P (zeroGrants (occurrence .supplyLow .active s)) := by exact fun _ h => h
  heat : ∀ (s : State) (x : Heaters), x.Grants0Kept s.heat → P s → P (s.setHeat x) := by exact fun _ _ _ h => h
  share : ∀ (s : State) (x : Heaters), (s.forcedZero = true → x.pot.grant = 0 ∧ ∀ k, (x.zones.get k).grant = 0) → P s → P (s.setHeat x) := by
    exact fun _ _ _ h => h
  potWave : ∀ (s : State) (p : PotCtl) (w : Wave), p.fumeHot = s.pot.fumeHot →
    ((s.pot.molten = false → s.wave.output = 0) → p.molten = false → w.output = 0) →
    P s → P ((s.setPot p).setWave w) := by exact fun _ _ _ _ _ h => h
  extr : ∀ (s : State) (x : Extraction), (x.fan = s.extr.fan ∨ x.fan = s.fanWanted) → (x.forcedDue = true → s.extr.forcedDue = true) →
    (s.spray.sprayOpen = true ∨ s.spray.purgeOpen = true → s.extr.state.sound = true → x.state.sound = true) →
    P s → P (s.setExtr x) := by exact fun _ _ _ _ _ h => h
  spray : ∀ (s : State) (x : Spray), x.queue.length ≤ max 4 s.spray.queue.length →
    (x.sprayOpen = true → s.spray.sprayOpen = true ∨ s.extr.state.sound = true) →
    (x.purgeOpen = true → s.spray.purgeOpen = true ∨ s.extr.state.sound = true) → P s → P (s.setSpray x) := by
      exact fun _ _ _ _ _ h => h
  tracker : ∀ (s : State) (x : Tracker), x.SameBoards s.tracker → P s → P (s.setTracker x) := by exact fun _ _ _ h => h
  report : ∀ (s : State) (tag : Nat) (p : Report), (s.record? tag).isSome = true → P s → P (joinReport p (dropRecord tag s)) := by
    exact fun _ _ _ _ h => h
  gateOpened : ∀ (s : State) (a : Announcement) (rest : List Announcement) (b : BufferId) (rows : Nat), s.mayAdmit = true → s.tracker.queue = a :: rest → P s →
    P (s.setTracker { s.tracker with queue := rest, records := s.tracker.records ++ [newRecord a b rows],
                                     admission := some { tag := a.tag, timer := some 0 }, gateOpen := true }) := by
      exact fun _ _ _ _ _ _ _ h => h
  rise : ∀ (s : State) (a : Admission) (c : Count24), P s →
    P ((updateRecord a.tag (Record.convey c) s).setTracker
      { (updateRecord a.tag (Record.convey c) s).tracker with admission := some { a with timer := none } }) := by
      exact fun _ _ _ h => h
  fall : ∀ (s : State) (x : Tracker), x.queue = s.tracker.queue → x.records.map Record.outline = s.tracker.records.map Record.outline →
    x.admission = none → P s → P (s.setTracker x) := by exact fun _ _ _ _ _ h => h
  returned : ∀ (s : State) (d : Admission) (a : Announcement), s.tracker.admission = some d → d.timer.isSome = true →
    (s.record? a.tag).isSome = true → a.tag = d.tag → P s →
    P ((dropRecord a.tag s).setTracker { (dropRecord a.tag s).tracker with
      queue := a :: s.tracker.queue, admission := none }) := by exact fun _ _ _ _ _ _ _ h => h
  matched : ∀ (s : State) (r : Record), s.exitCandidate? = some r → P s →
    P (updateRecord r.tag Record.meetExit s) := by exact fun _ _ _ h => h
  joined : ∀ (s : State) (a : Announcement), s.announced a.tag = false → s.inTransit a.tag = false → s.freePlaces ≠ 0 → P s →
    P (announce a s) := by exact fun _ _ _ _ _ h => h
  withdrawn : ∀ (s : State) (tag : Nat), P s → P (withdraw tag s) := by exact fun _ _ h => h
  taken : ∀ (s : State) (p : Report) (rest : List Report), s.reports.queue = p :: rest → P s →
    P { s with reports := { s.reports with queue := rest } } := by exact fun _ _ _ _ h => h
  reset : ∀ (s : State) (pins : ResetPins) (alarms : AlarmTable) (alert : Alert) (link : Link) (mark waits : Bool),
    (∀ k, (alarms.get k).count ≤ max 255 (s.alarm k).count) → P s →
    P (resetWith pins alarms alert link mark waits s)

end Sys2Proof.Machine
end

section
/-! PROOFS. What the Alarm Table, the records, the Map Compositor and the Spray Controller do keeps every promise that is kept
block by block. -/

namespace Sys2Proof.Machine

/-! ### Alarm entries and records -/

variable {P : State → Prop} {s : State}

theorem present_disappear (e : AlarmEntry) : e.disappear.state.present = false := by
  unfold AlarmEntry.disappear
  split <;> simp_all [AlarmState.present]

@[simp] theorem count_disappear (e : AlarmEntry) : e.disappear.count = e.count := by
  unfold AlarmEntry.disappear
  split <;> rfl

@[simp] theorem count_acknowledge (e : AlarmEntry) : e.acknowledge.count = e.count := by
  unfold AlarmEntry.acknowledge
  split <;> rfl

theorem present_acknowledge (e : AlarmEntry) : e.acknowledge.state.present = e.state.present := by
  unfold AlarmEntry.acknowledge
  split <;> simp_all [AlarmState.present]

theorem occurrence_kept (h : KeptBelow P) {k : AlarmKind} (st : AlarmState) (hk : k ≠ .supplyLow) (hs : P s) :
    P (occurrence k st s) :=
  h.alert _ _ (h.alarm s k _ (le_max_of_le_left (min_le_left _ _)) (fun hk' => absurd hk' hk) hs)

theorem eventOccurs_kept (h : KeptBelow P) {k : AlarmKind} (hk : k ≠ .supplyLow) (hs : P s) : P (eventOccurs k s) :=
  occurrence_kept h .latched hk hs

theorem conditionAppears_kept (h : KeptBelow P) {k : AlarmKind} (hk : k ≠ .supplyLow) (hs : P s) :
    P (conditionAppears k s) := by
  unfold conditionAppears
  split
  · exact hs
  · exact occurrence_kept h .active hk hs

theorem conditionEnds_kept (h : KeptBelow P) (k : AlarmKind) (hs : P s) : P (conditionEnds k s) :=
  h.alarm s k _ (by simp) (fun _ hp => by simp [present_disappear] at hp) hs

theorem judgeQuiet_kept (h : KeptBelow P) {k : AlarmKind} (b : Bool) (hk : k ≠ .supplyLow) (hs : P s) :
    P (judgeQuiet k b s) := by
  unfold judgeQuiet
  split
  · exact conditionAppears_kept h hk hs
  · exact conditionEnds_kept h k hs

/-- A change of the records that moves no board keeps a promise. -/
theorem mapRecords_kept (h : KeptBelow P) {f : Record → Record} (hf : ∀ r, (f r).outline = r.outline) (hs : P s) :
    P (mapRecords f s) :=
  h.tracker s _ ⟨rfl, by simp [Function.comp_def, hf], rfl⟩ hs

theorem updateRecord_kept (h : KeptBelow P) (tag : Nat) {f : Record → Record} (hf : ∀ r, (f r).outline = r.outline)
    (hs : P s) : P (updateRecord tag f s) :=
  mapRecords_kept h (fun r => by split <;> simp [hf]) hs

@[simp] theorem outline_except (k : ExcKind) (r : Record) : (r.except k).outline = r.outline := rfl
@[simp] theorem outline_addDose (n : Nat) (r : Record) : (r.addDose n).outline = r.outline := rfl
@[simp] theorem outline_sprayRow (n : Nat) (r : Record) : (r.sprayRow n).outline = r.outline := rfl
@[simp] theorem outline_skipRow (k : ExcKind) (n : Nat) (r : Record) : (r.skipRow k n).outline = r.outline := rfl
@[simp] theorem outline_takeDrive (n : Nat) (r : Record) : (r.takeDrive n).outline = r.outline := by
  unfold Record.takeDrive; split <;> rfl
@[simp] theorem outline_waveShort (r : Record) : r.waveShort.outline = r.outline := by
  unfold Record.waveShort; split <;> rfl
@[simp] theorem outline_safePass (r : Record) : r.safePass.outline = r.outline := by
  unfold Record.safePass; split <;> rfl

/-! ### The Map Compositor and the Spray Controller -/

theorem compositionTest_kept (h : KeptBelow P) (hs : P s) : P (compositionTest s) := by
  obtain ⟨m, hm⟩ := compositionTest_eq s
  rw [hm]
  exact h.maps s m hs

theorem completeComposition_kept (h : KeptBelow P) (hs : P s) : P (completeComposition s) := by
  unfold completeComposition
  split
  · exact compositionTest_kept h (h.maps s _ hs)
  · exact hs

theorem releaseBuffer_kept (h : KeptBelow P) (b : BufferId) (hs : P s) : P (releaseBuffer b s) :=
  compositionTest_kept h (mapRecords_kept h (fun r => by split <;> rfl) (h.maps s _ hs))

theorem rowResolved_kept (h : KeptBelow P) (b : BufferId) (hs : P s) : P (rowResolved b s) := by
  unfold rowResolved
  split
  · exact hs
  · dsimp only
    split
    · exact releaseBuffer_kept h b (h.maps s _ hs)
    · exact h.maps s _ hs

theorem skipRow_kept (h : KeptBelow P) (tag : Nat) (b : BufferId) (k : ExcKind) (dose : Nat) (hs : P s) :
    P (skipRow tag b k dose s) :=
  rowResolved_kept h b (updateRecord_kept h tag (outline_skipRow k dose) hs)

theorem sprayRow_kept (h : KeptBelow P) (tag : Nat) (b : BufferId) (dose : Nat) (hs : P s) :
    P (sprayRow tag b dose s) :=
  rowResolved_kept h b (updateRecord_kept h tag (outline_sprayRow dose) hs)

/-- A change of the spray items that opens no valve and lets no queue grow past its capacity keeps a promise. -/
theorem setSpray_kept (h : KeptBelow P) {x : Spray} (hq : x.queue.length ≤ max 4 s.spray.queue.length)
    (ho : x.sprayOpen = true → s.spray.sprayOpen = true) (hp : x.purgeOpen = true → s.spray.purgeOpen = true)
    (hs : P s) : P (s.setSpray x) :=
  h.spray s x hq (fun hx => .inl (ho hx)) (fun hx => .inl (hp hx)) hs

@[simp] theorem releaseBuffer_spray (b : BufferId) (s : State) : (releaseBuffer b s).spray = s.spray := by
  obtain ⟨m, hm⟩ := compositionTest_eq (mapRecords (fun r => if r.buffer = some b then { r with buffer := none } else r)
    { s with maps := { buffers := s.maps.buffers.set b none, order := s.maps.order.filter (fun c => c ≠ b),
                       working := if s.maps.order.head? = some b then none else s.maps.working } })
  unfold releaseBuffer
  rw [hm]
  rfl

@[simp] theorem rowResolved_spray (b : BufferId) (s : State) : (rowResolved b s).spray = s.spray := by
  unfold rowResolved
  split
  · rfl
  · dsimp only
    split
    · exact releaseBuffer_spray b _
    · rfl

@[simp] theorem skipRow_spray (tag : Nat) (b : BufferId) (k : ExcKind) (dose : Nat) (s : State) :
    (skipRow tag b k dose s).spray = s.spray := rowResolved_spray b _

@[simp] theorem sprayRow_spray (tag : Nat) (b : BufferId) (dose : Nat) (s : State) :
    (sprayRow tag b dose s).spray = s.spray := rowResolved_spray b _

@[simp] theorem conditionAppears_spray (k : AlarmKind) (s : State) : (conditionAppears k s).spray = s.spray := by
  unfold conditionAppears; split <;> rfl

@[simp] theorem dropRow_spray (e : StrokeEntry) (k : ExcKind) (p : Bool) (s : State) : (dropRow e k p s).spray = s.spray := by
  unfold dropRow; split <;> simp

theorem dropRow_kept (h : KeptBelow P) (e : StrokeEntry) (k : ExcKind) (p : Bool) (hs : P s) : P (dropRow e k p s) := by
  unfold dropRow
  split
  · exact conditionAppears_kept h (by simp) (skipRow_kept h _ _ _ _ hs)
  · exact skipRow_kept h _ _ _ _ hs

theorem serveRows_kept (h : KeptBelow P) (es : List StrokeEntry) (hl : es.length ≤ max 4 s.spray.queue.length + 1) (hs : P s) :
    P (serveRows es s) := by
  induction es generalizing s with
  | nil => exact setSpray_kept h (by simp) id id hs
  | cons e rest ih =>
    have hr : rest.length ≤ max 4 s.spray.queue.length := by simpa using hl
    unfold serveRows
    split
    · exact setSpray_kept h (by simp) id id (setSpray_kept h hr id id hs)
    · exact ih (by simp; omega) (dropRow_kept h _ _ _ hs)

theorem serveQueue_kept (h : KeptBelow P) (hs : P s) : P (serveQueue s) := by
  unfold serveQueue
  split
  · exact hs
  · exact serveRows_kept h _ (by omega) hs

theorem rowArrives_kept (h : KeptBelow P) (e : StrokeEntry) (hs : P s) : P (rowArrives e s) := by
  unfold rowArrives
  split
  · exact skipRow_kept h _ _ _ _ hs
  · split
    · exact serveRows_kept h _ (by simp) hs
    · split
      next hl => exact setSpray_kept h (by simp only [Config.maxStrokes] at hl; simp; omega) id id hs
      · exact skipRow_kept h _ _ _ _ hs

theorem haltTraverse_kept (h : KeptBelow P) (hs : P s) : P (haltTraverse s) :=
  setSpray_kept h (by simp) (by simp) (by simp) hs

theorem cutStroke_kept (h : KeptBelow P) (k : ExcKind) (hs : P s) : P (cutStroke k s) := by
  unfold cutStroke
  split
  · exact skipRow_kept h _ _ _ _ (haltTraverse_kept h hs)
  · exact hs
  · exact hs

theorem cutPurge_kept (h : KeptBelow P) (hs : P s) : P (cutPurge s) := by
  unfold cutPurge
  split
  · exact setSpray_kept h (by simp) id id (haltTraverse_kept h hs)
  · exact hs
  · exact hs

theorem skipRows_kept (h : KeptBelow P) (es : List StrokeEntry) (hs : P s) : P (skipRows es s) := by
  induction es generalizing s with
  | nil => exact setSpray_kept h (by simp) id id hs
  | cons e rest ih => exact ih (skipRow_kept h _ _ _ _ hs)

theorem spraySafe_kept (h : KeptBelow P) (hs : P s) : P (spraySafe s) :=
  setSpray_kept h (by simp) (by simp) (by simp) (cutPurge_kept h (skipRows_kept h _ (cutStroke_kept h _ hs)))

theorem sprayExtractionLost_kept (h : KeptBelow P) (hs : P s) : P (sprayExtractionLost s) := by
  unfold sprayExtractionLost
  split
  · exact setSpray_kept h (by simp) (by simp) (by simp) hs
  · exact serveQueue_kept h (cutStroke_kept h _ hs)
  · exact serveQueue_kept h (cutPurge_kept h hs)

theorem sprayClear_kept (h : KeptBelow P) (tag : Nat) (hs : P s) : P (sprayClear tag s) := by
  have ht : P (s.setSpray { s.spray with queue := s.spray.queue.filter (fun e => e.tag ≠ tag) }) :=
    setSpray_kept h (le_max_of_le_right (List.length_filter_le _ _)) id id hs
  unfold sprayClear
  dsimp only
  split
  · split
    · exact serveQueue_kept h (updateRecord_kept h _ (outline_addDose _) (haltTraverse_kept h ht))
    · exact ht
  · exact ht
  · exact ht

theorem strokePhaseEnds_kept (h : KeptBelow P) (hs : P s) : P (strokePhaseEnds s) := by
  unfold strokePhaseEnds
  split
  · split
    · exact setSpray_kept h (by simp) id id hs
    · exact setSpray_kept h (by simp) id id hs
    · exact hs
  · exact hs
  · exact hs

theorem cellEntered_kept (h : KeptBelow P) (hs : P s) : P (cellEntered s) := by
  unfold cellEntered
  split
  · split
    · exact h.spray s _ (by simp) (fun hx => .inr (by simp at hx; exact hx.2)) .inl hs
    · exact hs
  · exact hs
  · exact hs

theorem valveTimeEnds_kept (h : KeptBelow P) (hs : P s) : P (valveTimeEnds s) := by
  unfold valveTimeEnds
  split
  · split
    · exact setSpray_kept h (by simp) (by simp) id hs
    · exact hs
  · exact hs
  · exact hs

theorem strokeCompletes_kept (h : KeptBelow P) (hs : P s) : P (strokeCompletes s) := by
  unfold strokeCompletes
  split
  · split
    · exact serveQueue_kept h (sprayRow_kept h _ _ _ (setSpray_kept h (by simp) (by simp) id hs))
    · exact hs
  · exact hs
  · exact hs

theorem beginPurge_kept (h : KeptBelow P) (hs : P s) : P (beginPurge s) := by
  unfold beginPurge
  split
  · exact h.spray s _ (by simp) .inl .inr hs
  · exact setSpray_kept h (by simp) id id hs

theorem purgeParks_kept (h : KeptBelow P) (hs : P s) : P (purgeParks s) := by
  unfold purgeParks
  split
  · exact h.spray s _ (by simp) .inl .inr hs
  · exact hs
  · exact hs
  · exact hs

theorem purgeCompletes_kept (h : KeptBelow P) (hs : P s) : P (purgeCompletes s) := by
  unfold purgeCompletes
  split
  · exact serveQueue_kept h (setSpray_kept h (by simp) id (by simp) hs)
  · exact hs
  · exact hs
  · exact hs

end Sys2Proof.Machine
end

section
/-! PROOFS. The heaters, the pot, the wave, the extraction, and the blocks at a mode entry: what they do keeps every promise that
is kept block by block. -/

namespace Sys2Proof.Machine

variable {P : State → Prop} {s : State}

/-! ### The Heater Loops -/

/-- A change of every zone record that raises no grant keeps a promise. -/
theorem mapZones_kept (h : KeptBelow P) {f : ZoneId → Zone → Zone} (hf : ∀ k z, z.grant = 0 → (f k z).grant = 0)
    (hs : P s) : P (s.mapZones f) :=
  h.heat s _ ⟨id, fun k hk => by simpa using hf k _ hk⟩ hs

theorem updZone_kept (h : KeptBelow P) (k : ZoneId) {f : Zone → Zone} (hf : ∀ z, z.grant = 0 → (f z).grant = 0)
    (hs : P s) : P (s.updZone k f) := by
  refine h.heat s _ ⟨id, fun j hj => ?_⟩ hs
  by_cases hjk : j = k
  · subst hjk; simpa using hf _ hj
  · simpa [six_get_set_other _ _ _ _ hjk] using hj

theorem settleLoops_kept (h : KeptBelow P) (hs : P s) : P (settleLoops s) := by
  refine h.heat s _ ⟨fun hp => ?_, fun k hk => ?_⟩ hs
  · dsimp only; split
    · exact hp
    · rfl
  · simp only [six_get_mapZones]; split
    · exact hk
    · rfl

theorem updateZoneLoop_kept (h : KeptBelow P) (k : ZoneId) (t : Int) (hs : P s) : P (updateZoneLoop k t s) := by
  unfold updateZoneLoop
  exact updZone_kept h k (fun _ hz => hz) hs

theorem updatePotLoop_kept (h : KeptBelow P) (t : Int) (hs : P s) : P (updatePotLoop t s) :=
  h.heat s _ ⟨id, fun _ hk => hk⟩ hs

theorem cutZoneLoop_kept (h : KeptBelow P) (k : ZoneId) (hs : P s) : P (cutZoneLoop k s) :=
  updZone_kept h k (fun _ _ => rfl) hs

theorem cutPotLoop_kept (h : KeptBelow P) (hs : P s) : P (cutPotLoop s) :=
  h.heat s _ ⟨fun _ => rfl, fun _ hk => hk⟩ hs

theorem shareGrants_kept (h : KeptBelow P) (hs : P s) : P (shareGrants s) := by
  unfold shareGrants
  split
  · exact h.share s _ (fun _ => ⟨rfl, fun k => by simp⟩) hs
  next hz => exact h.share s _ (fun hz' => absurd hz' hz) hs

theorem setCutMarks_kept (h : KeptBelow P) (hs : P s) : P (setCutMarks s) :=
  h.heat s _ ⟨id, fun k hk => by simpa using hk⟩ hs

theorem fireSlot_kept (h : KeptBelow P) (hs : P s) : P (fireSlot s) := h.heat s _ ⟨id, fun _ hk => hk⟩ hs

theorem startFrame_kept (h : KeptBelow P) (hs : P s) : P (startFrame s) :=
  fireSlot_kept h (setCutMarks_kept h (shareGrants_kept h (h.heat s _ ⟨id, fun _ hk => hk⟩ hs)))

theorem slotEnds_kept (h : KeptBelow P) (hs : P s) : P (slotEnds s) := by
  unfold slotEnds
  split
  · exact fireSlot_kept h (h.heat s _ ⟨id, fun _ hk => hk⟩ hs)
  · exact startFrame_kept h hs

theorem zeroGrants_kept (h : KeptBelow P) (hs : P s) : P (zeroGrants s) :=
  h.heat s _ ⟨fun _ => rfl, fun k _ => by simp⟩ hs

/-- SUPPLY_LOW appears together with every grant's becoming 0 (R107). -/
theorem supplyAppears_kept (h : KeptBelow P) (hs : P s) : P (zeroGrants (conditionAppears .supplyLow s)) := by
  unfold conditionAppears
  split
  · exact zeroGrants_kept h hs
  · exact h.supply s hs

theorem judgeSupply_kept (h : KeptBelow P) (hs : P s) : P (judgeSupply s) := by
  unfold judgeSupply
  split
  · exact supplyAppears_kept h hs
  · exact conditionEnds_kept h _ hs

theorem clearWarmFail_kept (h : KeptBelow P) (hs : P s) : P (clearWarmFail s) :=
  conditionEnds_kept h _ (mapZones_kept h (fun _ _ hz => hz) hs)

theorem startStandbyZones_kept (h : KeptBelow P) (hs : P s) : P (startStandbyZones s) :=
  mapZones_kept h (fun _ _ hz => hz) hs

theorem idleMarks_kept (h : KeptBelow P) (hs : P s) : P (idleMarks s) :=
  conditionEnds_kept h _ (clearWarmFail_kept h (mapZones_kept h (fun _ _ hz => hz) hs))

theorem giveBoosts_kept (h : KeptBelow P) (hs : P s) : P (giveBoosts s) := mapZones_kept h (fun _ _ hz => hz) hs

/-! ### The Pot Controller -/

/-- A change of the pot items that leaves the molten state and the fume signal keeps a promise. -/
theorem setPot_kept (h : KeptBelow P) {p : PotCtl} (hm : p.molten = false → s.pot.molten = false)
    (hf : p.fumeHot = s.pot.fumeHot) (hs : P s) : P (s.setPot p) :=
  h.potWave s p s.wave hf (fun hw hp => hw (hm hp)) hs

/-- A change of the wave items that leaves the output keeps a promise. -/
theorem setWave_kept (h : KeptBelow P) {w : Wave} (ho : w.output = s.wave.output) (hs : P s) : P (s.setWave w) :=
  h.potWave s s.pot w rfl (fun hw hp => ho.trans (hw hp)) hs

theorem readFinger_kept (h : KeptBelow P) (b : Bool) (hs : P s) : P (readFinger b s) := setWave_kept h rfl hs

@[simp] theorem watchDrive_molten (t n : Nat) (p : PotCtl) : (watchDrive t n p).molten = p.molten := by
  unfold watchDrive; split <;> rfl

@[simp] theorem watchDrive_fumeHot (t n : Nat) (p : PotCtl) : (watchDrive t n p).fumeHot = p.fumeHot := by
  unfold watchDrive; split <;> rfl

/-- With the pot not molten the wave output is 0 (R131). -/
theorem waveTarget_of_not_molten (h : s.pot.molten = false) : s.waveTarget = 0 := by
  simp [State.waveTarget, h]

theorem waveSync_kept (h : KeptBelow P) (hs : P s) : P (waveSync s) := by
  unfold waveSync driveWave
  split
  · exact hs
  · refine mapRecords_kept h (outline_takeDrive _) (h.potWave s (watchDrive s.driveThreshold s.waveTarget s.pot)
      { s.wave with output := s.waveTarget } (watchDrive_fumeHot _ _ _) (fun _ hp => ?_) hs)
    exact waveTarget_of_not_molten (by simpa using hp)

/-- The pot's becoming not molten turns the wave off within the event (R117, R131). -/
theorem waveSync_of_not_molten_kept (h : KeptBelow P) {p : PotCtl} (hm : p.molten = false)
    (hf : p.fumeHot = s.pot.fumeHot) (hs : P s) : P (waveSync (s.setPot p)) := by
  unfold waveSync driveWave
  rw [waveTarget_of_not_molten (s := s.setPot p) hm]
  split
  next ho => exact h.potWave s p s.wave hf (fun _ _ => ho.symm) hs
  · exact mapRecords_kept h (outline_takeDrive _) (h.potWave s (watchDrive s.driveThreshold 0 p)
      { s.wave with output := 0 } (by simp [hf]) (fun _ _ => rfl) hs)

theorem judgeSide_kept (h : KeptBelow P) (side : WaveSide) (hs : P s) : P (judgeSide side s) := by
  have ht : P (s.setWave { s.wave with side := side }) := setWave_kept h rfl hs
  have hu : P (if side = .none then conditionEnds .waveLimit (s.setWave { s.wave with side := side })
      else conditionAppears .waveLimit (s.setWave { s.wave with side := side })) := by
    split
    · exact conditionEnds_kept h _ ht
    · exact conditionAppears_kept h (by simp) ht
  unfold judgeSide
  dsimp only
  split
  · exact mapRecords_kept h outline_waveShort hu
  · exact hu

theorem computeDrive_kept (h : KeptBelow P) (level : Int) (hs : P s) : P (computeDrive level s) :=
  waveSync_kept h (setWave_kept h rfl (judgeSide_kept h _ hs))

theorem waveAtMode_kept (h : KeptBelow P) (old new : Mode) (hs : P s) : P (waveAtMode old new s) := by
  unfold waveAtMode
  split
  · exact computeDrive_kept h _ hs
  · split
    · exact judgeSide_kept h _ (waveSync_kept h (setWave_kept h rfl hs))
    · exact waveSync_kept h hs

theorem stopFeeder_kept (h : KeptBelow P) (hs : P s) : P (stopFeeder s) := setPot_kept h id rfl hs

theorem feedTest_kept (h : KeptBelow P) (v : Int) (hs : P s) : P (feedTest v s) := by
  unfold feedTest
  split
  · exact setPot_kept h id rfl hs
  · exact hs

theorem feedTestNow_kept (h : KeptBelow P) (hs : P s) : P (feedTestNow s) := by
  unfold feedTestNow
  split
  · exact feedTest_kept h _ hs
  · exact hs

theorem feedUpdate_kept (h : KeptBelow P) (v : Int) (hs : P s) : P (feedUpdate v s) := by
  unfold feedUpdate
  split
  · split
    · exact stopFeeder_kept h hs
    · split
      · exact setPot_kept h id rfl hs
      · exact hs
  · exact feedTest_kept h v hs

theorem feedAtActivity_kept (h : KeptBelow P) (hs : P s) : P (feedAtActivity s) := by
  unfold feedAtActivity
  split
  · exact feedTestNow_kept h hs
  · exact stopFeeder_kept h hs

theorem afterLoops_kept (h : KeptBelow P) (hs : P s) : P (afterLoops s) := feedAtActivity_kept h (settleLoops_kept h hs)

/-! ### The Extraction Monitor -/

theorem sound_iff (e : ExtState) : e.sound = true ↔ e = .proven ∨ e = .warn := by
  cases e <;> simp [ExtState.sound]

@[simp] theorem retime_state (e : Extraction) : e.retime.state = e.state := by
  cases hs : e.state <;> simp [Extraction.retime, hs]

@[simp] theorem retime_fan (e : Extraction) : e.retime.fan = e.fan := by
  cases hs : e.state <;> simp [Extraction.retime, hs]

@[simp] theorem retime_forcedDue (e : Extraction) : e.retime.forcedDue = e.forcedDue := by
  cases hs : e.state <;> simp [Extraction.retime, hs]

@[simp] theorem enter_extState (new : ExtState) (e : Extraction) : (e.enter new).state = new := by simp [Extraction.enter]

@[simp] theorem enter_extFan (new : ExtState) (e : Extraction) : (e.enter new).fan = e.fan := by simp [Extraction.enter]

@[simp] theorem enter_forcedDue (new : ExtState) (e : Extraction) : (e.enter new).forcedDue = e.forcedDue := by
  simp [Extraction.enter]

@[simp] theorem graceAt_state (f c : Bool) (e : Extraction) : (e.graceAt f c).state = e.state := by
  unfold Extraction.graceAt; repeat' split
  all_goals rfl

@[simp] theorem graceAt_fan (f c : Bool) (e : Extraction) : (e.graceAt f c).fan = e.fan := by
  unfold Extraction.graceAt; repeat' split
  all_goals rfl

/-- The judgement of the grace timer never makes forced standby due (R151). -/
theorem graceAt_forcedDue {f c : Bool} {e : Extraction} (h : (e.graceAt f c).forcedDue = true) : e.forcedDue = true := by
  unfold Extraction.graceAt at h
  cases f with
  | false => exact absurd h Bool.false_ne_true
  | true => cases hg : e.grace <;> rw [hg] at h <;> exact h

/-- A change of the monitor's items that leaves the fan command and the state, and makes no forced standby due. -/
theorem setExtr_kept (h : KeptBelow P) {x : Extraction} (hf : x.fan = s.extr.fan) (he : x.state = s.extr.state)
    (hd : x.forcedDue = true → s.extr.forcedDue = true) (hs : P s) : P (s.setExtr x) :=
  h.extr s x (.inl hf) hd (fun _ hx => by rw [he]; exact hx) hs

/-- Both valves shut. -/
def shutValves (s : State) : State := s.setSpray { s.spray with sprayOpen := false, purgeOpen := false }

theorem shutValves_kept (h : KeptBelow P) (hs : P s) : P (shutValves s) :=
  setSpray_kept h (by simp) (by simp) (by simp) hs

/-- What the loss of the extraction does to the spray does not ask how the valves stood: it shuts them in any case. -/
theorem sprayExtractionLost_shutValves (s : State) : sprayExtractionLost (shutValves s) = sprayExtractionLost s := by
  obtain ⟨modes, tracker, maps, ⟨position, running, queue, sprayOpen, purgeOpen, purge⟩, _⟩ := s
  cases running <;> rfl

theorem judgeQuiet_shutValves (k : AlarmKind) (b : Bool) (s : State) :
    judgeQuiet k b (shutValves s) = shutValves (judgeQuiet k b s) := by
  have hc : (shutValves s).condition k = s.condition k := rfl
  unfold judgeQuiet conditionAppears
  rw [hc]
  repeat' split
  all_goals rfl

theorem changeExtraction_kept (h : KeptBelow P) (new : ExtState) (hs : P s) : P (changeExtraction new s) := by
  unfold changeExtraction
  dsimp only
  split
  next hl =>
    rw [← sprayExtractionLost_shutValves, ← judgeQuiet_shutValves, ← judgeQuiet_shutValves]
    refine sprayExtractionLost_kept h (judgeQuiet_kept h _ (by simp) (judgeQuiet_kept h _ (by simp) ?_))
    exact h.extr (shutValves s) _ (.inl (by simp; rfl)) (fun hd => (enter_forcedDue _ _).symm.trans (graceAt_forcedDue hd))
      (fun hv => by simp [shutValves] at hv) (shutValves_kept h hs)
  next hl =>
    refine judgeQuiet_kept h _ (by simp) (judgeQuiet_kept h _ (by simp) ?_)
    refine h.extr s _ (.inl (by simp)) (fun hd => by simpa using graceAt_forcedDue hd) (fun _ hw => ?_) hs
    simpa using not_not.mp (fun hn => hl ⟨hw, hn⟩)

theorem fanSync_kept (h : KeptBelow P) (hs : P s) : P (fanSync s) := by
  unfold fanSync
  split
  · exact hs
  · split
    next hw => exact changeExtraction_kept h _ (h.extr s _ (.inr hw.symm) id (fun _ hx => hx) hs)
    next hw => exact changeExtraction_kept h _ (h.extr s _ (.inr (Bool.eq_false_iff.mpr hw).symm) id (fun _ hx => hx) hs)

theorem takeSuction_kept (h : KeptBelow P) (c : Suction) (hs : P s) : P (takeSuction c s) :=
  setExtr_kept h (by simp) (by simp) (by simp) hs

theorem takeFeedback_kept (h : KeptBelow P) (b : Bool) (hs : P s) : P (takeFeedback b s) :=
  setExtr_kept h (by simp) (by simp) (by simp) hs

theorem watchFilter_kept (h : KeptBelow P) (v : Int) (hs : P s) : P (watchFilter v s) := by
  unfold watchFilter
  split
  · split
    · split
      · exact hs
      · exact setExtr_kept h rfl rfl id hs
    · exact conditionEnds_kept h _ (setExtr_kept h rfl rfl id hs)
  · exact hs

/-! ### The blocks at a mode entry -/

theorem conveyorSync_kept (h : KeptBelow P) (hs : P s) : P (conveyorSync s) := by
  unfold conveyorSync
  split
  · exact hs
  · split
    · exact h.tracker s _ ⟨rfl, rfl, rfl⟩ hs
    · exact conditionEnds_kept h _ (h.tracker s _ ⟨rfl, rfl, rfl⟩ hs)

theorem leaveWarmup_kept (h : KeptBelow P) (hs : P s) : P (leaveWarmup s) :=
  conditionEnds_kept h _ (setPot_kept h id rfl hs)

theorem entryMarks_kept (h : KeptBelow P) (new : Mode) (hs : P s) : P (entryMarks new s) := by
  cases new with
  | idle => exact conditionEnds_kept h _ (idleMarks_kept h hs)
  | standby => exact conditionEnds_kept h _ (clearWarmFail_kept h (startStandbyZones_kept h hs))
  | safe => exact clearWarmFail_kept h hs
  | _ => exact hs

theorem failSearch_kept (h : KeptBelow P) (cause : CalCause) (hs : P s) : P (failSearch cause s) :=
  eventOccurs_kept h (by simp) (waveSync_kept h (setWave_kept h rfl hs))

theorem searchAtSafe_kept (h : KeptBelow P) (hs : P s) : P (searchAtSafe s) := by
  unfold searchAtSafe
  split
  · exact failSearch_kept h _ hs
  · exact hs
  · exact hs

theorem passAtSafe_kept (h : KeptBelow P) (hs : P s) : P (passAtSafe s) :=
  mapRecords_kept h (fun r => by split <;> simp) hs

theorem closeGate_kept (h : KeptBelow P) (hs : P s) : P (closeGate s) := h.tracker s _ ⟨rfl, rfl, rfl⟩ hs

theorem trackAtMode_kept (h : KeptBelow P) (new : Mode) (hs : P s) : P (trackAtMode new s) := by
  cases new with
  | idle => exact closeGate_kept h hs
  | ready => exact closeGate_kept h hs
  | standby => exact closeGate_kept h hs
  | safe => exact passAtSafe_kept h (closeGate_kept h hs)
  | _ => exact hs

theorem sprayAtMode_kept (h : KeptBelow P) (new : Mode) (hs : P s) : P (sprayAtMode new s) := by
  cases new with
  | safe => exact spraySafe_kept h hs
  | idle | warmup | calibrating =>
    unfold sprayAtMode
    dsimp only
    split
    · exact serveQueue_kept h (cutPurge_kept h hs)
    · exact hs
    · exact hs
  | _ => exact hs

theorem supplyAtMode_kept (h : KeptBelow P) (old new : Mode) (hs : P s) : P (supplyAtMode old new s) := by
  unfold supplyAtMode
  split
  · exact hs
  · exact judgeSupply_kept h hs

end Sys2Proof.Machine
end

section
/-! PROOFS. Promises that the Mode Controller's own operations keep as well: the mode entries, drains and forced standby. -/

namespace Sys2Proof.Machine

variable {P : State → Prop} {s : State}

/-! ### What an operation of the Mode Controller may do -/

/-- A promise that the Mode Controller's operations keep as well: entries into a mode, drains, forced standby, and the changes of
its own items within a mode. -/
structure KeptByModes (P : State → Prop) : Prop extends KeptBelow P where
  modes : ∀ (s : State) (x : ModeCtl), x.mode = s.modes.mode → (s.modes.shaped → x.shaped) → P s → P (s.setModes x)
  rest : ∀ (s : State) (new : Mode), new.forcible = false → new ≠ .warmup → P s → P (setMode new s)
  warmup : ∀ (s : State) (w : WarmUp), P s → P (setMode .warmup (s.setModes { s.modes with warm := some w }))
  ready : ∀ s : State, P s → P (enterReady s)
  run : ∀ s : State, P s → P (enterRun s)
  drain : ∀ (s : State) (t : DrainTarget), (s.modes.shaped → t ≠ .none) → P s → P (enterDrain t s)
  hold : ∀ s : State, (s.modes.shaped → s.modes.mode = .run ∨ s.modes.mode = .drain) → P s → P (enterHold s)
  drained : ∀ s : State, P s → P (drainTest s)
  graced : ∀ (s : State) (g : Grace), P s → P (forcedTest (s.setExtr { s.extr with grace := g, forcedDue := true }))
  fume : ∀ (s : State) (hot : Bool), P s → P (judgeFume hot s)

/-- An entry into a mode keeps what every operation below the Mode Controller keeps and no mode item is read for. -/
theorem setMode_kept (h : KeptBelow P) (hm : ∀ (s : State) (x : ModeCtl), P s → P (s.setModes x)) (new : Mode) (hs : P s) :
    P (setMode new s) := by
  have h1 : P (s.setModes (s.modes.enter new s.pot.molten)) := hm s _ hs
  have h2 : P (if s.modes.mode = .warmup ∧ new ≠ .warmup then leaveWarmup (s.setModes (s.modes.enter new s.pot.molten))
      else s.setModes (s.modes.enter new s.pot.molten)) := by
    split
    · exact leaveWarmup_kept h h1
    · exact h1
  have h4 := sprayAtMode_kept h new (fanSync_kept h (supplyAtMode_kept h s.modes.mode new (entryMarks_kept h new h2)))
  unfold setMode
  refine afterLoops_kept h (conveyorSync_kept h (trackAtMode_kept h new (waveAtMode_kept h _ new ?_)))
  split
  · exact searchAtSafe_kept h h4
  · exact h4

section
variable (hset : ∀ (s : State) (new : Mode), P s → P (setMode new s))
  (hm : ∀ (s : State) (x : ModeCtl), x.mode = s.modes.mode → P s → P (s.setModes x))
include hset hm

theorem toDrain_kept (t : DrainTarget) (hs : P s) : P (toDrain t s) := hset _ _ (hm s _ rfl hs)

omit hm in
theorem drainCompletes_kept (hs : P s) : P (drainCompletes s) := by
  unfold drainCompletes
  split
  · exact hset _ _ hs
  · exact hs

theorem forceStandby_kept (hs : P s) : P (forceStandby s) := by
  unfold forceStandby
  split
  · exact hset _ _ hs
  · exact drainCompletes_kept hset (toDrain_kept hset hm _ hs)
  · split
    · exact hm s _ rfl hs
    · exact hs
  · exact drainCompletes_kept hset (toDrain_kept hset hm _ hs)
  all_goals exact hs

end

/-- A promise that mode entries keep, and changes within a mode, is kept by everything that is made of them. -/
theorem keptByModes_of_setMode (h : KeptBelow P) (hset : ∀ (s : State) (new : Mode), P s → P (setMode new s))
    (hm : ∀ (s : State) (x : ModeCtl), x.mode = s.modes.mode → P s → P (s.setModes x))
    (hd : ∀ (s : State) (g : Grace) (d : Bool), P s → P (s.setExtr { s.extr with grace := g, forcedDue := d }))
    (hf : ∀ (s : State) (hot : Bool), P s → P (judgeFume hot s)) : KeptByModes P := by
  have hforced : ∀ s : State, P s → P (forcedTest s) := fun s hs => by
    unfold forcedTest
    split
    · exact forceStandby_kept hset hm (hd s s.extr.grace false hs)
    · exact hs
  exact { h with
    modes := fun s x hx _ hs => hm s x hx hs
    rest := fun s new _ _ hs => hset s new hs
    warmup := fun s w hs => hset _ _ (hm s _ rfl hs)
    ready := fun s hs => hforced _ (hset s _ hs)
    run := fun s hs => hforced _ (hset s _ hs)
    drain := fun s t _ hs => hforced _ (drainCompletes_kept hset (toDrain_kept hset hm t hs))
    hold := fun s _ hs => hforced _ (hset _ _ (hm s _ rfl hs))
    drained := fun s hs => hforced _ (drainCompletes_kept hset hs)
    graced := fun s g hs => hforced _ (hd s g true hs)
    fume := hf }

/-- A promise that reads neither the mode items, nor the fume signal, nor forced standby. -/
theorem keptByModes_of_free (h : KeptBelow P) (hm : ∀ (s : State) (x : ModeCtl), P s → P (s.setModes x))
    (hd : ∀ (s : State) (g : Grace) (d : Bool), P s → P (s.setExtr { s.extr with grace := g, forcedDue := d }))
    (hp : ∀ (s : State) (f j : Bool), P s → P (s.setPot { s.pot with fumeHot := f, fumeJudged := j })) : KeptByModes P :=
  keptByModes_of_setMode h (fun _ new hs => setMode_kept h hm new hs) (fun s x _ hs => hm s x hs) hd
    (fun s hot hs => fanSync_kept h (hp s hot true hs))

end Sys2Proof.Machine
end

section
/-! PROOFS. What the warm-up, the owners of the channels and the Board Tracker do is made of the operations that keep a
promise. -/

namespace Sys2Proof.Machine

variable {P : State → Prop} {s : State}

theorem ite_kept {c : Prop} [Decidable c] {a b : State} (ha : P a) (hb : P b) : P (if c then a else b) := by
  split
  · exact ha
  · exact hb

/-! ### Severity and the mode -/

theorem react_kept (h : KeptByModes P) (sev : Severity) (hs : P s) : P (react sev s) := by
  unfold react
  split
  · exact hs
  · split
    · exact h.drain s _ (fun _ => by simp) hs
    · exact hs
  · split
    · exact hs
    · exact h.rest s _ rfl (by simp) hs

theorem raise_kept (h : KeptByModes P) {k : AlarmKind} (hk : k ≠ .supplyLow) (hs : P s) : P (raise k s) := by
  unfold raise
  split
  · exact hs
  · exact react_kept h _ (conditionAppears_kept h.toKeptBelow hk hs)

theorem occur_kept (h : KeptByModes P) {k : AlarmKind} (hk : k ≠ .supplyLow) (hs : P s) : P (occur k s) :=
  react_kept h _ (eventOccurs_kept h.toKeptBelow hk hs)

theorem judge_kept (h : KeptByModes P) {k : AlarmKind} (b : Bool) (hk : k ≠ .supplyLow) (hs : P s) : P (judge k b s) := by
  unfold judge
  split
  · exact raise_kept h hk hs
  · exact conditionEnds_kept h.toKeptBelow k hs

/-! ### The warm-up -/

theorem updWarm_kept (h : KeptByModes P) (f : WarmUp → WarmUp) (hs : P s) : P (s.updWarm f) :=
  h.modes s _ rfl (fun hc => by simpa [ModeCtl.shaped] using hc) hs

theorem unstartZones_kept (h : KeptByModes P) (hs : P s) : P (unstartZones s) :=
  mapZones_kept h.toKeptBelow (fun _ _ hz => hz) hs

theorem startZone_kept (h : KeptByModes P) (k : ZoneId) (hs : P s) : P (startZone k s) :=
  updWarm_kept h _ (updZone_kept h.toKeptBelow k (f := fun z => { z with started := true }) (fun _ hz => hz) hs)

theorem advanceCursor_kept (h : KeptByModes P) (ks : List ZoneId) (hs : P s) : P (advanceCursor ks s) := by
  induction ks generalizing s with
  | nil => exact updWarm_kept h _ hs
  | cons k rest ih =>
    have ht := updWarm_kept h (fun w => { w with cursor := some k }) (startZone_kept h k hs)
    unfold advanceCursor
    split
    · dsimp only
      split
      · exact ih ht
      · exact ht
    · exact ih hs

theorem bandEntries_kept (h : KeptByModes P) (hs : P s) : P (bandEntries s) := by
  unfold bandEntries
  dsimp only
  split
  · exact conditionEnds_kept h.toKeptBelow _ (mapZones_kept h.toKeptBelow (fun _ z hz => by split <;> exact hz)
      (updWarm_kept h _ hs))
  · exact mapZones_kept h.toKeptBelow (fun _ z hz => by split <;> exact hz) (updWarm_kept h _ hs)

theorem moveCursor_kept (h : KeptByModes P) (hs : P s) : P (moveCursor s) := by
  unfold moveCursor
  split
  · split
    · split
      · exact advanceCursor_kept h _ hs
      · exact hs
    · exact hs
  · exact hs

theorem settleTest_kept (h : KeptByModes P) (hs : P s) : P (settleTest s) := by
  unfold settleTest
  split
  · split
    · exact updWarm_kept h _ hs
    · exact hs
  · split
    · exact hs
    · exact updWarm_kept h _ hs
  all_goals exact hs

theorem warmSweep_kept (h : KeptByModes P) (hs : P s) : P (warmSweep s) := by
  unfold warmSweep
  split
  · exact afterLoops_kept h.toKeptBelow (settleTest_kept h (moveCursor_kept h (bandEntries_kept h hs)))
  · exact hs

theorem enterMelt_kept (h : KeptByModes P) (hs : P s) : P (enterMelt s) :=
  afterLoops_kept h.toKeptBelow (setPot_kept h.toKeptBelow id rfl (updWarm_kept h _ hs))

theorem enterZones_kept (h : KeptByModes P) (hs : P s) : P (enterZones s) := by
  unfold enterZones
  refine warmSweep_kept h ?_
  split
  · split
    · exact updWarm_kept h _ hs
    · exact advanceCursor_kept h _ (updWarm_kept h _ hs)
  · split
    · exact updWarm_kept h _ hs
    · exact advanceCursor_kept h _ (updWarm_kept h _ hs)

theorem enterZonesTogether_kept (h : KeptByModes P) (hs : P s) : P (enterZonesTogether s) :=
  warmSweep_kept h (settleLoops_kept h.toKeptBelow
    (updWarm_kept h _ (mapZones_kept h.toKeptBelow (fun _ _ hz => hz) hs)))

theorem endExtraction_kept (h : KeptByModes P) (hs : P s) : P (endExtraction s) := by
  unfold endExtraction
  split
  · exact enterZonesTogether_kept h hs
  · exact enterMelt_kept h hs

theorem warmExtraction_kept (h : KeptByModes P) (hs : P s) : P (warmExtraction s) := by
  unfold warmExtraction
  split
  · split
    · exact h.rest s _ rfl (by simp) hs
    · split
      · exact endExtraction_kept h hs
      · exact hs
  · exact hs

theorem beginWarmup_kept (h : KeptByModes P) (hs : P s) : P (beginWarmup s) := by
  unfold beginWarmup
  refine warmExtraction_kept h (h.warmup _ _ ?_)
  split
  · exact hs
  · exact unstartZones_kept h hs

theorem warmMoltenLost_kept (h : KeptByModes P) (hs : P s) : P (warmMoltenLost s) := by
  unfold warmMoltenLost
  split
  · exact h.modes s _ rfl id hs
  · split
    · exact enterMelt_kept h hs
    · exact enterMelt_kept h hs
    · exact settleLoops_kept h.toKeptBelow (unstartZones_kept h (h.modes s _ rfl id hs))
    · exact hs
    · exact hs
  all_goals exact hs

theorem extractionTo_kept (h : KeptByModes P) (new : ExtState) (hs : P s) : P (extractionTo new s) := by
  unfold extractionTo
  refine warmExtraction_kept h ?_
  split
  · exact react_kept h _ (changeExtraction_kept h.toKeptBelow new hs)
  · exact changeExtraction_kept h.toKeptBelow new hs

theorem meltTimerExpires_kept (h : KeptByModes P) (hs : P s) : P (meltTimerExpires s) := by
  unfold meltTimerExpires
  split
  · split
    · dsimp only
      split
      · exact updWarm_kept h _ hs
      · exact raise_kept h (by simp) (updWarm_kept h _ hs)
    · exact hs
  · exact hs

theorem zoneTimesOut_kept (h : KeptByModes P) (k : ZoneId) (hs : P s) : P (zoneTimesOut k s) := by
  unfold zoneTimesOut
  split
  · split
    · split
      · exact warmSweep_kept h (raise_kept h (by simp) (updZone_kept h.toKeptBelow k
          (f := fun z => { z with warmFail := true }) (fun _ hz => hz) (updWarm_kept h _ hs)))
      · exact hs
    · exact hs
    · exact hs
  · exact hs

theorem settleEnds_kept (h : KeptByModes P) (hs : P s) : P (settleEnds s) := by
  unfold settleEnds
  split
  · exact h.ready s hs
  · exact hs

theorem soakCompletes_kept (h : KeptByModes P) (hs : P s) : P (soakCompletes s) := by
  have ht : P (s.setPot { s.pot with molten := true, soak := .none }) := setPot_kept h.toKeptBelow (by simp) rfl hs
  unfold soakCompletes
  split
  · split
    · exact hs
    · dsimp only
      split
      · exact enterZones_kept h (conditionEnds_kept h.toKeptBelow _ ht)
      · exact ht
  · exact hs
  · exact hs

/-! ### The owners of the channels -/

theorem judgeSensor_kept (h : KeptByModes P) (hs : P s) : P (judgeSensor s) := by
  unfold judgeSensor
  dsimp only
  split
  · exact hs
  · exact judge_kept h _ (by simp) (h.heat s _ ⟨id, fun _ hk => hk⟩ hs)

theorem judgeOver_kept (h : KeptByModes P) (k : ZoneId) (t : Int) (hs : P s) : P (judgeOver k t s) := by
  unfold judgeOver
  split
  · split
    next r _ =>
      exact judge_kept h _ (by simp) (updZone_kept h.toKeptBelow k
        (f := fun z => { z with overMark := decide (r + s.zoneMargin k < t) }) (fun _ hz => hz) hs)
    · exact hs
  · exact hs

theorem noteResult_kept (h : KeptByModes P) (k : ZoneId) (x : LastResult) (hs : P s) : P (noteResult k x s) :=
  updZone_kept h.toKeptBelow k (f := fun z => { z with last := x }) (fun _ hz => hz) hs

theorem deliverZone_kept (h : KeptByModes P) (k : ZoneId) (hs : P s) : P (deliverZone k s) := by
  have hcut : P (if s.zoneActive k then cutZoneLoop k s else s) := by
    split
    · exact cutZoneLoop_kept h.toKeptBelow k hs
    · exact hs
  unfold deliverZone
  dsimp only
  split
  · refine warmSweep_kept h (judgeSensor_kept h (judgeOver_kept h k _ (noteResult_kept h k _ ?_)))
    split
    · exact updateZoneLoop_kept h.toKeptBelow k _ hs
    · exact hs
  · exact hs
  · exact warmSweep_kept h (judgeSensor_kept h (noteResult_kept h k _ hcut))
  · exact warmSweep_kept h hcut

theorem judgePotTrip_kept (h : KeptByModes P) (hs : P s) : P (judgePotTrip s) := judge_kept h _ (by simp) hs

theorem setPotOver_kept (h : KeptByModes P) (b : Bool) (hs : P s) : P (setPotOver b s) :=
  judgePotTrip_kept h (h.heat s _ ⟨id, fun _ hk => hk⟩ hs)

theorem deliverPotLoop_kept (h : KeptByModes P) (x : Slot) (hs : P s) : P (deliverPotLoop x s) := by
  have hcut : P (if s.potActive then cutPotLoop s else s) := by
    split
    · exact cutPotLoop_kept h.toKeptBelow hs
    · exact hs
  unfold deliverPotLoop
  split
  · refine setPotOver_kept h _ ?_
    split
    · exact updatePotLoop_kept h.toKeptBelow _ hs
    · exact hs
  · exact hs
  · exact hcut
  · exact hcut

theorem coldIfWaveOn_kept (h : KeptByModes P) (hs : P s) : P (coldIfWaveOn s) := by
  unfold coldIfWaveOn
  split
  · exact raise_kept h (by simp) hs
  · exact hs

theorem moltenLost_kept (h : KeptByModes P) (hs : P s) : P (moltenLost s) := by
  have ha : P (waveSync (stopFeeder (s.setPot { s.pot with molten := false, standing := .invalid, feeder := .off }))) :=
    waveSync_of_not_molten_kept (s := s) h.toKeptBelow
      (p := { s.pot with molten := false, standing := .invalid, feeder := .off }) rfl rfl hs
  unfold moltenLost
  refine warmMoltenLost_kept h (coldIfWaveOn_kept h ?_)
  dsimp only
  split
  · exact h.ready _ (failSearch_kept h.toKeptBelow _ ha)
  · exact ha
  · exact ha

theorem potAtMelt_kept (h : KeptByModes P) (hs : P s) : P (potAtMelt s) :=
  updWarm_kept h _ (setPot_kept h.toKeptBelow id rfl
    (conditionEnds_kept h.toKeptBelow .potWarmFail (conditionEnds_kept h.toKeptBelow .potCold hs)))

theorem soakInterrupted_kept (h : KeptByModes P) (hs : P s) : P (soakInterrupted s) :=
  setPot_kept h.toKeptBelow id rfl hs

theorem deliverMelt_kept (h : KeptByModes P) (x : Slot) (hs : P s) : P (deliverMelt x s) := by
  have ha := soakInterrupted_kept h hs
  unfold deliverMelt
  split
  · split
    · exact hs
    · split
      · exact potAtMelt_kept h hs
      · dsimp only
        split
        · exact moltenLost_kept h ha
        · exact ha
  · exact hs
  · dsimp only
    split
    · exact moltenLost_kept h ha
    · exact ha
  · exact ha

theorem deliverPot_kept (h : KeptByModes P) (hs : P s) : P (deliverPot s) :=
  warmSweep_kept h (deliverMelt_kept h _ (h.fume _ _ (deliverPotLoop_kept h _ hs)))

theorem judgeLevel_kept (h : KeptByModes P) (v : Int) (hs : P s) : P (judgeLevel v s) := by
  unfold judgeLevel
  split
  · exact hs
  · split
    · split
      · exact conditionEnds_kept h.toKeptBelow _ hs
      · exact hs
    · split
      · exact raise_kept h (by simp) hs
      · exact hs

theorem waveAtLevel_kept (h : KeptByModes P) (v : Int) (hs : P s) : P (waveAtLevel v s) := by
  unfold waveAtLevel
  split
  · exact computeDrive_kept h.toKeptBelow v hs
  · exact hs

theorem deliverLevel_kept (h : KeptByModes P) (hs : P s) : P (deliverLevel s) := by
  unfold deliverLevel
  dsimp only
  split
  · split
    · exact feedUpdate_kept h.toKeptBelow _ (judgeLevel_kept h _ (waveAtLevel_kept h _
        (setPot_kept h.toKeptBelow id rfl hs)))
    · exact hs
  · exact hs
  · exact setPot_kept h.toKeptBelow id rfl hs

theorem deliverFilter_kept (h : KeptByModes P) (hs : P s) : P (deliverFilter s) := by
  unfold deliverFilter
  split
  · exact watchFilter_kept h.toKeptBelow _ hs
  · exact setExtr_kept h.toKeptBelow rfl rfl id hs

/-- The alarm entries and the grants are changed in either order. -/
theorem conditionAppears_zeroGrants (k : AlarmKind) (s : State) :
    conditionAppears k (zeroGrants s) = zeroGrants (conditionAppears k s) := by
  have hc : (zeroGrants s).condition k = s.condition k := rfl
  unfold conditionAppears
  rw [hc]
  split <;> rfl

theorem deliverSupply_kept (h : KeptByModes P) (hs : P s) : P (deliverSupply s) := by
  unfold deliverSupply
  split
  · split
    · exact hs
    · unfold raise
      rw [conditionAppears_zeroGrants]
      split
      · exact zeroGrants_kept h.toKeptBelow hs
      · exact react_kept h _ (supplyAppears_kept h.toKeptBelow hs)
  · exact conditionEnds_kept h.toKeptBelow _ hs

theorem deliverFluxPressure_kept (h : KeptByModes P) (hs : P s) : P (deliverFluxPressure s) := by
  unfold deliverFluxPressure
  split
  · split
    · exact conditionEnds_kept h.toKeptBelow _ hs
    · exact hs
  · exact hs

theorem deliver_kept (h : KeptByModes P) (ch : Nat) (hs : P s) : P (deliver ch s) := by
  unfold deliver
  split
  · exact deliverZone_kept h _ hs
  · split
    · exact deliverPot_kept h hs
    · exact deliverLevel_kept h hs
    · exact takeSuction_kept h.toKeptBelow _ hs
    · exact deliverFilter_kept h hs
    · exact deliverSupply_kept h hs
    · exact deliverFluxPressure_kept h hs
    · exact hs

/-! ### The Board Tracker -/

theorem admissionTest_kept (h : KeptByModes P) (hs : P s) : P (admissionTest s) := by
  unfold admissionTest
  split
  next hm =>
    split
    next a rest b hq _ =>
      exact compositionTest_kept h.toKeptBelow (h.maps _ _ (h.gateOpened s a rest b _ hm hq hs))
    · exact hs
  · exact hs

theorem rowDue_kept (h : KeptByModes P) (tag row : Nat) (b : BufferId) (hs : P s) : P (rowDue tag row b s) := by
  unfold rowDue
  split
  · exact hs
  · split
    · exact skipRow_kept h.toKeptBelow _ _ _ _ hs
    · split
      · exact sprayRow_kept h.toKeptBelow _ _ _ hs
      · exact rowArrives_kept h.toKeptBelow _ hs

theorem dueRows_kept (h : KeptByModes P) (n tag : Nat) (hs : P s) : P (dueRows n tag s) := by
  induction n generalizing s with
  | zero => exact hs
  | succ n ih =>
    have ht : P (updateRecord tag (fun r => { r with nextRow := r.nextRow + 1 }) s) :=
      updateRecord_kept h.toKeptBelow tag (fun _ => rfl) hs
    unfold dueRows
    split
    · exact hs
    · split
      · exact hs
      · split
        · refine ih ?_
          split
          · exact rowDue_kept h _ _ _ ht
          · exact ht
        · exact hs

@[simp] theorem outline_passPoint (n : Nat) (v : Option Int) (r : Record) : (r.passPoint n v).outline = r.outline := rfl

@[simp] theorem outline_crossPoint (n : Nat) (ahead : Bool) (v : Option Int) (r : Record) :
    (r.crossPoint n ahead v).outline = r.outline := by
  unfold Record.crossPoint
  split
  · dsimp only; split <;> rfl
  · rfl

@[simp] theorem outline_evaluate (recipe : Recipe) (r : Record) : (r.evaluate recipe).outline = r.outline := by
  unfold Record.evaluate
  dsimp only
  split
  · rfl
  · split
    · rfl
    · split <;> rfl

@[simp] theorem outline_pyroStep (s : State) (d len : Int) (r : Record) : (pyroStep s d len r).outline = r.outline := by
  unfold pyroStep
  dsimp only
  split <;> split <;> simp

@[simp] theorem outline_zoneMarks (s : State) (again : Bool) (d len : Int) (r : Record) :
    (zoneMarks s again d len r).outline = r.outline := rfl

@[simp] theorem outline_meetWave (out : Nat) (high safe : Bool) (r : Record) : (r.meetWave out high safe).outline = r.outline := by
  unfold Record.meetWave
  cases high <;> cases safe <;> simp <;> rfl

@[simp] theorem outline_waveMark (s : State) (again : Bool) (d len : Int) (r : Record) :
    (waveMark s again d len r).outline = r.outline := by
  unfold waveMark
  dsimp only
  split
  · split <;> rfl
  · split <;> simp

@[simp] theorem outline_stageStep (s : State) (r : Record) : (stageStep s r).outline = r.outline := by
  unfold stageStep
  split <;> simp

@[simp] theorem outline_retest (s : State) (r : Record) : (retest s r).outline = r.outline := by
  unfold retest
  split <;> simp

@[simp] theorem outline_checkLength (recipe : Recipe) (m : Nat) (r : Record) : (r.checkLength recipe m).outline = r.outline := by
  unfold Record.checkLength
  dsimp only
  split <;> rfl

@[simp] theorem outline_skipUnresolved (r : Record) : r.skipUnresolved.outline = r.outline := by
  unfold Record.skipUnresolved
  dsimp only
  split <;> rfl

@[simp] theorem outline_endOverlaps (r : Record) : r.endOverlaps.outline = r.outline := rfl

theorem stageEvents_kept (h : KeptByModes P) (tags : List Nat) (hs : P s) : P (stageEvents tags s) := by
  induction tags generalizing s with
  | nil => exact hs
  | cons tag rest ih =>
    unfold stageEvents
    refine ih (updateRecord_kept h.toKeptBelow tag (outline_stageStep _) ?_)
    split
    · exact dueRows_kept h _ _ hs
    · exact hs

/-- A pending hold waits in RUN or in DRAIN alone (R17). -/
theorem waveClearTest_kept (h : KeptByModes P) (occupied : Bool) (hs : P s) : P (waveClearTest occupied s) := by
  unfold waveClearTest
  split
  next hc =>
    simp only [Bool.and_eq_true] at hc
    exact h.hold s (fun hsh => hsh.2.2.2 hc.2) hs
  · exact hs

theorem reportRecord_kept (h : KeptByModes P) (tag : Nat) (lost : Bool) (hs : P s) : P (reportRecord tag lost s) := by
  unfold reportRecord
  split
  next r hr => exact h.report s tag _ (by simp [hr]) hs
  · exact hs

theorem releaseOwned_kept (h : KeptByModes P) (tag : Nat) (hs : P s) : P (releaseOwned tag s) := by
  unfold releaseOwned
  split
  · exact releaseBuffer_kept h.toKeptBelow _ hs
  · exact hs

theorem removeAsReport_kept (h : KeptByModes P) (tag : Nat) (lost : Bool) (hs : P s) : P (removeAsReport tag lost s) := by
  have h1 := updateRecord_kept h.toKeptBelow tag outline_skipUnresolved (sprayClear_kept h.toKeptBelow tag hs)
  have h3 := giveBoosts_kept h.toKeptBelow (updateRecord_kept h.toKeptBelow tag outline_endOverlaps
    (updateRecord_kept h.toKeptBelow tag
      (f := fun r => if r.pyroDone then r
        else r.evaluate ((updateRecord tag Record.skipUnresolved (sprayClear tag s)).recipeOf r.slot))
      (fun r => by split <;> simp) h1))
  exact conveyorSync_kept h.toKeptBelow (h.drained _ (reportRecord_kept h tag lost
    (releaseOwned_kept h tag (waveClearTest_kept h _ h3))))

theorem overrunExits_kept (h : KeptByModes P) (n : Nat) (hs : P s) : P (overrunExits n s) := by
  induction n generalizing s with
  | zero => exact hs
  | succ n ih =>
    unfold overrunExits
    split
    · exact ih (occur_kept h (by simp) (removeAsReport_kept h _ _ hs))
    · exact hs

theorem missingExits_kept (h : KeptByModes P) (n : Nat) (hs : P s) : P (missingExits n s) := by
  induction n generalizing s with
  | zero => exact hs
  | succ n ih =>
    unfold missingExits
    split
    · exact ih (occur_kept h (by simp) (removeAsReport_kept h _ _ hs))
    · exact hs

theorem countStep_kept (h : KeptByModes P) (forward : Bool) (hs : P s) : P (countStep forward s) :=
  h.tracker s _ ⟨rfl, rfl, rfl⟩ hs

theorem forwardEvents_kept (h : KeptByModes P) (hs : P s) : P (forwardEvents s) :=
  missingExits_kept h _ (overrunExits_kept h _ (waveClearTest_kept h _
    (giveBoosts_kept h.toKeptBelow (stageEvents_kept h _ hs))))

theorem encoderSteps_kept (h : KeptByModes P) (forward : Bool) (hs : P s) : P (encoderSteps forward s) := by
  unfold encoderSteps
  split
  · exact forwardEvents_kept h (countStep_kept h _ hs)
  · exact countStep_kept h _ hs

theorem speedWindowEnds_kept (h : KeptByModes P) (hs : P s) : P (speedWindowEnds s) := by
  unfold speedWindowEnds
  split
  · exact hs
  · split
    · exact h.tracker s _ ⟨rfl, rfl, rfl⟩ hs
    · have ht : ∀ m o i, P (s.setTracker { s.tracker with
          measuredSpeed := m, windowCounts := 0, outsideRun := o, insideRun := i }) :=
        fun _ _ _ => h.tracker s _ ⟨rfl, rfl, rfl⟩ hs
      exact ite_kept (raise_kept h (by simp) (ht _ _ _)) (ite_kept (conditionEnds_kept h.toKeptBelow _ (ht _ _ _)) (ht _ _ _))

theorem entryRises_kept (h : KeptByModes P) (hs : P s) : P (entryRises s) := by
  unfold entryRises
  split
  · exact occur_kept h (by simp) hs
  · split
    · split
      · exact h.rise s _ s.tracker.count hs
      · exact hs
    · exact hs

theorem endAdmission_kept (h : KeptByModes P) (tag : Nat) (d : Int) (hs : P s) : P (endAdmission tag d s) := by
  unfold endAdmission
  refine waveClearTest_kept h _ (giveBoosts_kept h.toKeptBelow (h.fall _ _ rfl rfl rfl ?_))
  exact updateRecord_kept h.toKeptBelow tag (outline_retest _)
    (updateRecord_kept h.toKeptBelow tag (fun _ => outline_checkLength _ _ _) hs)

theorem entryFalls_kept (h : KeptByModes P) (hs : P s) : P (entryFalls s) := by
  unfold entryFalls
  split
  · exact hs
  · split
    · split
      · exact occur_kept h (by simp) hs
      · split
        · exact endAdmission_kept h _ _ hs
        · exact hs
    · exact h.fall s _ rfl rfl rfl hs

/-- Releasing a buffer makes the map buffer fields that name it absent, and changes nothing else of the tracker (R70). -/
theorem releaseBuffer_tracker (b : BufferId) (s : State) : (releaseBuffer b s).tracker = { s.tracker with
    records := s.tracker.records.map (fun r => if r.buffer = some b then { r with buffer := none } else r) } := by
  obtain ⟨m, hm⟩ := compositionTest_eq (mapRecords (fun r => if r.buffer = some b then { r with buffer := none } else r)
    { s with maps := { buffers := s.maps.buffers.set b none, order := s.maps.order.filter (fun c => c ≠ b),
                       working := if s.maps.order.head? = some b then none else s.maps.working } })
  unfold releaseBuffer
  rw [hm]
  rfl

theorem isSome_record?_iff {tag : Nat} : (s.record? tag).isSome = true ↔ ∃ r ∈ s.tracker.records, r.tag = tag := by
  simp [State.record?]

theorem releaseOwned_boards (tag : Nat) (s : State) :
    (releaseOwned tag s).tracker.queue = s.tracker.queue ∧ (releaseOwned tag s).tracker.admission = s.tracker.admission
      ∧ ((s.record? tag).isSome = true → ((releaseOwned tag s).record? tag).isSome = true) := by
  unfold releaseOwned
  split
  next b _ =>
    refine ⟨by rw [releaseBuffer_tracker], by rw [releaseBuffer_tracker], fun hr => ?_⟩
    obtain ⟨r, hm, ht⟩ := isSome_record?_iff.mp hr
    refine isSome_record?_iff.mpr ⟨_, by rw [releaseBuffer_tracker]; exact List.mem_map_of_mem hm, ?_⟩
    split <;> exact ht
  · exact ⟨rfl, rfl, id⟩

theorem entryTimesOut_kept (h : KeptByModes P) (hs : P s) : P (entryTimesOut s) := by
  unfold entryTimesOut
  split
  next tag t hadm =>
    split
    next r hr =>
      split
      · have htag : r.tag = tag := by simpa using List.find?_some hr
        obtain ⟨hq, ha, hsome⟩ := releaseOwned_boards tag (closeGate s)
        have hk := h.returned (releaseOwned tag (closeGate s)) ⟨tag, some t⟩
          { tag := r.tag, slot := r.slot, orientation := r.orientation } (ha.trans hadm) rfl
          (by rw [htag]; exact hsome (by simp [show (closeGate s).record? tag = s.record? tag from rfl, hr])) htag
          (releaseOwned_kept h tag (closeGate_kept h.toKeptBelow hs))
        dsimp only at hk
        rw [htag] at hk
        exact conveyorSync_kept h.toKeptBelow (occur_kept h (by simp) (h.drained _ (by rw [htag]; exact hk)))
      · exact hs
    · exact hs
  · exact hs
  · exact hs

theorem exitRises_kept (h : KeptByModes P) (hs : P s) : P (exitRises s) := by
  unfold exitRises
  split
  next r hr => exact h.matched s r hr hs
  · exact occur_kept h (by simp) hs

theorem exitFalls_kept (h : KeptByModes P) (hs : P s) : P (exitFalls s) := by
  unfold exitFalls
  split
  · exact removeAsReport_kept h _ _ hs
  · exact hs

theorem holdLimitReached_kept (h : KeptByModes P) (hs : P s) : P (holdLimitReached s) := by
  unfold holdLimitReached
  split
  next hm =>
    refine h.drain _ _ (fun hsh => ?_) (mapRecords_kept h.toKeptBelow (outline_except _) hs)
    split
    next hr => exact hsh.1.mpr (.inr ⟨hm, hr⟩)
    · simp
  · exact hs

end Sys2Proof.Machine
end

section
/-! PROOFS. What the scanner, the store, the requests, the line, the resets and the timers do is made of the operations that keep
a promise, and with it every command and every step. -/

namespace Sys2Proof.Machine

variable {P : State → Prop} {s : State}

/-! ### The scanner -/

theorem setSlot_kept (h : KeptByModes P) (ch : Nat) (x : Slot) (hs : P s) : P (s.setSlot ch x) :=
  h.scan s _ (by simp) hs

theorem markSlots_kept (h : KeptByModes P) (chs : List Nat) (hs : P s) : P (markSlots chs s) := by
  induction chs generalizing s with
  | nil => exact hs
  | cons ch rest ih => exact ih (setSlot_kept h _ _ hs)

theorem deliverAll_kept (h : KeptByModes P) (chs : List Nat) (hs : P s) : P (deliverAll chs s) := by
  induction chs generalizing s with
  | nil => exact hs
  | cons ch rest ih => exact ih (deliver_kept h _ hs)

theorem markStale_kept (h : KeptByModes P) (p : Nat → Slot → Bool) (hs : P s) : P (markStale p s) :=
  deliverAll_kept h _ (markSlots_kept h _ hs)

theorem takePresence_kept (h : KeptByModes P) (k : ZoneId) (isOpen : Bool) (hs : P s) : P (takePresence k isOpen s) := by
  have ht := settleLoops_kept h.toKeptBelow (updZone_kept h.toKeptBelow k
    (f := fun z => { z with presence := if isOpen then .absent else .present }) (fun _ hz => hz) hs)
  exact ite_kept (raise_kept h (by simp) ht) (ite_kept (conditionEnds_kept h.toKeptBelow _ ht) ht)

theorem burnoutEnds_kept (h : KeptByModes P) (isOpen : Bool) (hs : P s) : P (burnoutEnds isOpen s) := by
  unfold burnoutEnds
  split
  · split
    · exact h.scan _ _ rfl (takePresence_kept h _ _ hs)
    · exact hs
  · exact hs

theorem refresh_kept (h : KeptByModes P) (ch : Nat) (v : Option Int) (st : Standing) (hs : P s) : P (refresh ch v st s) :=
  deliver_kept h _ (setSlot_kept h _ _ hs)

theorem checkReference_kept (h : KeptByModes P) (v : Option Int) (hs : P s) : P (checkReference v s) :=
  ite_kept (ite_kept hs (markStale_kept h _ (h.scan s _ rfl hs))) (h.scan s _ rfl hs)

theorem convert_kept (h : KeptByModes P) (ch : Nat) (r : Reading) (hs : P s) : P (convert ch r s) := by
  unfold convert
  split
  · refine checkReference_kept h _ ?_
    split
    · exact refresh_kept h _ _ _ hs
    · exact hs
  · split
    · exact hs
    · split
      · exact refresh_kept h _ _ _ hs
      · exact hs

theorem controlConversion_kept (h : KeptByModes P) (r : Reading) (hs : P s) : P (controlConversion r s) :=
  ite_kept (convert_kept h _ r (h.scan s _ rfl hs)) hs

theorem beginSingle_kept (h : KeptByModes P) (first last : Nat) (hs : P s) : P (beginSingle first last s) :=
  h.scan s _ rfl hs

theorem scanReconfigured_kept (h : KeptByModes P) (hs : P s) : P (scanReconfigured s) :=
  markStale_kept h _ (ite_kept (h.scan s _ rfl hs) (h.scan s _ rfl hs))

theorem scanStarts_kept (h : KeptByModes P) (hs : P s) : P (scanStarts s) := h.scan s _ rfl hs

/-! ### The store and the calibration -/

theorem beginOp_kept (h : KeptByModes P) (op : StoreOp) (hs : P s) : P (beginOp op s) :=
  h.store s _ (fun hw => ⟨hw.1, hw.2, hw.3, hw.4⟩) hs

theorem clearPotOver_kept (h : KeptByModes P) (hs : P s) : P (clearPotOver s) := setPotOver_kept h false hs

theorem configLost_kept (h : KeptByModes P) (hs : P s) : P (configLost s) :=
  clearPotOver_kept h (setExtr_kept h.toKeptBelow rfl rfl id hs)

theorem configChanged_kept (h : KeptByModes P) (hs : P s) : P (configChanged s) := by
  have hb := judge_kept h (k := .zoneMissing) (startFrame s).anyMissing (by simp) (startFrame_kept h.toKeptBelow hs)
  have hc := judgeSensor_kept h (h.heat _ { (judge .zoneMissing (startFrame s).anyMissing (startFrame s)).heat with
    sensorWaits := false } ⟨id, fun _ hk => hk⟩ hb)
  exact scanReconfigured_kept h (ite_kept hc (configLost_kept h hc))

theorem beginSearch_kept (h : KeptByModes P) (hs : P s) : P (beginSearch s) :=
  h.rest _ _ rfl (by simp) (setWave_kept h.toKeptBelow rfl hs)

theorem stepSearch_kept (h : KeptByModes P) (dir : Direction) (test : Nat) (hs : P s) : P (stepSearch dir test s) :=
  waveSync_kept h.toKeptBelow (setWave_kept h.toKeptBelow rfl hs)

theorem searchFails_kept (h : KeptByModes P) (cause : CalCause) (hs : P s) : P (searchFails cause s) :=
  h.ready _ (failSearch_kept h.toKeptBelow cause hs)

theorem climb_kept (h : KeptByModes P) (test : Nat) (hs : P s) : P (climb test s) :=
  ite_kept (stepSearch_kept h _ _ hs) (searchFails_kept h _ hs)

theorem candidateFound_kept (h : KeptByModes P) (test : Nat) (hs : P s) : P (candidateFound test s) := by
  unfold candidateFound
  split
  · exact beginOp_kept h _ (waveSync_kept h.toKeptBelow (setWave_kept h.toKeptBelow rfl hs))
  · exact searchFails_kept h _ hs

theorem dwellEnds_kept (h : KeptByModes P) (wetted : Bool) (hs : P s) : P (dwellEnds wetted s) := by
  have ht := readFinger_kept h.toKeptBelow wetted hs
  unfold dwellEnds
  dsimp only
  split
  · exact ite_kept (ite_kept (stepSearch_kept h _ _ ht) (searchFails_kept h _ ht)) (climb_kept h _ ht)
  · exact ite_kept (candidateFound_kept h _ ht) (climb_kept h _ ht)
  · exact ht
  · exact ht

theorem abortSearch_kept (h : KeptByModes P) (hs : P s) : P (abortSearch s) :=
  h.ready _ (waveSync_kept h.toKeptBelow (setWave_kept h.toKeptBelow rfl hs))

theorem calWritten_kept (h : KeptByModes P) (d : Nat) (l : Int) (verified : Bool) (hs : P s) :
    P (calWritten d l verified s) := by
  have ht : ∀ o, P (s.setWave { s.wave with
      cal := { pair := some (d, l), valid := verified }, phase := .none, outcome := o }) := fun _ => setWave_kept h.toKeptBelow rfl hs
  exact ite_kept (h.ready _ (ht _)) (ht _)

theorem handCompletion_kept (h : KeptByModes P) (op : StoreOp) (verified : Bool) (hs : P s) :
    P (handCompletion op verified s) := by
  cases op with
  | writeConfig c => exact configChanged_kept h hs
  | writeCal d l => exact calWritten_kept h d l verified hs
  | _ => exact hs

@[simp] theorem length_setRecipe (m : StoreImage) (n : Nat) (x : Stored Recipe) :
    (m.setRecipe n x).recipes.length = m.recipes.length := by simp [StoreImage.setRecipe]

@[simp] theorem length_setSet (m : StoreImage) (n : Nat) (x : Stored ThermalSet) :
    (m.setSet n x).sets.length = m.sets.length := by simp [StoreImage.setSet]

/-- An image keeps its numbers of slots and sets. -/
def StoreImage.SameSizes (m n : StoreImage) : Prop :=
  m.recipes.length = n.recipes.length ∧ m.sets.length = n.sets.length

theorem spoil_sameSizes (m : StoreImage) (i : StoreItem) : (m.spoil i).SameSizes m := by
  cases i <;> simp [StoreImage.SameSizes, StoreImage.spoil] <;> rfl

theorem apply_sameSizes (m : StoreImage) (op : StoreOp) : (m.apply op).SameSizes m := by
  cases op with
  | setLock i b => cases i <;> simp [StoreImage.SameSizes, StoreImage.apply] <;> rfl
  | _ => simp [StoreImage.SameSizes, StoreImage.apply] <;> rfl

theorem finish_sameSizes (m : StoreImage) (op : StoreOp) (verified : Bool) : (m.finish op verified).SameSizes m := by
  unfold StoreImage.finish
  split
  · exact apply_sameSizes m op
  · exact spoil_sameSizes m _

theorem foldl_spoil_sameSizes (items : List StoreItem) (m : StoreImage) : (items.foldl StoreImage.spoil m).SameSizes m := by
  induction items generalizing m with
  | nil => exact ⟨rfl, rfl⟩
  | cons i rest ih =>
    obtain ⟨hr, hs⟩ := ih (m.spoil i)
    obtain ⟨hr', hs'⟩ := spoil_sameSizes m i
    exact ⟨hr.trans hr', hs.trans hs'⟩

theorem checked_sameSizes (m : StoreImage) (op : Option StoreOp) (found : StartUpFindings) :
    (m.checked op found).SameSizes m := by
  have hd : ∀ n : StoreImage, n.SameSizes m → ((found.corrupt.foldl StoreImage.spoil n).judged).SameSizes m := fun n hn => by
    obtain ⟨hr, hs⟩ := foldl_spoil_sameSizes found.corrupt n
    exact ⟨by simp [StoreImage.judged, hr, hn.1], by simp [StoreImage.judged, hs, hn.2]⟩
  unfold StoreImage.checked
  apply hd
  split
  · split
    · exact ⟨rfl, rfl⟩
    · exact apply_sameSizes m _
    · exact spoil_sameSizes m _
  · exact ⟨rfl, rfl⟩

/-- The images of the store change, and the free index moves on (R178, R183; log 5). -/
theorem images_kept (h : KeptByModes P) {x : Store} (hx : s.store.Whole → x.Whole) (n : Nat) (hs : P s) :
    P { s with store := x, freeIndex := n } := h.clock _ s.uptime n (h.store s x hx hs)

theorem completeOp_kept (h : KeptByModes P) (op : StoreOp) (verified : Bool) (hs : P s) : P (completeOp op verified s) := by
  have ha : P { s with
      store := { s.store with work := s.store.work.finish op verified, array := s.store.array.finish op verified, op := none }
      freeIndex := s.freeIndex + 1 } := by
    refine images_kept h (fun hw => ?_) _ hs
    obtain ⟨hwr, hws⟩ := finish_sameSizes s.store.work op verified
    obtain ⟨har, has⟩ := finish_sameSizes s.store.array op verified
    exact ⟨hwr.trans hw.1, hws.trans hw.2, har.trans hw.3, has.trans hw.4⟩
  exact warmSweep_kept h (settleLoops_kept h.toKeptBelow (handCompletion_kept h op verified
    (compositionTest_kept h.toKeptBelow (ite_kept ha (occur_kept h (by simp) ha)))))

theorem startUpCheckEnds_kept (h : KeptByModes P) (found : StartUpFindings) (hs : P s) : P (startUpCheckEnds found s) := by
  have ha : ∀ c, P (State.setWave { s with
      store := { s.store with work := s.store.array.checked s.store.abandoned found,
                              array := s.store.array.checked s.store.abandoned found, abandoned := none, checking := false }
      freeIndex := s.freeIndex + 1 } { s.wave with cal := c }) := fun c => by
    refine setWave_kept h.toKeptBelow rfl (images_kept h (fun hw => ?_) _ hs)
    obtain ⟨hr, ht⟩ := checked_sameSizes s.store.array s.store.abandoned found
    exact ⟨hr.trans hw.3, ht.trans hw.4, hr.trans hw.3, ht.trans hw.4⟩
  exact ite_kept (scanStarts_kept h (ite_kept (occur_kept h (by simp) (ha _)) (ha _))) hs

/-! ### Answering -/

theorem answer_kept (h : KeptByModes P) (payload : Bytes) (hs : P s) : P (answer payload s) := by
  unfold answer
  split
  · exact h.link s _ hs
  · exact hs

theorem refuse_kept (h : KeptByModes P) (r : Request) (c : ResultCode) (i : Nat) (hs : P s) : P (refuse r c i s) :=
  answer_kept h _ hs

theorem accept_kept (h : KeptByModes P) (fields : State → Bytes) (hs : P s) : P (accept fields s) := answer_kept h _ hs

theorem checked_kept (h : KeptByModes P) (r : Request) {checks : List (Bool × RefusalCode)} {go : State → State}
    (hgo : firstRefusal checks = none → P (go s)) (hs : P s) : P (checked r checks go s) := by
  unfold checked
  split
  · exact refuse_kept h r _ _ hs
  next hc => exact hgo hc

/-- No check refuses exactly when every check holds. -/
theorem firstRefusal_eq_none {l : List (Bool × RefusalCode)} : firstRefusal l = none ↔ ∀ p ∈ l, p.1 = true := by
  induction l with
  | nil => simp [firstRefusal]
  | cons p rest ih =>
    obtain ⟨okay, r⟩ := p
    cases okay <;> simp [firstRefusal, ih]

/-! ### The requests at their owners -/

theorem actStart_kept (h : KeptByModes P) (hs : P s) : P (actStart s) :=
  checked_kept h _ (fun _ => accept_kept h _ (beginWarmup_kept h hs)) hs

theorem actRun_kept (h : KeptByModes P) (hs : P s) : P (actRun s) := by
  have hrun : P (accept State.modeFields (admissionTest (enterRun s))) :=
    accept_kept h _ (admissionTest_kept h (h.run s hs))
  unfold actRun
  split
  · exact checked_kept h _ (fun _ => hrun) hs
  · exact checked_kept h _ (fun _ => hrun) hs
  next hm =>
    refine ite_kept (checked_kept h _ (fun _ => accept_kept h _ (h.modes s _ rfl ?_ hs)) hs) (accept_kept h _ hs)
    rintro ⟨-, -, hw, hp⟩
    simp_all [ModeCtl.shaped]
  · exact accept_kept h _ hs
  all_goals exact refuse_kept h _ _ _ hs

theorem holdToDrain_kept (h : KeptByModes P) {t : DrainTarget} (ht : t ≠ .none) (hm : s.modes.mode = .hold) (hs : P s) :
    P (holdToDrain t s) := by
  refine h.modes s _ rfl ?_ hs
  rintro ⟨-, -, hw, hp⟩
  simp_all [ModeCtl.shaped]

theorem retarget_kept (h : KeptByModes P) {t : DrainTarget} (ht : t ≠ .none) (hm : s.modes.mode = .drain) (hs : P s) :
    P (s.setModes { s.modes with drain := t }) := by
  refine h.modes s _ rfl ?_ hs
  rintro ⟨-, hr, hw, hp⟩
  simp_all [ModeCtl.shaped]

theorem actStop_kept (h : KeptByModes P) (hs : P s) : P (actStop s) := by
  unfold actStop
  refine accept_kept h _ ?_
  split
  · exact h.drain s _ (fun _ => by simp) hs
  next hm => exact ite_kept hs (holdToDrain_kept h (by simp) hm hs)
  all_goals exact hs

theorem actStandby_kept (h : KeptByModes P) (hs : P s) : P (actStandby s) := by
  unfold actStandby
  refine accept_kept h _ ?_
  split
  · exact h.rest s _ rfl (by simp) hs
  · exact h.rest s _ rfl (by simp) hs
  · exact h.drain s _ (fun _ => by simp) hs
  next hm => exact retarget_kept h (by simp) hm hs
  next hm => exact holdToDrain_kept h (by simp) hm hs
  all_goals exact hs

theorem actShutdown_kept (h : KeptByModes P) (hs : P s) : P (actShutdown s) := by
  unfold actShutdown
  refine accept_kept h _ ?_
  split
  · exact h.rest s _ rfl (by simp) hs
  · exact h.rest s _ rfl (by simp) hs
  · exact h.rest s _ rfl (by simp) hs
  · exact h.drain s _ (fun _ => by simp) hs
  next hm => exact retarget_kept h (by simp) hm hs
  next hm => exact holdToDrain_kept h (by simp) hm hs
  all_goals exact hs

/-- The taking of a HOLD in RUN or DRAIN (R17). -/
theorem takeHold_kept (h : KeptByModes P) (hm : s.modes.mode = .run ∨ s.modes.mode = .drain) (hs : P s) :
    P (if s.modes.holdPending then s
      else if s.waveOccupied then s.setModes { s.modes with holdPending := true } else enterHold s) := by
  refine ite_kept hs (ite_kept (h.modes s _ rfl ?_ hs) (h.hold s (fun _ => hm) hs))
  rintro ⟨hd, hr, hw, -⟩
  exact ⟨hd, hr, hw, fun _ => hm⟩

theorem actHold_kept (h : KeptByModes P) (hs : P s) : P (actHold s) := by
  unfold actHold
  refine accept_kept h _ ?_
  split
  next hm => exact takeHold_kept h (.inl hm) hs
  next hm => exact takeHold_kept h (.inr hm) hs
  all_goals exact hs

theorem actResume_kept (h : KeptByModes P) (hs : P s) : P (actResume s) := by
  have hcancel : P (accept State.holdFields (admissionTest (s.setModes { s.modes with holdPending := false }))) := by
    refine accept_kept h _ (admissionTest_kept h (h.modes s _ rfl ?_ hs))
    rintro ⟨hd, hr, hw, -⟩
    exact ⟨hd, hr, hw, by simp⟩
  unfold actResume
  split
  next hm =>
    refine checked_kept h _ (fun _ => accept_kept h _ (admissionTest_kept h ?_)) hs
    unfold resumeHold
    split
    next hr => exact h.drain s _ (fun hsh => hsh.1.mpr (.inr ⟨hm, hr⟩)) hs
    · exact h.run s hs
  · exact hcancel
  · exact hcancel
  all_goals exact refuse_kept h _ _ _ hs

theorem actClearSafe_kept (h : KeptByModes P) (hs : P s) : P (actClearSafe s) :=
  checked_kept h _ (fun _ => accept_kept h _ (h.rest s _ rfl (by simp) hs)) hs

theorem selectSet_kept (h : KeptByModes P) (n : Nat) (hs : P s) : P (selectSet n s) := by
  have hb : P ((s.setModes { s.modes with activeSet := some n }).mapZones (fun _ z => { z with trim := 0 })) :=
    mapZones_kept h.toKeptBelow (fun _ _ hz => hz) (h.modes s _ rfl id hs)
  exact afterLoops_kept h.toKeptBelow (ite_kept (startStandbyZones_kept h.toKeptBelow hb) hb)

theorem actSelectSet_kept (h : KeptByModes P) (n : Nat) (hs : P s) : P (actSelectSet n s) :=
  checked_kept h _ (fun _ => accept_kept h _ (selectSet_kept h n hs)) hs

theorem actAnnounce_kept (h : KeptByModes P) (t : Word16) (slot o : Byte) (hs : P s) : P (actAnnounce t slot o s) := by
  refine checked_kept h _ (fun hc => accept_kept h _ (admissionTest_kept h ?_)) hs
  simp only [firstRefusal_eq_none, List.forall_mem_cons, Bool.not_eq_true', Bool.or_eq_false_iff, decide_eq_true_eq] at hc
  obtain ⟨-, ⟨hq, hr⟩, hfree, -⟩ := hc
  exact h.joined s _ hq hr hfree hs

theorem actWithdraw_kept (h : KeptByModes P) (t : Word16) (hs : P s) : P (actWithdraw t s) :=
  ite_kept (accept_kept h _ (admissionTest_kept h (h.withdrawn s _ hs))) (refuse_kept h _ _ _ hs)

theorem actPurge_kept (h : KeptByModes P) (hs : P s) : P (actPurge s) :=
  checked_kept h _ (fun _ => accept_kept h _ (beginPurge_kept h.toKeptBelow hs)) hs

theorem actWaveCal_kept (h : KeptByModes P) (hs : P s) : P (actWaveCal s) :=
  checked_kept h _ (fun _ => accept_kept h _ (beginSearch_kept h hs)) hs

theorem actCalAbort_kept (h : KeptByModes P) (hs : P s) : P (actCalAbort s) :=
  checked_kept h _ (fun _ => accept_kept h _ (abortSearch_kept h hs)) hs

theorem setTrim_kept (h : KeptByModes P) (k : ZoneId) (t : Int) (hs : P s) : P (setTrim k t s) :=
  warmSweep_kept h (afterLoops_kept h.toKeptBelow
    (updZone_kept h.toKeptBelow k (f := fun z => { z with trim := t }) (fun _ hz => hz) hs))

theorem actTrim_kept (h : KeptByModes P) (z : Byte) (v : Word16) (hs : P s) : P (actTrim z v s) := by
  unfold actTrim
  split
  · exact ite_kept (refuse_kept h _ _ _ hs) (answer_kept h _ (setTrim_kept h _ _ hs))
  · exact refuse_kept h _ _ _ hs

theorem actReportTake_kept (h : KeptByModes P) (hs : P s) : P (actReportTake s) := by
  unfold actReportTake
  split
  · exact answer_kept h _ hs
  next p rest hq => exact accept_kept h _ (admissionTest_kept h (h.taken s p rest hq hs))

theorem acknowledge_kept (h : KeptByModes P) (k : AlarmKind) (hs : P s) : P (acknowledge k s) := by
  have ht : P { s with alarms := s.alarms.set k (s.alarm k).acknowledge } := by
    refine h.alarm s k _ (by simp) (fun hk hp => ?_) hs
    subst hk
    exact (present_acknowledge _).symm.trans hp
  exact ite_kept (feedTestNow_kept h.toKeptBelow ht) ht

theorem acknowledgeAll_kept (h : KeptByModes P) (ks : List AlarmKind) (hs : P s) : P (acknowledgeAll ks s) := by
  induction ks generalizing s with
  | nil => exact hs
  | cons k rest ih => exact ih (acknowledge_kept h k hs)

theorem actAlarmAck_kept (h : KeptByModes P) (n : Byte) (hs : P s) : P (actAlarmAck n s) := by
  unfold actAlarmAck
  split
  · exact accept_kept h _ (admissionTest_kept h (acknowledgeAll_kept h _ hs))
  · split
    · exact accept_kept h _ (admissionTest_kept h (acknowledge_kept h _ hs))
    · exact refuse_kept h _ _ _ hs

theorem actAlertMode_kept (h : KeptByModes P) (m : Byte) (hs : P s) : P (actAlertMode m s) := by
  unfold actAlertMode
  split
  · exact accept_kept h _ (h.alert s _ hs)
  · exact refuse_kept h _ _ _ hs

theorem actLock_kept (h : KeptByModes P) (r : Request) (kind number : Byte) (lock : Bool) (hs : P s) :
    P (actLock r kind number lock s) :=
  checked_kept h _ (fun _ => beginOp_kept h _ hs) hs

theorem act_kept (h : KeptByModes P) (r : Request) (hs : P s) : P (act r s) := by
  cases r with
  | status => exact h.alert _ _ (answer_kept h _ hs)
  | measure a b => exact checked_kept h _ (fun _ => beginSingle_kept h _ _ hs) hs
  | start => exact actStart_kept h hs
  | run => exact actRun_kept h hs
  | stop => exact actStop_kept h hs
  | hold => exact actHold_kept h hs
  | resume => exact actResume_kept h hs
  | standby => exact actStandby_kept h hs
  | shutdown => exact actShutdown_kept h hs
  | clearSafe => exact actClearSafe_kept h hs
  | selectSet n => exact actSelectSet_kept h _ hs
  | announce t slot o => exact actAnnounce_kept h t slot o hs
  | withdraw t => exact actWithdraw_kept h t hs
  | purge => exact actPurge_kept h hs
  | waveCal => exact actWaveCal_kept h hs
  | calAbort => exact actCalAbort_kept h hs
  | trim z v => exact actTrim_kept h z v hs
  | reportTake => exact actReportTake_kept h hs
  | alarmAck n => exact actAlarmAck_kept h n hs
  | alertMode m => exact actAlertMode_kept h m hs
  | configWrite f => exact checked_kept h _ (fun _ => beginOp_kept h _ hs) hs
  | thermalRead n => exact checked_kept h _ (fun _ => answer_kept h _ hs) hs
  | thermalWrite n f => exact checked_kept h _ (fun _ => beginOp_kept h _ hs) hs
  | recipeRead n => exact checked_kept h _ (fun _ => answer_kept h _ hs) hs
  | recipeWrite n f => exact checked_kept h _ (fun _ => beginOp_kept h _ hs) hs
  | recipeErase n => exact checked_kept h _ (fun _ => beginOp_kept h _ hs) hs
  | lock k n => exact actLock_kept h _ k n true hs
  | unlock k n => exact actLock_kept h _ k n false hs
  | restart => exact h.link _ _ (accept_kept h _ hs)
  | caps | zoneRead | potRead | extractRead | transitRead | alarmRead | configRead => exact answer_kept h _ hs

theorem handle_kept (h : KeptByModes P) (r : Request) (hs : P s) : P (handle r s) :=
  ite_kept (refuse_kept h r _ _ hs) (ite_kept (refuse_kept h r _ _ hs) (act_kept h r hs))

/-! ### The line -/

theorem handleFrame_kept (h : KeptByModes P) (k : RequestKind) (payload : Bytes) (hs : P s) : P (handleFrame k payload s) := by
  unfold handleFrame
  split
  · exact handle_kept h _ hs
  · exact answer_kept h _ hs

theorem judgeFrame_kept (h : KeptByModes P) (crcOk : Bool) (kind tag : Byte) (payload : Bytes) (hs : P s) :
    P (judgeFrame crcOk kind tag payload s) := by
  unfold judgeFrame
  split
  · exact h.link s _ hs
  · split
    · exact h.link s _ hs
    · split
      · exact h.link s _ hs
      · exact handleFrame_kept h _ _ (h.link s _ hs)

theorem completeFrame_kept (h : KeptByModes P) (bytes : Bytes) (hs : P s) : P (completeFrame bytes s) := by
  unfold completeFrame
  dsimp only
  split
  · exact judgeFrame_kept h _ _ _ _ (h.link s _ hs)
  · exact h.link s _ hs

theorem takeByte_kept (h : KeptByModes P) (b : Byte) (hs : P s) : P (takeByte b s) := by
  unfold takeByte
  split
  · exact ite_kept (h.link s _ hs) hs
  · exact ite_kept (h.link s _ hs) (h.link s _ hs)
  · exact ite_kept (completeFrame_kept h _ hs) (h.link s _ hs)

theorem requestArrives_kept (h : KeptByModes P) (tag : Byte) (r : Request) (hs : P s) : P (requestArrives tag r s) :=
  ite_kept hs (ite_kept (h.link _ _ (h.link s _ hs)) (handle_kept h r (h.link _ _ (h.link s _ hs))))

theorem singleConversion_kept (h : KeptByModes P) (r : Reading) (hs : P s) : P (singleConversion r s) := by
  unfold singleConversion
  split
  · exact ite_kept (answer_kept h _ (h.scan s _ rfl hs)) (h.scan s _ rfl hs)
  · exact hs

theorem storeCompletes_kept (h : KeptByModes P) (verified : Bool) (hs : P s) : P (storeCompletes verified s) := by
  unfold storeCompletes
  split
  next op _ =>
    have ht := admissionTest_kept h (completeOp_kept h op verified hs)
    exact ite_kept ht (answer_kept h _ ht)
  · exact hs

/-! ### The resets -/

theorem tripAtReset_kept (h : KeptByModes P) (hs : P s) : P (tripAtReset s) := ite_kept (raise_kept h (by simp) hs) hs

theorem pinReset_kept (h : KeptByModes P) (pins : ResetPins) (hs : P s) : P (pinReset pins s) :=
  tripAtReset_kept h (h.reset s _ _ _ _ _ _ (fun k => by cases k <;> exact Nat.zero_le _) hs)

@[simp] theorem count_restartEntry (k : AlarmKind) (e : AlarmEntry) : (restartEntry k e).count = e.count := by
  unfold restartEntry
  dsimp only
  split <;> simp

theorem restartPart_kept (h : KeptByModes P) (pins : ResetPins) (hs : P s) : P (restartPart pins s) :=
  tripAtReset_kept h (h.reset s _ _ _ _ _ _ (fun k => by simp [State.alarm]) hs)

theorem replyEnds_kept (h : KeptByModes P) (pins : ResetPins) (hs : P s) : P (replyEnds pins s) :=
  ite_kept (ite_kept (restartPart_kept h pins hs) (h.link s _ hs)) hs

/-! ### The timers -/

theorem extractionExpiry_kept (h : KeptByModes P) (states : List ExtState) (timer : Option Nat) (new : ExtState) (hs : P s) :
    P (extractionExpiry states timer new s) := ite_kept (extractionTo_kept h new hs) hs

theorem graceExpires_kept (h : KeptByModes P) (hs : P s) : P (graceExpires s) := by
  unfold graceExpires
  split
  · exact h.graced s _ hs
  · exact hs
  · exact hs

theorem clogExpires_kept (h : KeptByModes P) (hs : P s) : P (clogExpires s) := by
  unfold clogExpires
  split
  · exact conditionAppears_kept h.toKeptBelow (by simp) (setExtr_kept h.toKeptBelow rfl rfl id hs)
  · exact hs

theorem feedProveExpires_kept (h : KeptByModes P) (hs : P s) : P (feedProveExpires s) := by
  unfold feedProveExpires
  split
  · exact ite_kept (occur_kept h (by simp) (stopFeeder_kept h.toKeptBelow hs)) hs
  · exact hs

theorem fumeTimesOut_kept (h : KeptByModes P) (hs : P s) : P (fumeTimesOut s) := ite_kept hs (h.fume s true hs)

theorem tripEdge_kept (h : KeptByModes P) (active : Bool) (hs : P s) : P (tripEdge active s) :=
  judgePotTrip_kept h (h.heat s _ ⟨id, fun _ hk => hk⟩ hs)

theorem tick_kept (h : KeptByModes P) (hs : P s) : P (tick s) := by
  have h1 : P (s.setModes (tickModes s)) :=
    h.modes s _ rfl (fun hc => by simpa [ModeCtl.shaped, tickModes] using hc) hs
  show P { (((((s.setModes (tickModes s)).setTracker (tickTracker s)).setSpray (tickSpray s.spray)).setPot
    (tickPot s)).setWave (tickWave s)).setExtr (tickExtraction s) with uptime := s.uptime + 1, freeIndex := s.freeIndex }
  refine h.clock _ _ _ (setExtr_kept h.toKeptBelow rfl rfl id (setWave_kept h.toKeptBelow rfl
    (setPot_kept h.toKeptBelow id rfl (setSpray_kept h.toKeptBelow (le_max_of_le_right le_rfl) id id
      (h.tracker _ _ ?_ h1)))))
  unfold tickTracker
  split
  · refine ⟨rfl, rfl, ?_⟩
    simp [Function.comp_def, Admission.outline]
    rfl
  · exact ⟨rfl, rfl, rfl⟩

/-! ### Every command and every step -/

/-- A promise that the Mode Controller's operations and those below it keep is kept by every command. -/
theorem exec_kept (h : KeptByModes P) (c : Instr) (hs : P s) {t : State} (ht : exec c s = .next t) : P t := by
  have hnext : ∀ {u : State}, P u → (Host.Outcome.next u : Result) = .next t → P t := fun hu he => by
    injection he with he
    exact he ▸ hu
  have hrequest : ∀ (tag : Byte) (r : Request), P (requestArrives tag r s) := fun tag r => requestArrives_kept h tag r hs
  cases c with
  | pinReset pins => exact hnext (pinReset_kept h pins hs) ht
  | storeStartUpCheckEnd found => exact hnext (startUpCheckEnds_kept h found hs) ht
  | byteReceived b =>
    have hb := readFinger_kept h.toKeptBelow b.finger hs
    exact hnext (u := byteArrives b.value (readFinger b.finger s)) (ite_kept hb (takeByte_kept h _ hb)) ht
  | byteGapExpiry => exact hnext (h.link s _ hs) ht
  | replySent pins => exact hnext (replyEnds_kept h pins hs) ht
  | potRead tag => exact hnext (requestArrives_kept h _ _ (readFinger_kept h.toKeptBelow _ hs)) ht
  | storeOperationComplete verified => exact hnext (storeCompletes_kept h verified hs) ht
  | compositionComplete => exact hnext (completeComposition_kept h.toKeptBelow hs) ht
  | encoderStep forward => exact hnext (admissionTest_kept h (encoderSteps_kept h forward hs)) ht
  | stopperSensorEdge present =>
    exact hnext (admissionTest_kept h (h.tracker s { s.tracker with stopper := present } ⟨rfl, rfl, rfl⟩ hs)) ht
  | entrySensorRise => exact hnext (admissionTest_kept h (entryRises_kept h hs)) ht
  | entrySensorFall => exact hnext (admissionTest_kept h (entryFalls_kept h hs)) ht
  | entryTimerExpiry => exact hnext (admissionTest_kept h (entryTimesOut_kept h hs)) ht
  | exitSensorRise => exact hnext (admissionTest_kept h (exitRises_kept h hs)) ht
  | exitSensorFall => exact hnext (admissionTest_kept h (exitFalls_kept h hs)) ht
  | speedWindowEnd => exact hnext (admissionTest_kept h (speedWindowEnds_kept h hs)) ht
  | holdLimitExpiry => exact hnext (admissionTest_kept h (holdLimitReached_kept h hs)) ht
  | meltTimerExpiry => exact hnext (meltTimerExpires_kept h hs) ht
  | zoneWarmTimeout zone => exact hnext (zoneTimesOut_kept h zone hs) ht
  | settleTimeExpiry => exact hnext (settleEnds_kept h hs) ht
  | soakComplete => exact hnext (soakCompletes_kept h hs) ht
  | strokePhaseEnd => exact hnext (strokePhaseEnds_kept h.toKeptBelow hs) ht
  | cellEntry => exact hnext (cellEntered_kept h.toKeptBelow hs) ht
  | valveOpenTimeEnd => exact hnext (valveTimeEnds_kept h.toKeptBelow hs) ht
  | strokeCompletion => exact hnext (admissionTest_kept h (strokeCompletes_kept h.toKeptBelow hs)) ht
  | purgeParkEnd => exact hnext (purgeParks_kept h.toKeptBelow hs) ht
  | purgeTimeEnd => exact hnext (admissionTest_kept h (purgeCompletes_kept h.toKeptBelow hs)) ht
  | halfCycleSlotEnd => exact hnext (slotEnds_kept h.toKeptBelow hs) ht
  | burnoutTestEnd circuitOpen => exact hnext (admissionTest_kept h (burnoutEnds_kept h circuitOpen hs)) ht
  | controlConversionEnd reading => exact hnext (admissionTest_kept h (controlConversion_kept h reading hs)) ht
  | singleShotConversionEnd reading => exact hnext (singleConversion_kept h reading hs) ht
  | staleMarking channel => exact hnext (admissionTest_kept h (markStale_kept h _ hs)) ht
  | fumeFirstJudgementTimeout => exact hnext (admissionTest_kept h (fumeTimesOut_kept h hs)) ht
  | potTripEdge active => exact hnext (admissionTest_kept h (tripEdge_kept h active hs)) ht
  | fanFeedbackEdge present => exact hnext (takeFeedback_kept h.toKeptBelow present hs) ht
  | maintenanceKeyEdge on => exact hnext (h.store s { s.store with key := on } (fun hw => ⟨hw.1, hw.2, hw.3, hw.4⟩) hs) ht
  | driveHoldEnd => exact hnext (setPot_kept h.toKeptBelow (p := { s.pot with driveHold := none }) id rfl hs) ht
  | feedProveExpiry => exact hnext (feedProveExpires_kept h hs) ht
  | dwellEnd wetted => exact hnext (dwellEnds_kept h wetted hs) ht
  | proveTimerExpiry => exact hnext (admissionTest_kept h (extractionExpiry_kept h _ _ _ hs)) ht
  | qualifyTimerExpiry => exact hnext (admissionTest_kept h (extractionExpiry_kept h _ _ _ hs)) ht
  | warnTimerExpiry => exact hnext (admissionTest_kept h (extractionExpiry_kept h _ _ _ hs)) ht
  | failTimerExpiry => exact hnext (admissionTest_kept h (extractionExpiry_kept h _ _ _ hs)) ht
  | feedbackTimerExpiry => exact hnext (admissionTest_kept h (extractionExpiry_kept h _ _ _ hs)) ht
  | recoverTimerExpiry => exact hnext (admissionTest_kept h (extractionExpiry_kept h _ _ _ hs)) ht
  | graceTimerExpiry => exact hnext (graceExpires_kept h hs) ht
  | clogTimerExpiry => exact hnext (clogExpires_kept h hs) ht
  | alertPulseEnd => exact hnext (h.alert s _ hs) ht
  | alertRecoveryEnd => exact hnext (h.alert s _ hs) ht
  | _ => exact hnext (hrequest _ _) ht

/-- Such a promise outlasts every step. -/
theorem step_kept (h : KeptByModes P) (hs : P s) {t : State} (ht : step s = .next t) : P t := by
  unfold step at ht
  split at ht
  · injection ht with ht
    exact ht ▸ tick_kept h hs
  · exact exec_kept h _ (h.queue s _ hs) ht

end Sys2Proof.Machine
end

section
/-! PROOFS. The promises of the Mode Controller and of the outputs, compared with the blocks they read. -/

namespace Sys2Proof.Machine

variable {s : State}

/-! ### The mode items fit together (R1) -/

theorem enter_shaped {new : Mode} (hn : new.forcible = false) (hw : new ≠ .warmup) (b : Bool) (c : ModeCtl) :
    (c.enter new b).shaped := by
  cases new <;> simp [ModeCtl.enter, ModeCtl.shaped, Mode.forcible] at *

theorem enter_ready_shaped (b : Bool) (c : ModeCtl) : (c.enter .ready b).shaped := by simp [ModeCtl.enter, ModeCtl.shaped]

theorem toDrain_shaped {t : DrainTarget} (ht : t ≠ .none) (s : State) : (toDrain t s).modes.shaped := by
  simp [ModeCtl.shaped, ht]

theorem drainCompletes_shaped (hs : s.modes.shaped) : (drainCompletes s).modes.shaped := by
  unfold drainCompletes
  split
  · rw [setMode_modes]
    cases s.modes.drain <;> simp [DrainTarget.mode, ModeCtl.enter, ModeCtl.shaped]
  · exact hs

theorem forceStandby_shaped (hs : s.modes.shaped) : (forceStandby s).modes.shaped := by
  unfold forceStandby
  split
  · rw [setMode_modes]
    exact enter_shaped rfl (by simp) _ _
  · exact drainCompletes_shaped (toDrain_shaped (by simp) s)
  · split
    · obtain ⟨-, hr, hw, hp⟩ := hs
      simp_all [ModeCtl.shaped]
    · exact hs
  · exact drainCompletes_shaped (toDrain_shaped (by split <;> simp) s)
  all_goals exact hs

theorem forcedTest_shaped (hs : s.modes.shaped) : (forcedTest s).modes.shaped := by
  unfold forcedTest
  split
  · exact forceStandby_shaped hs
  · exact hs

theorem judgeFume_modes (hot : Bool) (s : State) : (judgeFume hot s).modes = s.modes :=
  congrArg (·.modes) (fanSync_quiet (s.setPot { s.pot with fumeHot := hot, fumeJudged := true }))

theorem keptByModes_shaped : KeptByModes (fun s => s.modes.shaped) where
  reset := fun _ _ _ _ _ _ _ _ _ => by simp [resetWith, ModeCtl.shaped]
  modes := fun _ _ _ hx hs => hx hs
  rest := fun s new hn hw _ => by
    rw [setMode_modes]
    exact enter_shaped hn hw _ _
  warmup := fun s w _ => by
    rw [setMode_modes]
    simp [ModeCtl.enter, ModeCtl.shaped]
  ready := fun s _ => forcedTest_shaped (by rw [setMode_modes]; exact enter_ready_shaped _ _)
  run := fun s hs => forcedTest_shaped (by
    rw [setMode_modes]
    simp [ModeCtl.enter, ModeCtl.shaped])
  drain := fun s t ht hs => forcedTest_shaped (drainCompletes_shaped (toDrain_shaped (ht hs) s))
  hold := fun s hm hs => forcedTest_shaped (by
    rw [setMode_modes]
    obtain ⟨hd, hr, hw, hp⟩ := hs
    rcases hm ⟨hd, hr, hw, hp⟩ with h | h <;> simp_all [ModeCtl.enter, ModeCtl.shaped])
  drained := fun s hs => forcedTest_shaped (drainCompletes_shaped hs)
  graced := fun s g hs => forcedTest_shaped hs
  fume := fun s hot hs => by
    rw [judgeFume_modes]
    exact hs

/-! ### The fan follows the mode and the fume signal (R145) -/

theorem keptBelow_fanFollows : KeptBelow State.fanFollows where
  potWave := fun s p w hp _ hs => by
    have hw : ((s.setPot p).setWave w).fanWanted = s.fanWanted := by simp [State.fanWanted, hp]
    rw [State.fanFollows, hw]
    exact hs
  extr := fun s x hx _ _ hs => by
    rcases hx with hx | hx
    · exact hx.trans hs
    · exact hx
  reset := fun _ _ _ _ _ _ _ _ _ => rfl

theorem fanSync_fanFollows (s : State) : (fanSync s).fanFollows := by
  unfold fanSync
  split
  next h => exact h.symm
  · split
    next h => exact changeExtraction_kept keptBelow_fanFollows _ h.symm
    next h => exact changeExtraction_kept keptBelow_fanFollows _ (Bool.eq_false_iff.mpr h).symm

/-- A mode entry sets the fan command as the mode entered asks, and nothing behind it touches what it follows. -/
theorem setMode_fanFollows (new : Mode) (s : State) : (setMode new s).fanFollows := by
  have h := keptBelow_fanFollows
  unfold setMode
  refine afterLoops_kept h (conveyorSync_kept h (trackAtMode_kept h new (waveAtMode_kept h _ new ?_)))
  refine ite_kept (searchAtSafe_kept h ?_) ?_ <;> exact sprayAtMode_kept h new (fanSync_fanFollows _)

theorem keptByModes_fanFollows : KeptByModes State.fanFollows :=
  keptByModes_of_setMode keptBelow_fanFollows (fun s new _ => setMode_fanFollows new s)
    (fun s x hx hs => by
      have hw : (s.setModes x).fanWanted = s.fanWanted := by simp [State.fanWanted, hx]
      rw [State.fanFollows, hw]
      exact hs)
    (fun _ _ _ hs => hs) (fun s hot _ => fanSync_fanFollows _)

/-! ### Forced standby is settled (R25, R151) -/

theorem keptBelow_notDue : KeptBelow (fun s => s.extr.forcedDue = false) where
  extr := fun s x _ hx _ hs => by
    by_contra hd
    rw [hx (by simpa using hd)] at hs
    cases hs
  reset := fun _ _ _ _ _ _ _ _ _ => rfl

theorem keptBelow_forcedSettled : KeptBelow State.forcedSettled where
  extr := fun s x _ hx _ hs hd => hs (hx hd)
  reset := fun _ _ _ _ _ _ _ _ _ hd => by cases hd

/-- Forced standby that is due acts where it can, and is not due behind that. -/
theorem forcedTest_forcedSettled (s : State) : (forcedTest s).forcedSettled := by
  unfold forcedTest
  split
  next hc =>
    have hm : ∀ (s : State) (x : ModeCtl), s.extr.forcedDue = false → (s.setModes x).extr.forcedDue = false := fun _ _ h => h
    have hnot := forceStandby_kept (P := fun s => s.extr.forcedDue = false)
      (fun _ new hs => setMode_kept keptBelow_notDue hm new hs) (fun s x _ hs => hm s x hs)
      (s := s.setExtr { s.extr with forcedDue := false }) rfl
    intro hd
    rw [hnot] at hd
    cases hd
  next hc =>
    intro hd
    simpa [hd] using hc

/-- In a mode in which forced standby does not act it may stay due. -/
theorem forcedSettled_of_mode (h : s.modes.mode.forcible = false) : s.forcedSettled := fun _ => h

theorem keptByModes_forcedSettled : KeptByModes State.forcedSettled :=
  { keptBelow_forcedSettled with
    modes := fun s x hx _ hs hd => by
      rw [setModes_modes, hx]
      exact hs hd
    rest := fun s new hn _ _ => forcedSettled_of_mode (by simpa using hn)
    warmup := fun s w _ => forcedSettled_of_mode (by simp [Mode.forcible])
    ready := fun _ _ => forcedTest_forcedSettled _
    run := fun _ _ => forcedTest_forcedSettled _
    drain := fun _ _ _ _ => forcedTest_forcedSettled _
    hold := fun _ _ _ => forcedTest_forcedSettled _
    drained := fun _ _ => forcedTest_forcedSettled _
    graced := fun _ _ _ => forcedTest_forcedSettled _
    fume := fun _ _ hs => fanSync_kept keptBelow_forcedSettled hs }

/-- Settles O30: each of the three promises is kept block by block and mode entry by mode entry, so by every step. -/
theorem modeItemsStayFitting : Obligations.ModeItemsStayFitting := fun _ _ ht =>
  ⟨fun hs => step_kept keptByModes_shaped hs ht, fun hs => step_kept keptByModes_fanFollows hs ht,
    fun hs => step_kept keptByModes_forcedSettled hs ht⟩

/-! ### The outputs (R80, R98, R101, R107, R131) -/

theorem keptBelow_valvesSafe : KeptBelow State.valvesSafe where
  extr := fun s x _ _ hx hs ho => (sound_iff _).mp (hx ho ((sound_iff _).mpr (hs ho)))
  spray := fun s x _ ho hp hs hx => by
    rcases hx with hx | hx
    · rcases ho hx with h | h
      · exact hs (.inl h)
      · exact (sound_iff _).mp h
    · rcases hp hx with h | h
      · exact hs (.inr h)
      · exact (sound_iff _).mp h
  reset := fun _ _ _ _ _ _ _ _ _ hx => by simp [resetWith] at hx

theorem keptByModes_valvesSafe : KeptByModes State.valvesSafe :=
  keptByModes_of_free keptBelow_valvesSafe (fun _ _ hs => hs) (fun _ _ _ hs => hs) (fun _ _ _ hs => hs)

theorem keptBelow_waveSafe : KeptBelow State.waveSafe where
  potWave := fun _ _ _ _ hw hs => hw hs
  reset := fun _ _ _ _ _ _ _ _ _ _ => rfl

theorem keptByModes_waveSafe : KeptByModes State.waveSafe :=
  keptByModes_of_free keptBelow_waveSafe (fun _ _ hs => hs) (fun _ _ _ hs => hs) (fun _ _ _ hs => hs)

/-- Every grant is 0. -/
def Heaters.AtRest (x : Heaters) : Prop := x.pot.grant = 0 ∧ ∀ k, (x.zones.get k).grant = 0

theorem Heaters.Grants0Kept.atRest {x y : Heaters} (h : x.Grants0Kept y) (hy : y.AtRest) : x.AtRest :=
  ⟨h.pot hy.1, fun k => h.zone k (hy.2 k)⟩

theorem zeroGrants_atRest (s : State) : (zeroGrants s).heat.AtRest := ⟨rfl, fun k => by simp [zeroGrants]⟩

/-- What a change of one entry does to SUPPLY_LOW's condition. -/
theorem supplyLow_of_set {k : AlarmKind} {e : AlarmEntry}
    (he : k = .supplyLow → e.state.present = true → s.supplyLow = true)
    (h : State.supplyLow { s with alarms := s.alarms.set k e } = true) : s.supplyLow = true := by
  by_cases hk : k = .supplyLow
  · subst hk
    exact he rfl (by simpa [State.supplyLow, State.condition, State.alarm] using h)
  · simpa [State.supplyLow, State.condition, State.alarm, alarms_get_set_other _ _ _ _ (Ne.symm hk)] using h

/-- The grants are 0 where the mode or the supply forces them, `forced` being what the mode asks. -/
theorem keptBelow_grants (forced : Mode → Bool) (hf : ∀ m, forced m = true → m = .idle ∨ m = .safe) :
    KeptBelow (fun s => forced s.modes.mode = true ∨ s.supplyLow = true → s.heat.AtRest) where
  alarm := fun s k e _ he hs hc => hs (hc.imp_right (supplyLow_of_set he))
  supply := fun s _ _ => zeroGrants_atRest _
  heat := fun s x hx hs hc => hx.atRest (hs hc)
  share := fun s x hx _ hc => by
    refine hx ?_
    rcases hc with hc | hc
    · rcases hf _ hc with hm | hm <;> simp [State.forcedZero, show s.modes.mode = _ from hm]
    · simp [State.forcedZero, show s.supplyLow = true from hc]
  reset := fun _ _ _ _ _ _ _ _ _ _ => ⟨rfl, fun k => by cases k <;> rfl⟩

theorem keptByModes_supplyGrants : KeptByModes (fun s => s.supplyLow = true → s.heat.AtRest) := by
  have h := keptBelow_grants (fun _ => false) (by simp)
  simp only [Bool.false_eq_true, false_or] at h
  exact keptByModes_of_free h (fun _ _ hs => hs) (fun _ _ _ hs => hs) (fun _ _ _ hs => hs)

theorem heatersSafe_iff :
    s.heatersSafe ↔ ((s.modes.mode == .idle || s.modes.mode == .safe) = true ∨ s.supplyLow = true → s.heat.AtRest) := by
  simp [State.heatersSafe, Heaters.AtRest, State.zone, or_assoc]

/-- In IDLE and in SAFE the loops that a mode entry settles all rest (R93, R101). -/
theorem setMode_atRest {new : Mode} (hn : new = .idle ∨ new = .safe) (s : State) : (setMode new s).heat.AtRest := by
  have hmode : ∀ u : State, (afterLoops u).modes.mode = new → u.potActive = false := fun u hu => by
    have hq : (afterLoops u).modes = u.modes := congrArg (·.modes) (afterLoops_quiet u)
    rw [hq] at hu
    rcases hn with rfl | rfl <;> simp [State.potActive, hu]
  have hrest : ∀ u : State, u.potActive = false → (afterLoops u).heat.AtRest := fun u hu => by
    obtain ⟨p, hp⟩ := afterLoops_eq_setPot u
    rw [hp]
    exact ⟨by simp [settleLoops, hu, PotLoop.inactive], fun k => by simp [settleLoops, State.zoneActive, hu, Zone.inactive]⟩
  have hm : (setMode new s).modes.mode = new := by simp
  unfold setMode at hm ⊢
  exact hrest _ (hmode _ hm)

theorem keptByModes_heatersSafe : KeptByModes State.heatersSafe := by
  have hb : KeptBelow State.heatersSafe := by
    rw [show State.heatersSafe = _ from funext fun s => propext heatersSafe_iff]
    exact keptBelow_grants (fun m => m == .idle || m == .safe) (by simp)
  refine keptByModes_of_setMode hb (fun s new hs => ?_) (fun s x hx hs => ?_) (fun _ _ _ hs => hs)
    (fun s hot hs => fanSync_kept hb hs)
  · have hsupply := setMode_kept keptByModes_supplyGrants.toKeptBelow (fun _ _ h => h) new
      (fun hl => heatersSafe_iff.mp hs (.inr hl))
    rw [heatersSafe_iff]
    rintro (hm | hl)
    · exact setMode_atRest (by simpa using hm) s
    · exact hsupply hl
  · rw [heatersSafe_iff] at hs ⊢
    rw [setModes_modes, hx]
    exact hs

/-- Settles O60: each of the three promises is kept block by block, and where a mode entry forces the grants to 0 the loops
settle at its end. -/
theorem outputsStaySafe : Obligations.OutputsStaySafe := fun _ _ ht =>
  ⟨fun hs => step_kept keptByModes_valvesSafe hs ht, fun hs => step_kept keptByModes_heatersSafe hs ht,
    fun hs => step_kept keptByModes_waveSafe hs ht⟩

end Sys2Proof.Machine
end

section
/-! PROOFS. The promises of the tables, compared with the blocks they read. The places of the boards rest on the outlines of the
records alone: tag, stage and entry count. -/

namespace Sys2Proof.Machine

variable {s : State}

/-! ### The store and the scanner are complete, the counts fit (R155, R165, R172, R177) -/

theorem complete_iff : s.complete ↔ s.scan.slots.length = 16 ∧ s.store.Whole :=
  ⟨fun ⟨h, a, b, c, d⟩ => ⟨h, a, b, c, d⟩, fun ⟨h, a, b, c, d⟩ => ⟨h, a, b, c, d⟩⟩

theorem keptBelow_complete : KeptBelow State.complete where
  scan := fun s x hx hs => ⟨hx.trans hs.1, hs.2⟩
  store := fun s x hx hs => complete_iff.mpr ⟨(complete_iff.mp hs).1, hx (complete_iff.mp hs).2⟩
  reset := fun s _ _ _ _ _ _ _ hs => by
    obtain ⟨-, -, -, hr, ht⟩ := hs
    exact ⟨rfl, rfl, rfl, hr, ht⟩

theorem keptByModes_complete : KeptByModes State.complete :=
  keptByModes_of_free keptBelow_complete (fun _ _ hs => hs) (fun _ _ _ hs => hs) (fun _ _ _ hs => hs)

theorem keptBelow_countsFit : KeptBelow State.countsFit where
  alarm := fun s k e he _ hs => by
    refine ⟨fun j => ?_, hs.2⟩
    have hk := hs.1 k
    by_cases hj : j = k
    · subst hj
      simp only [State.alarm, alarms_get_set_same]
      exact he.trans (max_le le_rfl hk)
    · simp only [State.alarm, alarms_get_set_other _ _ _ _ hj]
      exact hs.1 j
  supply := fun s hs => by
    refine ⟨fun j => ?_, hs.2⟩
    by_cases hj : j = .supplyLow
    · subst hj
      simp [zeroGrants, occurrence, State.alarm, satAdd]
    · simp only [zeroGrants, occurrence, State.alarm, State.setHeat, alarms_get_set_other _ _ _ _ hj]
      exact hs.1 j
  report := fun s tag p _ hs => ⟨hs.1, Nat.mod_lt _ (by decide)⟩
  reset := fun s _ _ _ _ _ _ ha hs => ⟨fun k => (ha k).trans (max_le le_rfl (hs.1 k)), by simp [resetWith]⟩

theorem keptByModes_countsFit : KeptByModes State.countsFit :=
  keptByModes_of_free keptBelow_countsFit (fun _ _ hs => hs) (fun _ _ _ hs => hs) (fun _ _ _ hs => hs)

/-! ### The capacities (R34, R35, R74) -/

theorem Tracker.SameBoards.length {x y : Tracker} (h : x.SameBoards y) : x.records.length = y.records.length := by
  simpa using congrArg List.length h.records

theorem mayAdmit_room (h : s.mayAdmit = true) :
    s.tracker.records.length < 12 ∧ s.tracker.records.length + s.reports.queue.length < 16 := by
  simp only [State.mayAdmit, Config.maxRecords, Config.maxReports, Bool.and_eq_true] at h
  obtain ⟨⟨⟨⟨-, hrec⟩, hrep⟩, -⟩, -⟩ := h
  exact ⟨of_decide_eq_true hrec, of_decide_eq_true hrep⟩

/-- A record that leaves makes room. -/
theorem length_dropRecord {tag : Nat} (h : (s.record? tag).isSome = true) :
    (dropRecord tag s).tracker.records.length < s.tracker.records.length := by
  obtain ⟨r, hr, ht⟩ := isSome_record?_iff.mp h
  exact List.length_filter_lt_length_iff_exists.mpr ⟨r, hr, by simp [ht]⟩

theorem keptBelow_withinCapacity : KeptBelow State.withinCapacity where
  spray := fun s x hx _ _ hs => ⟨hs.1, hs.2.1, hx.trans (max_le le_rfl hs.2.2)⟩
  tracker := fun s x hx hs => by
    simp only [State.withinCapacity, setTracker_tracker, setTracker_reports, setTracker_spray, hx.length]
    exact hs
  report := fun s tag p hr hs => by
    have hl := length_dropRecord hr
    obtain ⟨hrec, hrep, hq⟩ := hs
    refine ⟨hl.le.trans hrec, ?_, hq⟩
    simp only [joinReport, List.length_append, List.length_singleton]
    have : (dropRecord tag s).reports.queue.length = s.reports.queue.length := rfl
    omega
  gateOpened := fun s a rest b rows hm _ hs => by
    obtain ⟨hrec, hrep⟩ := mayAdmit_room hm
    refine ⟨?_, ?_, hs.2.2⟩ <;> simp <;> omega
  rise := fun s a c hs => by simpa [State.withinCapacity, updateRecord, mapRecords] using hs
  fall := fun s x _ hx _ hs => by
    have hl : x.records.length = s.tracker.records.length := by simpa using congrArg List.length hx
    simp only [State.withinCapacity, setTracker_tracker, setTracker_reports, setTracker_spray, hl]
    exact hs
  returned := fun s d a _ _ hr _ hs => by
    have hl := length_dropRecord hr
    obtain ⟨hrec, hrep, hq⟩ := hs
    refine ⟨hl.le.trans hrec, ?_, hq⟩
    have : ((dropRecord a.tag s).tracker.records.length) + s.reports.queue.length ≤ 16 := by omega
    exact this
  matched := fun s r _ hs => by simpa [State.withinCapacity, updateRecord, mapRecords] using hs
  taken := fun s p rest hq hs => by
    obtain ⟨hrec, hrep, hsp⟩ := hs
    refine ⟨hrec, ?_, hsp⟩
    rw [hq] at hrep
    simp only [List.length_cons] at hrep ⊢
    omega
  reset := fun _ _ _ _ _ _ _ _ _ => by simp [State.withinCapacity, resetWith]

theorem keptByModes_withinCapacity : KeptByModes State.withinCapacity :=
  keptByModes_of_free keptBelow_withinCapacity (fun _ _ hs => hs) (fun _ _ _ hs => hs) (fun _ _ _ hs => hs)

/-! ### The tags of the boards are distinct (R31, R32, R34) -/

theorem map_tag_eq_of_outline {l m : List Record} (h : l.map Record.outline = m.map Record.outline) :
    l.map (·.tag) = m.map (·.tag) := by
  simpa [Function.comp_def, Record.outline] using congrArg (List.map Prod.fst) h

theorem map_tag_updateRecord {tag : Nat} {f : Record → Record} (hf : ∀ r, (f r).tag = r.tag) (s : State) :
    (updateRecord tag f s).tracker.records.map (·.tag) = s.tracker.records.map (·.tag) := by
  simp only [updateRecord, mapRecords, List.map_map]
  refine List.map_congr_left fun r _ => ?_
  simp only [Function.comp_apply]
  split
  · exact hf r
  · rfl

theorem map_tag_dropRecord (tag : Nat) (s : State) :
    (dropRecord tag s).tracker.records.map (·.tag) = (s.tracker.records.map (·.tag)).filter (· ≠ tag) := by
  simp [dropRecord, List.filter_map, Function.comp_def]

/-- A new tag is put in anywhere. -/
theorem nodup_middle {l m : List Nat} {n : Nat} : (l ++ n :: m).Nodup ↔ n ∉ l ++ m ∧ (l ++ m).Nodup := by
  rw [List.perm_middle.nodup_iff, List.nodup_cons]

theorem keptBelow_tagsDistinct : KeptBelow State.tagsDistinct where
  tracker := fun s x hx hs => by
    simp only [State.tagsDistinct, setTracker_tracker, hx.queue, map_tag_eq_of_outline hx.records]
    exact hs
  report := fun s tag p _ hs => by
    have hd := map_tag_dropRecord tag s
    refine List.Nodup.sublist ?_ hs
    refine List.Sublist.append_left ?_ _
    exact (List.filter_sublist (l := s.tracker.records)).map _
  gateOpened := fun s a rest b rows _ hq hs => by
    simp only [State.tagsDistinct, hq, List.map_cons, List.cons_append, List.nodup_cons] at hs
    simp only [State.tagsDistinct, setTracker_tracker, List.map_append, List.map_cons, List.map_nil]
    rw [← List.append_assoc, nodup_middle, List.append_nil]
    exact hs
  rise := fun s a c hs => by
    simp only [State.tagsDistinct, setTracker_tracker]
    rw [map_tag_updateRecord (f := Record.convey c) (fun _ => rfl)]
    exact hs
  fall := fun s x hq hx _ hs => by
    simp only [State.tagsDistinct, setTracker_tracker, hq, map_tag_eq_of_outline hx]
    exact hs
  returned := fun s d a _ _ hr _ hs => by
    obtain ⟨r, hm, ht⟩ := isSome_record?_iff.mp hr
    obtain ⟨hq, hrec, hdis⟩ := List.nodup_append.mp hs
    simp only [State.tagsDistinct, setTracker_tracker, List.map_cons, List.cons_append, List.nodup_cons]
    rw [map_tag_dropRecord]
    refine ⟨?_, List.Nodup.sublist (List.Sublist.append_left List.filter_sublist _) hs⟩
    have hnq : a.tag ∉ s.tracker.queue.map (·.tag) := fun hmem =>
      hdis _ hmem _ (List.mem_map_of_mem (f := (·.tag)) hm) ht.symm
    simp only [List.mem_append, List.mem_filter, not_or]
    exact ⟨hnq, by simp⟩
  matched := fun s r _ hs => by
    simp only [State.tagsDistinct]
    rw [map_tag_updateRecord (f := Record.meetExit) (fun _ => rfl)]
    exact hs
  joined := fun s a hq hr _ hs => by
    simp only [State.tagsDistinct, announce, setTracker_tracker, List.map_append, List.map_cons, List.map_nil,
      List.append_assoc, List.singleton_append]
    rw [nodup_middle]
    refine ⟨?_, hs⟩
    simp only [State.announced, State.inTransit, List.any_eq_false, decide_eq_true_eq] at hq hr
    simp only [List.mem_append, List.mem_map, not_or, not_exists, not_and]
    exact ⟨hq, hr⟩
  withdrawn := fun s tag hs =>
    List.Nodup.sublist (List.Sublist.append_right (List.filter_sublist.map _) _) hs
  reset := fun _ _ _ _ _ _ _ _ _ => by simp [State.tagsDistinct, resetWith]

theorem keptByModes_tagsDistinct : KeptByModes State.tagsDistinct :=
  keptByModes_of_free keptBelow_tagsDistinct (fun _ _ hs => hs) (fun _ _ _ hs => hs) (fun _ _ _ hs => hs)

/-! ### The place of an ENTERING board (R31, R38, R39) -/

/-- The outline of a record. -/
abbrev Outline := Nat × Stage × Option Count24

/-- The outline of the first record with a tag. -/
def outlineOf (l : List Outline) (tag : Nat) : Option Outline := l.find? (fun o => o.1 = tag)

/-- Whether the admission in progress has its record in stage ENTERING. -/
def enteringIn (d : Option (Nat × Bool)) (l : List Outline) : Bool :=
  match d with
  | some a => match outlineOf l a.1 with
    | some o => o.2.1 == .entering
    | none => false
  | none => false

/-- The promise of R31 on the outlines of the records: the places, the entry timer, the entry counts. -/
structure PlacesIn (n : Nat) (d : Option (Nat × Bool)) (l : List Outline) : Prop where
  places : n + (if enteringIn d l then 1 else 0) ≤ 8
  timer : ∀ a ∈ d, a.2 = true → ∀ o ∈ outlineOf l a.1, o.2.1 = .entering
  entry : ∀ o ∈ l, o.2.1 = .entering → o.2.2 = none

theorem outlineOf_records (s : State) (tag : Nat) :
    outlineOf (s.tracker.records.map Record.outline) tag = (s.record? tag).map Record.outline := by
  rw [outlineOf, List.find?_map]
  rfl

theorem entering_eq (s : State) : s.entering
    = enteringIn (s.tracker.admission.map Admission.outline) (s.tracker.records.map Record.outline) := by
  unfold State.entering enteringIn
  cases s.tracker.admission with
  | none => rfl
  | some a =>
    simp only [Option.map_some, Admission.outline, outlineOf_records]
    cases s.record? a.tag <;> rfl

theorem placesFit_iff : s.placesFit ↔ PlacesIn s.tracker.queue.length (s.tracker.admission.map Admission.outline)
    (s.tracker.records.map Record.outline) := by
  rw [State.placesFit, entering_eq]
  constructor
  · rintro ⟨hp, ht, he⟩
    refine ⟨hp, ?_, ?_⟩
    · simpa [outlineOf_records, Admission.outline, Record.outline] using ht
    · simpa [Record.outline] using he
  · rintro ⟨hp, ht, he⟩
    refine ⟨hp, ?_, ?_⟩
    · simpa [outlineOf_records, Admission.outline, Record.outline] using ht
    · simpa [Record.outline] using he

end Sys2Proof.Machine
end

section
/-! PROOFS. The places of the boards, kept by what happens to the outlines of the records. -/

namespace Sys2Proof.Machine

variable {s : State} {n : Nat} {d : Option (Nat × Bool)} {l : List Outline}

theorem outlineOf_filter (l : List Outline) (tag j : Nat) :
    outlineOf (l.filter (fun o => o.1 ≠ tag)) j = if j = tag then none else outlineOf l j := by
  unfold outlineOf
  rw [List.find?_filter]
  split
  next h =>
    rw [List.find?_eq_none]
    rintro o - ho
    simp_all
  next h =>
    congr 1
    funext o
    by_cases ho : o.1 = j
    · simp [ho, h]
    · simp [ho]

theorem mem_of_outlineOf {tag : Nat} {o : Outline} (h : outlineOf l tag = some o) : o ∈ l ∧ o.1 = tag :=
  ⟨List.mem_of_find?_eq_some h, by simpa using List.find?_some h⟩

theorem enteringIn_iff : enteringIn d l = true ↔ ∃ a ∈ d, ∃ o ∈ outlineOf l a.1, o.2.1 = .entering := by
  unfold enteringIn
  cases d with
  | none => simp
  | some a =>
    cases ho : outlineOf l a.1 with
    | none => simp [ho]
    | some o =>
      obtain ⟨tag, stage, entry⟩ := o
      simp [ho]

/-- Fewer announcements, or an admission that is ENTERING no longer, leave room. -/
theorem PlacesIn.mono {m : Nat} {e : Option (Nat × Bool)} {k : List Outline} (h : PlacesIn n d l) (hm : m ≤ n)
    (he : enteringIn e k = true → enteringIn d l = true)
    (ht : ∀ a ∈ e, a.2 = true → ∀ o ∈ outlineOf k a.1, o.2.1 = .entering)
    (hk : ∀ o ∈ k, o.2.1 = .entering → o.2.2 = none) : PlacesIn m e k := by
  refine ⟨?_, ht, hk⟩
  have hp := h.places
  split
  next hc =>
    rw [if_pos (he hc)] at hp
    omega
  · split at hp <;> omega

/-- A record that leaves the table keeps the places. -/
theorem PlacesIn.filter (h : PlacesIn n d l) (tag : Nat) : PlacesIn n d (l.filter (fun o => o.1 ≠ tag)) := by
  have hsome : ∀ j o, outlineOf (l.filter (fun o => o.1 ≠ tag)) j = some o → outlineOf l j = some o := fun j o ho => by
    rw [outlineOf_filter] at ho
    split at ho
    · cases ho
    · exact ho
  refine h.mono le_rfl (fun he => ?_) (fun a ha ht o ho => h.timer a ha ht o (hsome _ _ ho))
    (fun o ho => h.entry o (List.mem_of_mem_filter ho))
  obtain ⟨a, ha, o, ho, hs⟩ := enteringIn_iff.mp he
  exact enteringIn_iff.mpr ⟨a, ha, o, hsome _ _ ho, hs⟩

/-- Without an admission in progress no place is taken for one. -/
theorem PlacesIn.ended (h : PlacesIn n d l) : PlacesIn n none l :=
  h.mono le_rfl (by simp [enteringIn]) (by simp) h.entry

/-- Outlines that keep their tags. -/
theorem outlineOf_map {f : Outline → Outline} (hf : ∀ o, (f o).1 = o.1) (l : List Outline) (tag : Nat) :
    outlineOf (l.map f) tag = (outlineOf l tag).map f := by
  unfold outlineOf
  rw [List.find?_map]
  simp [hf]

theorem map_outline_updateRecord {tag : Nat} {f : Record → Record} {g : Outline → Outline}
    (hf : ∀ r, (f r).outline = g r.outline) (s : State) :
    (updateRecord tag f s).tracker.records.map Record.outline
      = (s.tracker.records.map Record.outline).map (fun o => if o.1 = tag then g o else o) := by
  simp only [updateRecord, mapRecords, List.map_map]
  refine List.map_congr_left fun r _ => ?_
  simp only [Function.comp_apply]
  by_cases hr : r.tag = tag
  · rw [if_pos hr, if_pos (show r.outline.1 = tag from hr), hf]
  · rw [if_neg hr, if_neg (show ¬ r.outline.1 = tag from hr)]

theorem map_outline_dropRecord (tag : Nat) (s : State) :
    (dropRecord tag s).tracker.records.map Record.outline
      = (s.tracker.records.map Record.outline).filter (fun o => o.1 ≠ tag) := by
  simp [dropRecord, List.filter_map, Function.comp_def, Record.outline]
  rfl

/-- The outline of a record that has been convoyed in (R39). -/
theorem PlacesIn.convey (h : PlacesIn n d l) (tag : Nat) (c : Count24) :
    PlacesIn n (some (tag, false)) (l.map (fun o => if o.1 = tag then (o.1, .conveyed, some c) else o)) := by
  have hfst : ∀ o : Outline, (if o.1 = tag then (o.1, Stage.conveyed, some c) else o).1 = o.1 := fun o => by split <;> rfl
  refine h.mono le_rfl (fun he => ?_) (by simp) (fun o ho hs => ?_)
  · obtain ⟨a, ha, o, ho, hs⟩ := enteringIn_iff.mp he
    obtain rfl : (tag, false) = a := by simpa using ha
    rw [outlineOf_map hfst] at ho
    obtain ⟨q, hq, rfl⟩ := Option.mem_map.mp ho
    simp [(mem_of_outlineOf hq).2] at hs
  · obtain ⟨q, hq, rfl⟩ := List.mem_map.mp ho
    split at hs
    · cases hs
    · split
      · contradiction
      · exact h.entry q hq hs

/-- A record that is exit matched has an entry count, so it is not the one that an entry timer waits for (R38, R51). -/
theorem PlacesIn.meetExit (h : PlacesIn n d l) (hl : (l.map (·.1)).Nodup) {q : Outline} (hq : q ∈ l) (hc : q.2.2 ≠ none) :
    PlacesIn n d (l.map (fun o => if o.1 = q.1 then (o.1, .exiting, o.2.2) else o)) := by
  have hfst : ∀ o : Outline, (if o.1 = q.1 then (o.1, Stage.exiting, o.2.2) else o).1 = o.1 := fun o => by split <;> rfl
  have hstage : ∀ o : Outline, (if o.1 = q.1 then (o.1, Stage.exiting, o.2.2) else o).2.1 = .entering →
      o.2.1 = .entering ∧ (if o.1 = q.1 then (o.1, Stage.exiting, o.2.2) else o) = o := fun o ho => by
    split at ho
    · cases ho
    next hn => exact ⟨ho, if_neg hn⟩
  refine h.mono le_rfl (fun he => ?_) (fun a ha ht o ho => ?_) (fun o ho hs => ?_)
  · obtain ⟨a, ha, o, ho, hs⟩ := enteringIn_iff.mp he
    rw [outlineOf_map hfst] at ho
    obtain ⟨p, hp, rfl⟩ := Option.mem_map.mp ho
    exact enteringIn_iff.mpr ⟨a, ha, p, hp, (hstage p hs).1⟩
  · rw [outlineOf_map hfst] at ho
    obtain ⟨p, hp, rfl⟩ := Option.mem_map.mp ho
    have hpe := h.timer a ha ht p hp
    split
    next hpq =>
      obtain rfl : p = q := List.inj_on_of_nodup_map hl (mem_of_outlineOf hp).1 hq hpq
      exact absurd (h.entry p hq hpe) hc
    · exact hpe
  · obtain ⟨p, hp, rfl⟩ := List.mem_map.mp ho
    obtain ⟨hs', he⟩ := hstage p hs
    rw [he]
    exact h.entry p hp hs'

/-- A board that is admitted takes the place that its announcement had (R37). -/
theorem PlacesIn.gateOpened (h : PlacesIn (n + 1) d l) {tag : Nat} (ht : tag ∉ l.map (·.1)) :
    PlacesIn n (some (tag, true)) (l ++ [(tag, .entering, none)]) := by
  have hnone : outlineOf l tag = none := by
    rw [outlineOf, List.find?_eq_none]
    intro o ho hc
    exact ht (List.mem_map.mpr ⟨o, ho, by simpa using hc⟩)
  have hnew : outlineOf (l ++ [(tag, .entering, none)]) tag = some (tag, .entering, none) := by
    rw [outlineOf] at hnone ⊢
    rw [List.find?_append, hnone]
    simp
  refine ⟨?_, fun a ha _ o ho => ?_, fun o ho hs => ?_⟩
  · have hp := h.places
    split <;> split at hp <;> omega
  · obtain rfl : (tag, true) = a := by simpa using ha
    rw [hnew] at ho
    obtain rfl : (tag, Stage.entering, (none : Option Count24)) = o := by simpa using ho
    rfl
  · rcases List.mem_append.mp ho with ho | ho
    · exact h.entry o ho hs
    · obtain rfl := List.mem_singleton.mp ho
      rfl

theorem map_tag_outline (l : List Record) : (l.map Record.outline).map (·.1) = l.map (·.tag) := by
  simp [Function.comp_def, Record.outline]

theorem keptBelow_placesFit : KeptBelow (fun s => s.tagsDistinct ∧ s.placesFit) where
  tracker := fun s x hx hs => by
    refine ⟨keptBelow_tagsDistinct.tracker s x hx hs.1, placesFit_iff.mpr ?_⟩
    rw [setTracker_tracker, hx.queue, hx.records, hx.admission]
    exact placesFit_iff.mp hs.2
  report := fun s tag p hr hs => by
    refine ⟨keptBelow_tagsDistinct.report s tag p hr hs.1, placesFit_iff.mpr ?_⟩
    have h := (placesFit_iff.mp hs.2).filter tag
    rw [← map_outline_dropRecord] at h
    exact h
  gateOpened := fun s a rest b rows hm hq hs => by
    refine ⟨keptBelow_tagsDistinct.gateOpened s a rest b rows hm hq hs.1, placesFit_iff.mpr ?_⟩
    have h := placesFit_iff.mp hs.2
    have hd := hs.1
    rw [hq, List.length_cons] at h
    simp only [State.tagsDistinct, hq, List.map_cons, List.cons_append, List.nodup_cons, List.mem_append, not_or] at hd
    simpa [Admission.outline, Record.outline, newRecord] using h.gateOpened (tag := a.tag) (by rw [map_tag_outline]; exact hd.1.2)
  rise := fun s a c hs => by
    refine ⟨keptBelow_tagsDistinct.rise s a c hs.1, placesFit_iff.mpr ?_⟩
    rw [setTracker_tracker, map_outline_updateRecord (f := Record.convey c)
      (g := fun o => (o.1, .conveyed, some c)) (fun _ => rfl)]
    exact (placesFit_iff.mp hs.2).convey a.tag c
  fall := fun s x hq hx ha hs => by
    refine ⟨keptBelow_tagsDistinct.fall s x hq hx ha hs.1, placesFit_iff.mpr ?_⟩
    rw [setTracker_tracker, hq, hx, ha]
    exact (placesFit_iff.mp hs.2).ended
  returned := fun s d a hadm htimer hr htag hs => by
    refine ⟨keptBelow_tagsDistinct.returned s d a hadm htimer hr htag hs.1, placesFit_iff.mpr ?_⟩
    have h := placesFit_iff.mp hs.2
    obtain ⟨r, hrec⟩ := Option.isSome_iff_exists.mp hr
    have ho : outlineOf (s.tracker.records.map Record.outline) d.tag = some r.outline := by
      rw [outlineOf_records, ← htag, hrec]
      rfl
    have hent : enteringIn (s.tracker.admission.map Admission.outline) (s.tracker.records.map Record.outline) = true :=
      enteringIn_iff.mpr ⟨d.outline, by simp [hadm], r.outline, ho, h.timer d.outline (by simp [hadm]) htimer _ ho⟩
    have hp := h.places
    rw [if_pos hent] at hp
    refine ⟨?_, by simp, ?_⟩
    · simpa [enteringIn] using hp
    · have hf := (h.filter a.tag).entry
      rw [← map_outline_dropRecord] at hf
      exact hf
  matched := fun s r hr hs => by
    refine ⟨keptBelow_tagsDistinct.matched s r hr hs.1, placesFit_iff.mpr ?_⟩
    have hmem : r ∈ s.tracker.records := List.mem_of_find?_eq_some hr
    have hentry : r.entry ≠ none := fun hn => by
      have := List.find?_some hr
      simp [State.position, hn] at this
    rw [map_outline_updateRecord (f := Record.meetExit) (g := fun o => (o.1, .exiting, o.2.2)) (fun _ => rfl)]
    exact (placesFit_iff.mp hs.2).meetExit
      (by rw [map_tag_outline]; exact (List.nodup_append.mp hs.1).2.1) (List.mem_map_of_mem hmem) hentry
  joined := fun s a hq hr hf hs => by
    refine ⟨keptBelow_tagsDistinct.joined s a hq hr hf hs.1, ?_, hs.2.2⟩
    have he : (announce a s).entering = s.entering := rfl
    rw [he]
    simp only [announce, setTracker_tracker, List.length_append, List.length_singleton]
    simp only [State.freePlaces, Config.maxAnnouncements] at hf
    omega
  withdrawn := fun s tag hs => by
    refine ⟨keptBelow_tagsDistinct.withdrawn s tag hs.1, placesFit_iff.mpr ?_⟩
    have h := placesFit_iff.mp hs.2
    exact h.mono (List.length_filter_le _ _) id h.timer h.entry
  reset := fun s pins alarms alert link mark waits ha hs =>
    ⟨keptBelow_tagsDistinct.reset s pins alarms alert link mark waits ha hs.1,
      by simp [resetWith, State.placesFit, State.entering]⟩

theorem keptByModes_placesFit : KeptByModes (fun s => s.tagsDistinct ∧ s.placesFit) :=
  keptByModes_of_free keptBelow_placesFit (fun _ _ hs => hs) (fun _ _ _ hs => hs) (fun _ _ _ hs => hs)

/-- Settles O40: each promise is kept block by block; that of the places rests on the tags, and is kept together with theirs. -/
theorem tablesStayWithinTheirBounds : Obligations.TablesStayWithinTheirBounds := fun _ _ ht =>
  ⟨fun hs => step_kept keptByModes_withinCapacity hs ht, fun hs => step_kept keptByModes_tagsDistinct hs ht,
    fun hs => step_kept keptByModes_complete hs ht, fun hd hs => (step_kept keptByModes_placesFit ⟨hd, hs⟩ ht).2,
    fun hs => step_kept keptByModes_countsFit hs ht⟩

end Sys2Proof.Machine
end

section
/-! PROOFS. The queue and the tick (log 2), and the line byte by byte (R186 to R193). -/

namespace Sys2Proof.Machine

/-! ### The queue and the tick -/

/-- Settles O1, by the definition of a step on a queue that is not empty. -/
theorem stepRunsTheFrontCommand : Obligations.StepRunsTheFrontCommand := by
  intro c rest s h
  rw [step, h]

/-- Every command goes on, and the queue is none of its business. -/
theorem exec_pending (c : Instr) (s : State) : ∃ t, exec c s = .next t ∧ t.pending = s.pending := by
  have hrequest : ∀ (tag : Byte) (r : Request),
      ∃ t, (Host.Outcome.next (requestArrives tag r s) : Result) = .next t ∧ t.pending = s.pending :=
    fun tag r => ⟨_, rfl, requestArrives_pending tag r s⟩
  cases c with
  | pinReset pins => exact ⟨_, rfl, pinReset_pending pins s⟩
  | storeStartUpCheckEnd found => exact ⟨_, rfl, startUpCheckEnds_pending found s⟩
  | byteReceived b => exact ⟨_, rfl, by simp⟩
  | byteGapExpiry => exact ⟨_, rfl, gapExpires_pending s⟩
  | replySent pins => exact ⟨_, rfl, replyEnds_pending pins s⟩
  | potRead tag => exact ⟨_, rfl, by simp⟩
  | storeOperationComplete verified => exact ⟨_, rfl, storeCompletes_pending verified s⟩
  | compositionComplete => exact ⟨_, rfl, completeComposition_pending s⟩
  | meltTimerExpiry => exact ⟨_, rfl, meltTimerExpires_pending s⟩
  | zoneWarmTimeout zone => exact ⟨_, rfl, zoneTimesOut_pending zone s⟩
  | settleTimeExpiry => exact ⟨_, rfl, settleEnds_pending s⟩
  | soakComplete => exact ⟨_, rfl, soakCompletes_pending s⟩
  | strokePhaseEnd => exact ⟨_, rfl, strokePhaseEnds_pending s⟩
  | cellEntry => exact ⟨_, rfl, cellEntered_pending s⟩
  | valveOpenTimeEnd => exact ⟨_, rfl, valveTimeEnds_pending s⟩
  | purgeParkEnd => exact ⟨_, rfl, purgeParks_pending s⟩
  | halfCycleSlotEnd => exact ⟨_, rfl, slotEnds_pending s⟩
  | singleShotConversionEnd r => exact ⟨_, rfl, singleConversion_pending r s⟩
  | fanFeedbackEdge present => exact ⟨_, rfl, takeFeedback_pending present s⟩
  | maintenanceKeyEdge on => exact ⟨_, rfl, keyEdge_pending on s⟩
  | driveHoldEnd => exact ⟨_, rfl, driveHoldEnds_pending s⟩
  | feedProveExpiry => exact ⟨_, rfl, feedProveExpires_pending s⟩
  | dwellEnd wetted => exact ⟨_, rfl, dwellEnds_pending wetted s⟩
  | graceTimerExpiry => exact ⟨_, rfl, graceExpires_pending s⟩
  | clogTimerExpiry => exact ⟨_, rfl, clogExpires_pending s⟩
  | alertPulseEnd | alertRecoveryEnd => exact ⟨_, rfl, rfl⟩
  | encoderStep | stopperSensorEdge | entrySensorRise | entrySensorFall | entryTimerExpiry | exitSensorRise | exitSensorFall
  | speedWindowEnd | holdLimitExpiry | strokeCompletion | purgeTimeEnd | burnoutTestEnd | controlConversionEnd | staleMarking
  | fumeFirstJudgementTimeout | potTripEdge | proveTimerExpiry | qualifyTimerExpiry | warnTimerExpiry | failTimerExpiry
  | feedbackTimerExpiry | recoverTimerExpiry =>
    refine ⟨_, rfl, ?_⟩
    rw [admissionTest_pending]
    simp
  | _ => exact hrequest _ _

/-- Settles O3: the meaning of each command is a next state that keeps the queue. -/
theorem everyCommandGoesOn : Obligations.EveryCommandGoesOn := exec_pending

/-- Settles O2: the tick, timer by timer. -/
theorem emptyQueueIsOneTick : Obligations.EmptyQueueIsOneTick := by
  intro s hs
  refine ⟨tick s, by rw [step, hs], ?same, ?noWarm, ?warm, ?stroke, ?purge, ?idle, ?soak, ?noSoak, ?feeder, ?noFeeder,
    ?search, ?noSearch, ?grace, ?noGrace⟩
  case same =>
    have ht : tickTracker s = { s.tracker with
        admission := if s.tracker.conveyorRun = true
          then s.tracker.admission.map (fun a => { a with timer := a.timer.map (tickTo s.entryTimeoutTicks) })
          else s.tracker.admission } := by
      unfold tickTracker
      split <;> rfl
    unfold tick
    rw [ht]
    rfl
  case noWarm => intro hw; simp [tick, tickModes, hw]
  case warm =>
    intro w hw
    refine ⟨fun h => ?_, fun hl h => ?_, fun hl h => ?_⟩
    · rcases h with h | h <;> simp [tick, tickModes, hw, h]
    · simp [tick, tickModes, hw, h, hl]
      rfl
    · refine ⟨w.timers.mapZones (fun _ x => match x with
          | .running t => .running (tickTo s.warmTimeoutTicks t)
          | .unstarted => .unstarted
          | .stopped => .stopped), ?_, fun k => ⟨fun n hn => by simp [hn, tickTo], fun hn => ?_⟩⟩
      · rcases h with h | h <;> simp [tick, tickModes, hw, h, hl, tickTo] <;> rfl
      · rw [six_get_mapZones]
        split
        next t ht => exact absurd ht (hn t)
        next ht => exact ht.symm
        next ht => exact ht.symm
  case stroke => intro r hr; simp [tick, tickSpray, hr]
  case purge => intro p n hp; simp [tick, tickSpray, hp]
  case idle => intro hi; simp [tick, tickSpray, hi]
  case soak => intro n hn; simp [tick, tickPot, hn, tickTo]
  case noSoak =>
    intro hn
    cases h : s.pot.soak with
    | soaking n => exact absurd h (hn n)
    | _ => simp [tick, tickPot, h]
  case feeder => intro b n hf; simp [tick, tickPot, hf, tickTo]
  case noFeeder => intro hf; simp [tick, tickPot, hf]
  case search => intro d v n hp; simp [tick, tickWave, hp, tickTo]
  case noSearch =>
    intro hn
    cases h : s.wave.phase with
    | search d v n => exact absurd h (hn d v n)
    | _ => simp [tick, tickWave, h]
  case grace => intro n hn; simp [tick, tickExtraction, hn, tickTo]
  case noGrace =>
    intro hn
    cases h : s.extr.grace with
    | running n => exact absurd h (hn n)
    | _ => simp [tick, tickExtraction, h]

/-! ### Bytes (R188) -/

theorem exec_byteReceived (b : Byte) (f : Bool) (s : State) :
    exec (.byteReceived ⟨b, f⟩) s = .next (byteArrives b (readFinger f s)) := rfl

/-- A byte that is not heard shows the finger and does no more. -/
theorem byteArrives_of_deaf (b : Byte) (f : Bool) {s : State} (h : s.deaf = true) :
    byteArrives b (readFinger f s) = readFinger f s := by
  rw [byteArrives, if_pos (show (readFinger f s).deaf = true from h)]

theorem byteArrives_of_hears (b : Byte) (f : Bool) {s : State} (h : s.deaf = false) :
    byteArrives b (readFinger f s) = takeByte b (readFinger f s) := by
  rw [byteArrives, if_neg (by rw [show (readFinger f s).deaf = s.deaf from rfl, h]; simp)]

/-- Settles O4: the receiver by its state, and the length that the first byte gives. -/
theorem receiverByteByByte : Obligations.ReceiverByteByByte := by
  refine ⟨fun b f s => ⟨fun hd => ?deaf, fun hd hr => ?hunt, fun hd hr => ?length, fun len got hd hr hl => ?within⟩,
    fun s => rfl, fun pins s hd ht => ?sent⟩
  case deaf => exact congrArg _ (byteArrives_of_deaf b f hd)
  case hunt =>
    rw [exec_byteReceived, byteArrives_of_hears b f hd, takeByte, show (readFinger f s).link = s.link from rfl, hr]
    rfl
  case length =>
    rw [exec_byteReceived, byteArrives_of_hears b f hd, takeByte, show (readFinger f s).link = s.link from rfl, hr]
    rfl
  case within =>
    have hc : frameComplete (len :: got ++ [b]) = false := by
      simp only [List.cons_append, frameComplete, List.length_append, List.length_singleton, decide_eq_false_iff_not]
      omega
    rw [exec_byteReceived, byteArrives_of_hears b f hd, takeByte, show (readFinger f s).link = s.link from rfl, hr]
    simp only [hc]
    rfl
  case sent =>
    show Host.Outcome.next (replyEnds pins s) = _
    rw [replyEnds, if_pos (isSending_of_ne_quiet ht), if_neg (by simp [hd])]

/-! ### Requests that are not taken (R26, R188, R189) -/

/-- Settles O8: a request row on a line that is taken, by what the line is doing. -/
theorem requestsUnheardOrOverlapping : Obligations.RequestsUnheardOrOverlapping := by
  intro tag f r s
  have hu : s.shown f r = if r = .potRead then s.setWave { s.wave with finger := f } else s := by
    cases r <;> rfl
  have hl : (s.shown f r).link = s.link := by cases r <;> rfl
  have hd : (s.shown f r).deaf = s.deaf := by cases r <;> rfl
  rw [exec_commandOf, ← hu]
  refine ⟨fun h => ?_, fun h ho => ?_⟩
  · rw [requestArrives, if_pos (hd.trans h)]
  · have howed : (s.shown f r).link.owed.isSome = true := by rw [hl]; exact Option.isSome_iff_ne_none.mpr ho
    rw [requestArrives, if_neg (by simp [hd, h])]
    show Host.Outcome.next (if (s.shown f r).link.owed.isSome = true then frameOverlaps _ else _) = _
    rw [if_pos howed, frameOverlaps, setLink_link, hl]
    rfl

/-- A shown contact finger changes nothing that a refusal names. -/
theorem requestFields_shown (f : Bool) (r : Request) (s : State) : requestFields r (s.shown f r) = requestFields r s := by
  cases r <;> rfl


/-- POT_READ passes the mode check in every mode, so a refused request shows no finger. -/
theorem shown_of_not_allowed {f : Bool} {r : Request} {s : State} (h : modeAllows (requestKind r) s.modes.mode = false) :
    s.shown f r = s := by
  cases r with
  | potRead => cases h
  | _ => rfl

/-- Settles O9: the table row by row, and the refusal by the general lemma about the mode check. -/
theorem modeCheckComesFirst : Obligations.ModeCheckComesFirst := by
  refine ⟨by decide, fun tag f r s hs hm => ?_⟩
  have hshown := shown_of_not_allowed (f := f) hm
  have hrefused := exec_wrongMode tag f r s (hshown.symm ▸ hs) (hshown.symm ▸ hm)
  rwa [hshown] at hrefused

/-! ### Reading requests and RESTART (R185, R193) -/

/-- Settles O10: each reading request is one answer. -/
theorem readsOnlyAnswer : Obligations.ReadsOnlyAnswer := by
  intro tag s hs
  have hread : ∀ (f : Bool) (r : Request) (payload : Bytes), (s.shown f r).hears →
      modeAllows (requestKind r) s.modes.mode = true → r.wellFormed = true →
      act r ((s.shown f r).owing (requestKind r) tag)
        = answer payload ((s.shown f r).owing (requestKind r) tag) →
      exec (commandOf tag f r) s = .next ((s.shown f r).replying (requestKind r) tag payload) := by
    intro f r payload hh hm hw ha
    rw [exec_act tag f r s hh (by cases r <;> exact hm) hw, ha, answer_owing]
  refine ⟨hread false .caps _ hs rfl rfl rfl, hread false .zoneRead _ hs rfl rfl rfl,
    fun f => hread f .potRead _ hs rfl rfl rfl, hread false .extractRead _ hs rfl rfl rfl,
    fun p => hread false (.transitRead p) _ hs rfl rfl rfl, hread false .alarmRead _ hs rfl rfl rfl,
    hread false .configRead _ hs rfl rfl rfl, fun n hn => hread false (.thermalRead n) _ hs rfl rfl ?set,
    fun n hn => hread false (.recipeRead n) _ hs rfl rfl ?slot,
    fun n hn => hread false (.thermalRead n) _ hs rfl rfl ?setTaken,
    fun n hn => hread false (.recipeRead n) _ hs rfl rfl ?slotTaken, ?clears⟩
  case set =>
    have h8 : ¬ n.toNat < Config.thermalSets := by simpa [Config.thermalSets] using hn
    show actThermalRead n _ = _
    simp only [actThermalRead, checked, firstRefusal, h8]
    rfl
  case slot =>
    have h32 : ¬ n.toNat < Config.recipeSlots := by simpa [Config.recipeSlots] using hn
    show actRecipeRead n _ = _
    simp only [actRecipeRead, checked, firstRefusal, h32]
    rfl
  case setTaken =>
    have h8 : n.toNat < Config.thermalSets := by simpa [Config.thermalSets] using hn
    show actThermalRead n _ = _
    simp only [actThermalRead, checked, firstRefusal, h8]
    rfl
  case slotTaken =>
    have h32 : n.toNat < Config.recipeSlots := by simpa [Config.recipeSlots] using hn
    show actRecipeRead n _ = _
    simp only [actRecipeRead, checked, firstRefusal, h32]
    rfl
  case clears => exact exec_act tag false .status s hs rfl rfl

/-- Settles O14: the answer, then the mark that its end reads. -/
theorem restartIsAnsweredFirst : Obligations.RestartIsAnsweredFirst := by
  intro tag s hs hm
  refine exec_act tag false .restart s hs ?_ rfl
  show (s.modes.mode == .idle || s.modes.mode == .safe) = true
  rcases hm with h | h <;> rw [h] <;> rfl

/-- Settles O29: each promise evaluated on the reset state. -/
theorem promisesHoldAtReset : Obligations.PromisesHoldAtReset := by
  have hplaces : State.reset.placesFit :=
    ⟨by decide, fun a ha => absurd ha (by simp [State.reset]), fun r hr => absurd hr (by simp [State.reset])⟩
  have hcounts : State.reset.countsFit := ⟨fun k => by cases k <;> decide, by decide⟩
  exact ⟨by decide, by decide, hplaces, hcounts, by decide, by decide, by decide,
    fun _ => ⟨rfl, fun k => by cases k <;> rfl⟩, fun _ => rfl, by decide, by decide⟩

end Sys2Proof.Machine
end

section
/-! PROOFS. Frames and their payloads: the round trip of a request, a whole frame byte by byte, and the frames that are not taken
(R186, R188 to R191). -/

namespace Sys2Proof.Machine

/-! ### Payloads read back (R190, R191) -/

theorem readWords_flatten (l : List Word16) : readWords l.length (l.map wordBytes).flatten = some l := by
  induction l with
  | nil => rfl
  | cons w l ih => simp [wordBytes, readWords, ih, word16_bytes]

theorem readRects_flatten (l : List RectFields) : readRects l.length (l.map rectBytes).flatten = some l := by
  induction l with
  | nil => rfl
  | cons r l ih => simp [rectBytes, readRects, ih]

theorem length_flatten_wordBytes (l : List Word16) : (l.map wordBytes).flatten.length = 2 * l.length := by
  induction l with
  | nil => rfl
  | cons w l ih => simp [wordBytes, ih]; omega

theorem length_flatten_rectBytes (l : List RectFields) : (l.map rectBytes).flatten.length = 6 * l.length := by
  induction l with
  | nil => rfl
  | cons r l ih => simp [rectBytes, ih]; omega

theorem recipe_fits_iff (f : RecipeFields) : f.fits = true ↔ 16 + f.name.length + 6 * f.rects.length ≤ 240 := by
  simp [RecipeFields.fits]

/-- The name's count byte and the rectangles' count byte say where the fields stand, as long as the recipe fits one frame. -/
theorem readRecipe_recipeBytes {f : RecipeFields} (h : f.fits = true) : readRecipe (recipeBytes f) = some f := by
  have hfits := (recipe_fits_iff f).mp h
  have hname : f.name.length % 2 ^ 8 = f.name.length := Nat.mod_eq_of_lt (by omega)
  have hrects : f.rects.length % 2 ^ 8 = f.rects.length := Nat.mod_eq_of_lt (by omega)
  simp only [recipeBytes, nameField, u8, List.append_assoc, List.cons_append, List.nil_append,
    readRecipe, BitVec.toNat_ofNat, hname, List.take_left, List.drop_left, wordBytes, readRecipeTail, hrects,
    readRects_flatten, Option.map_some, word16_bytes]
  simp

/-- Settles O6, kind by kind: the fields of fixed length read back as they stand, the lists by induction. -/
theorem requestPayloadRoundTrip : Obligations.RequestPayloadRoundTrip := by
  intro r hr
  cases r with
  | configWrite fields =>
    have hlen : fields.length = 101 := by simpa [Request.wellFormed] using hr
    show (readWords 101 (fields.map wordBytes).flatten).map Request.configWrite = _
    rw [← hlen, readWords_flatten, Option.map_some]
  | thermalWrite n fields =>
    have hlen : fields.length = 16 := by simpa [Request.wellFormed] using hr
    show (readWords 16 (fields.map wordBytes).flatten).map (Request.thermalWrite n) = _
    rw [← hlen, readWords_flatten, Option.map_some]
  | recipeWrite n f =>
    show (readRecipe (recipeBytes f)).map (Request.recipeWrite n) = _
    rw [readRecipe_recipeBytes hr, Option.map_some]
  | announce t slot o => exact congrArg (fun w => some (Request.announce w slot o)) (word16_bytes t)
  | withdraw t => exact congrArg (fun w => some (Request.withdraw w)) (word16_bytes t)
  | trim z v => exact congrArg (fun w => some (Request.trim z w)) (word16_bytes v)
  | _ => rfl

/-- A request's payload fits one frame (R186). -/
theorem length_requestPayload {r : Request} (hr : r.wellFormed = true) : (requestPayload r).length ≤ 240 := by
  cases r with
  | configWrite fields =>
    have hlen : fields.length = 101 := by simpa [Request.wellFormed] using hr
    simp only [requestPayload, length_flatten_wordBytes, hlen]
    omega
  | thermalWrite n fields =>
    have hlen : fields.length = 16 := by simpa [Request.wellFormed] using hr
    simp only [requestPayload, List.length_cons, length_flatten_wordBytes, hlen]
    omega
  | recipeWrite n f =>
    have hfits := (recipe_fits_iff f).mp hr
    simp only [requestPayload, recipeBytes, nameField, u8, wordBytes, List.length_cons, List.length_append, List.length_nil,
      length_flatten_rectBytes]
    omega
  | _ => simp [requestPayload, wordBytes]

/-! ### A whole frame, byte by byte (R186, R188, R189) -/

/-- The part in the middle of a frame. -/
def State.inFrame (s : State) (got : Bytes) : State := s.setLink { s.link with receiver := .inFrame got }

@[simp] theorem inFrame_deaf (s : State) (got : Bytes) : (s.inFrame got).deaf = s.deaf := rfl

@[simp] theorem inFrame_readFinger (f : Bool) (s : State) (got : Bytes) :
    readFinger f ((readFinger f s).inFrame got) = (readFinger f s).inFrame got := rfl

theorem receive_cons (f : Bool) (b : Byte) (rest : Bytes) {s : State} (h : s.deaf = false) :
    receive f (b :: rest) s = receive f rest (takeByte b (readFinger f s)) := by
  rw [receive, exec_byteReceived, byteArrives_of_hears b f h]

/-- The bytes within a frame gather. -/
theorem receive_within (f : Bool) (len : Byte) (bs rest got : Bytes) {u : State} (hu : u.deaf = false)
    (hfinger : readFinger f u = u) (h : got.length + bs.length < len.toNat + 4) :
    receive f (bs ++ rest) (u.inFrame (len :: got)) = receive f rest (u.inFrame (len :: (got ++ bs))) := by
  induction bs generalizing got with
  | nil => simp
  | cons b bs ih =>
    have hlen : (got ++ [b]).length + bs.length < len.toNat + 4 := by simp at h ⊢; omega
    have hopen : frameComplete (len :: (got ++ [b])) = false := by
      simp only [frameComplete, decide_eq_false_iff_not]
      omega
    have hnext : takeByte b (readFinger f (u.inFrame (len :: got))) = u.inFrame (len :: (got ++ [b])) := by
      rw [← hfinger]
      show (if frameComplete (len :: got ++ [b]) then _ else _) = _
      rw [List.cons_append, hopen]
      rfl
    rw [List.cons_append, receive_cons f b _ (s := u.inFrame _) hu, hnext, ih _ hlen, List.append_assoc, List.singleton_append]

/-- The last byte of a frame completes it. -/
theorem takeByte_last {len b : Byte} {got : Bytes} (u : State) (h : got.length = len.toNat + 3) :
    takeByte b (u.inFrame (len :: got)) = completeFrame (len :: (got ++ [b])) u := by
  show (if frameComplete (len :: got ++ [b]) then _ else _) = _
  rw [List.cons_append, if_pos (by simp [frameComplete, h])]
  rfl

/-- A complete frame splits into its payload and its two CRC bytes. -/
theorem completeFrame_split (kind tag : Byte) {payload tail : Bytes} {len : Byte} (u : State) (h : payload.length = len.toNat) :
    completeFrame (len :: kind :: tag :: (payload ++ tail)) u
      = judgeFrame (decide (tail = wordBytes (crc (len :: kind :: tag :: payload)))) kind tag payload
          (u.setLink { u.link with receiver := .hunt }) := by
  simp only [completeFrame, ← h, List.take_left, List.drop_left]

/-- A frame of a known kind with a good CRC goes to its owner. -/
theorem judgeFrame_good (k : RequestKind) (tag : Byte) (payload : Bytes) {u : State} (h : u.link.owed = none) :
    judgeFrame true (kindByte k) tag payload (u.setLink { u.link with receiver := .hunt })
      = handleFrame k payload (u.owing k tag) := by
  simp only [judgeFrame, setLink_link, h, kindOf_kindByte]
  rfl

/-- Settles O7: the start byte and the length, then the bytes within the frame by induction, then the last byte, whose judgement
reads the request back. -/
theorem frameBytesAreTheRequest : Obligations.FrameBytesAreTheRequest := by
  intro tag f r s hr hs hhunt
  have hp := length_requestPayload hr
  have hread := requestPayloadRoundTrip r hr
  generalize hpayload : requestPayload r = payload at hp hread
  obtain ⟨hdeaf, howed⟩ := hs
  let u := readFinger f s
  let len : Byte := BitVec.ofNat 8 payload.length
  have hlen : len.toNat = payload.length := by simp only [len, BitVec.toNat_ofNat]; omega
  let check := crc (len :: kindByte (requestKind r) :: tag :: payload)
  have hstart : takeByte startByte (readFinger f s) = u.inFrame [] := by
    rw [takeByte, show (readFinger f s).link = s.link from rfl, hhunt]
    rfl
  have hlength : takeByte len (readFinger f (u.inFrame [])) = u.inFrame [len] := by
    show (if 240 < len.toNat then _ else _) = _
    rw [if_neg (by omega)]
    rfl
  have hframe : frameBytes (kindByte (requestKind r)) tag payload
      = startByte :: len :: ((kindByte (requestKind r) :: tag :: (payload ++ [check.extractLsb' 8 8]))
          ++ [check.extractLsb' 0 8]) := by
    simp [frameBytes, frameBody, wordBytes, check, len]
  rw [hframe, receive_cons f _ _ hdeaf, hstart, receive_cons f _ _ (s := u.inFrame _) hdeaf, hlength,
    receive_within f len _ _ [] (u := u) hdeaf rfl (by simp; omega), receive_cons f _ _ (s := u.inFrame _) hdeaf]
  have hlast : takeByte (check.extractLsb' 0 8)
      (readFinger f (u.inFrame (len :: ([] ++ (kindByte (requestKind r) :: tag :: (payload ++ [check.extractLsb' 8 8]))))))
      = handleFrame (requestKind r) payload (u.owing (requestKind r) tag) := by
    rw [inFrame_readFinger, takeByte_last _ (by simp; omega)]
    simp only [List.nil_append, List.cons_append, List.append_assoc]
    rw [completeFrame_split _ _ _ hlen.symm]
    have hgood : decide ([check.extractLsb' 8 8, check.extractLsb' 0 8] = wordBytes check) = true := by simp [wordBytes]
    exact (congrArg (fun b => judgeFrame b _ _ _ _) hgood).trans (judgeFrame_good _ _ _ howed)
  have hu : u.hears := ⟨hdeaf, howed⟩
  have hshown : u.shown f r = u := by cases r <;> rfl
  rw [hlast, handleFrame, hread]
  show _ = exec (commandOf tag f r) u
  rw [exec_commandOf, hshown, requestArrives_hears tag r u hu]
  rfl

/-! ### Frames that are not taken (R189, R190) -/

theorem length_of_readWords {n : Nat} {p : Bytes} {l : List Word16} (h : readWords n p = some l) : p.length = 2 * n := by
  induction n generalizing p l with
  | zero =>
    cases p with
    | nil => rfl
    | cons b p => cases h
  | succ n ih =>
    match p, h with
    | hi :: lo :: rest, h =>
      obtain ⟨l', hl', -⟩ := Option.map_eq_some_iff.mp h
      simp only [List.length_cons, ih hl']
      omega

theorem length_of_readRects {n : Nat} {p : Bytes} {l : List RectFields} (h : readRects n p = some l) : p.length = 6 * n := by
  induction n generalizing p l with
  | zero =>
    cases p with
    | nil => rfl
    | cons b p => cases h
  | succ n ih =>
    match p, h with
    | _ :: _ :: _ :: _ :: _ :: _ :: rest, h =>
      obtain ⟨l', hl', -⟩ := Option.map_eq_some_iff.mp h
      simp only [List.length_cons, ih hl']
      omega

/-- A tail that reads has thirteen bytes, a count byte, and its rectangles. -/
theorem length_of_readRecipeTail {name p : Bytes} {f : RecipeFields} (h : readRecipeTail name p = some f) :
    ∃ m, p[13]? = some m ∧ p.length = 14 + 6 * m.toNat := by
  unfold readRecipeTail at h
  split at h
  next m rest =>
    obtain ⟨l, hl, -⟩ := Option.map_eq_some_iff.mp h
    exact ⟨m, rfl, by simp only [List.length_cons, length_of_readRects hl]; omega⟩
  next => cases h

theorem length_of_readRecipe {p : Bytes} {f : RecipeFields} (h : readRecipe p = some f) :
    ∃ n m, p[0]? = some n ∧ p[14 + n.toNat]? = some m ∧ p.length = 15 + n.toNat + 6 * m.toNat := by
  unfold readRecipe at h
  split at h
  next => cases h
  next n rest =>
    split at h
    next hn =>
      obtain ⟨m, hm, hlen⟩ := length_of_readRecipeTail h
      refine ⟨n, m, rfl, ?_, ?_⟩
      · rw [List.getElem?_drop] at hm
        rw [show 14 + n.toNat = (n.toNat + 13) + 1 by omega, List.getElem?_cons_succ]
        exact hm
      · rw [List.length_drop] at hlen
        simp only [List.length_cons]
        omega
    next => cases h

/-- The length that a request kind's fields call for (R190, R191). -/
def LengthFits (k : RequestKind) (p : Bytes) : Prop :=
  match k with
  | .transitRead | .selectSet | .alarmAck | .alertMode | .thermalRead | .recipeRead | .recipeErase => p.length = 1
  | .measure | .withdraw | .lock | .unlock => p.length = 2
  | .trim => p.length = 3
  | .announce => p.length = 4
  | .thermalWrite => p.length = 33
  | .configWrite => p.length = 202
  | .recipeWrite => ∃ n m, p[1]? = some n ∧ p[15 + n.toNat]? = some m ∧ p.length = 16 + n.toNat + 6 * m.toNat
  | .caps | .status | .zoneRead | .potRead | .extractRead | .start | .run | .stop | .hold | .resume | .standby
  | .shutdown | .clearSafe | .purge | .waveCal | .calAbort | .reportTake | .alarmRead | .configRead | .restart => p = []

/-- A payload that reads as a request has the length of its kind. -/
theorem lengthFits_of_readRequest {k : RequestKind} {p : Bytes} {r : Request} (h : readRequest k p = some r) :
    LengthFits k p := by
  cases k with
  | configWrite =>
    obtain ⟨l, hl, -⟩ := Option.map_eq_some_iff.mp (show (readWords 101 p).map Request.configWrite = some r from h)
    exact length_of_readWords hl
  | thermalWrite =>
    match p, h with
    | n :: p, h =>
      obtain ⟨l, hl, -⟩ := Option.map_eq_some_iff.mp (show (readWords 16 p).map (Request.thermalWrite n) = some r from h)
      show (n :: p).length = 33
      rw [List.length_cons, length_of_readWords hl]
  | recipeWrite =>
    match p, h with
    | n :: p, h =>
      obtain ⟨f, hf, -⟩ := Option.map_eq_some_iff.mp (show (readRecipe p).map (Request.recipeWrite n) = some r from h)
      obtain ⟨c, m, hc, hm, hlen⟩ := length_of_readRecipe hf
      refine ⟨c, m, hc, ?_, ?_⟩
      · rw [show 15 + c.toNat = (14 + c.toNat) + 1 by omega, List.getElem?_cons_succ]
        exact hm
      · rw [List.length_cons, hlen]
        omega
  | transitRead | selectSet | alarmAck | alertMode | thermalRead | recipeRead | recipeErase =>
    match p, h with
    | [_], _ => rfl
  | measure | withdraw | lock | unlock =>
    match p, h with
    | [_, _], _ => rfl
  | trim =>
    match p, h with
    | [_, _, _], _ => rfl
  | announce =>
    match p, h with
    | [_, _, _, _], _ => rfl
  | _ =>
    match p, h with
    | [], _ => rfl

/-- The last byte of a frame on a part that is not deaf. -/
theorem exec_lastByte {len kind tag last : Byte} {got : Bytes} (f : Bool) {s : State} (hd : s.deaf = false)
    (hr : s.link.receiver = .inFrame (len :: kind :: tag :: got)) (hlen : got.length = len.toNat + 1) :
    exec (.byteReceived ⟨last, f⟩) s
      = .next (judgeFrame (decide ((got ++ [last]).drop len.toNat = wordBytes (crc (len :: kind :: tag :: got.take len.toNat))))
          kind tag (got.take len.toNat) ((readFinger f s).setLink { s.link with receiver := .hunt })) := by
  have hin : readFinger f s = (readFinger f s).inFrame (len :: kind :: tag :: got) := by
    show (readFinger f s) = (readFinger f s).setLink { s.link with receiver := _ }
    rw [← hr]
    rfl
  have htake : (got ++ [last]).take len.toNat = got.take len.toNat := List.take_append_of_le_length (by omega)
  rw [exec_byteReceived, byteArrives_of_hears last f hd, hin, takeByte_last _ (by simp [hlen])]
  simp only [List.cons_append, completeFrame, htake]
  rfl

/-- Settles O5: the cases of R189 in turn, and the payload whose length no request has. -/
theorem framesNotAccepted : Obligations.FramesNotAccepted := by
  intro len kind tag last f got s u hd hr hlen
  rw [exec_lastByte f hd hr hlen]
  refine ⟨fun ho => ?overlap, fun ho hcrc => ?crc, fun ho hcrc hk => ?unknown, fun ho hcrc k hk hfits => ?wrong⟩
  case overlap =>
    have howed : s.link.owed.isSome = true := Option.isSome_iff_ne_none.mpr ho
    simp only [judgeFrame, setLink_link, howed, if_true]
    rfl
  case crc =>
    simp only [judgeFrame, setLink_link, ho, decide_eq_false hcrc]
    rfl
  case unknown =>
    simp only [judgeFrame, setLink_link, ho, decide_eq_true hcrc, hk]
    rfl
  case wrong =>
    let p := got.take len.toNat
    have hnone : readRequest k p = none := by
      cases h : readRequest k p with
      | none => rfl
      | some r => exact absurd (lengthFits_of_readRequest h) hfits
    have hkind : kind = kindByte k := by
      have hfound := List.find?_some hk
      exact (of_decide_eq_true hfound).symm
    have hgood := judgeFrame_good k tag p (u := u) ho
    rw [decide_eq_true hcrc, hkind]
    refine congrArg Host.Outcome.next (hgood.trans ?_)
    rw [handleFrame, hnone]
    simp only [answer_owing]
    by_cases hm : modeAllows k s.modes.mode = true
    · have hm' : modeAllows k (u.owing k tag).modes.mode = true := hm
      rw [if_pos hm, hm']
      cases k <;> rfl
    · have hm' : modeAllows k (u.owing k tag).modes.mode = false := Bool.eq_false_iff.mpr hm
      rw [if_neg hm, hm']
      cases k <;> rfl

end Sys2Proof.Machine
end

section
/-! PROOFS. The two resets and the end of the start-up check (R108, R165, R170, R177, R178, R193; log 21, log 31, log 38, log 45). -/

namespace Sys2Proof.Machine

/-! ### An alarm of SAFE severity right after a reset (R23, R107, R145; log 31) -/

theorem conditionAppears_of_absent {k : AlarmKind} {s : State} (h : s.condition k = false) :
    conditionAppears k s = occurrence k .active s := by simp [conditionAppears, h]

theorem conditionAppears_of_present {k : AlarmKind} {s : State} (h : s.condition k = true) : conditionAppears k s = s := by
  simp [conditionAppears, h]

theorem raise_of_present {k : AlarmKind} {s : State} (h : s.condition k = true) : raise k s = s := by simp [raise, h]

theorem raise_of_absent {k : AlarmKind} {s : State} (h : s.condition k = false) :
    raise k s = react (severity k) (occurrence k .active s) := by
  simp [raise, h, conditionAppears_of_absent h]

theorem react_safe {s : State} (h : s.modes.mode ≠ .safe) : react .safe s = setMode .safe s := by simp [react, h]

/-- What the entry into SAFE from the reset values makes of the Alarm Table: ZONE_WARM_FAIL ends, the supply is found low, and the
fan that turns on brings PROVING, in which neither extraction condition is present. -/
def safeResetAlarms (a : AlarmTable) : AlarmTable :=
  let b := a.set .zoneWarmFail (a.get .zoneWarmFail).disappear
  let c := b.set .supplyLow { state := .active, count := satAdd 255 (b.get .supplyLow).count 1, time := some (0, .current) }
  let d := c.set .extractWarn (c.get .extractWarn).disappear
  d.set .extractFail (d.get .extractFail).disappear

/-- The extraction items of a part that has turned its fan on right after a reset. -/
def firstProving (feedback : Bool) : Extraction :=
  (Extraction.enter .proving { Extraction.afterReset feedback with fan := true }).graceAt false false

/-- The entry of an alarm that appears at a reset, by its count before. -/
def atReset (count : Nat) : AlarmEntry := { state := .active, count := satAdd 255 count 1, time := some (0, .current) }

section
variable (pins : ResetPins) (a : AlarmTable) (b : Alert) (link : Link) (mark waits : Bool) (s : State)

/-- The entry into SAFE from the reset values finds the supply low, no channel having a result yet, and turns the fan on; the other
blocks hold nothing that SAFE would change. -/
theorem setMode_safe_resetWith (h : (a.get .supplyLow).state.present = false) :
    setMode .safe (resetWith pins a b link mark waits s)
      = { resetWith pins (safeResetAlarms a) b.onAlarm link mark waits s with
          modes := { ModeCtl.afterReset with mode := .safe }, extr := firstProving pins.fanFeedback } := by
  let u : State := { resetWith pins (a.set .zoneWarmFail (a.get .zoneWarmFail).disappear) b link mark waits s with
    modes := { ModeCtl.afterReset with mode := .safe } }
  have hmarks : entryMarks .safe ((resetWith pins a b link mark waits s).setModes { ModeCtl.afterReset with mode := .safe }) = u := rfl
  have habsent : u.condition .supplyLow = false := h
  have hsupply : supplyAtMode .idle .safe u = occurrence .supplyLow .active u := by
    show judgeSupply u = _
    rw [judgeSupply, if_pos (show u.supplyJudged = true from rfl), conditionAppears_of_absent habsent]
    rfl
  have hfan : fanSync (occurrence .supplyLow .active u)
      = changeExtraction .proving ((occurrence .supplyLow .active u).setExtr { u.extr with fan := true }) := by
    have hwanted : (occurrence .supplyLow .active u).fanWanted = true := rfl
    have hoff : (occurrence .supplyLow .active u).extr.fan = false := rfl
    rw [fanSync, hwanted, hoff]
    rfl
  have hextr : changeExtraction .proving ((occurrence .supplyLow .active u).setExtr { u.extr with fan := true })
      = { resetWith pins (safeResetAlarms a) b.onAlarm link mark waits s with
          modes := { ModeCtl.afterReset with mode := .safe }, extr := firstProving pins.fanFeedback } := by
    have hsec : u.seconds = 0 := Nat.zero_div _
    have hwarn : (ExtState.proving == .warn) = false := rfl
    have hfailed : (ExtState.proving == .failed) = false := rfl
    simp only [changeExtraction, hwarn, hfailed, judgeQuiet, Bool.false_eq_true, if_false, occurrence, hsec]
    rfl
  have hentered : setMode .safe (resetWith pins a b link mark waits s)
      = afterLoops (conveyorSync (trackAtMode .safe (waveAtMode .idle .safe (searchAtSafe (sprayAtMode .safe
          (fanSync (supplyAtMode .idle .safe (entryMarks .safe
            ((resetWith pins a b link mark waits s).setModes { ModeCtl.afterReset with mode := .safe }))))))))) := rfl
  rw [hentered, hmarks, hsupply, hfan, hextr]
  rfl

/-- An active trip input at a reset makes POT_OVERTEMP appear, its condition absent, and enters SAFE (R23, R106, log 45). -/
theorem tripAtReset_resetWith (ht : pins.trip = true) (hp : (a.get .potOvertemp).state.present = false)
    (hl : (a.get .supplyLow).state.present = false) :
    tripAtReset (resetWith pins a b link mark waits s)
      = { resetWith pins (safeResetAlarms (a.set .potOvertemp (atReset (a.get .potOvertemp).count)))
            b.onAlarm.onAlarm link mark waits s with
          modes := { ModeCtl.afterReset with mode := .safe }, extr := firstProving pins.fanFeedback } := by
  let r := resetWith pins a b link mark waits s
  have hsec : r.seconds = 0 := Nat.zero_div _
  have hraise : raise .potOvertemp r = setMode .safe (occurrence .potOvertemp .active r) := by
    rw [raise_of_absent (show r.condition .potOvertemp = false from hp)]
    rfl
  have htrip : (r.heat.pot.tripInput || r.heat.pot.overMark) = true := by
    rw [show r.heat.pot.tripInput = true from ht, Bool.true_or]
  rw [tripAtReset, if_pos htrip, hraise, occurrence, hsec]
  exact setMode_safe_resetWith pins _ b.onAlarm link mark waits s
    (by rw [alarms_get_set_other _ _ _ _ (by decide)]; exact hl)

/-- With neither the trip input active nor the over mark set, a reset judges POT_OVERTEMP absent. -/
theorem tripAtReset_of_quiet {s : State} (h : (s.heat.pot.tripInput || s.heat.pot.overMark) = false) : tripAtReset s = s := by
  simp [tripAtReset, h]

/-- With POT_OVERTEMP's condition present already, a reset finds nothing new. -/
theorem tripAtReset_of_present {s : State} (h : s.condition .potOvertemp = true) : tripAtReset s = s := by
  simp [tripAtReset, raise_of_present h]

end

theorem safeResetAlarms_other (a : AlarmTable) {k : AlarmKind}
    (h : k ∉ [AlarmKind.zoneWarmFail, .supplyLow, .extractWarn, .extractFail]) : (safeResetAlarms a).get k = a.get k := by
  simp only [List.mem_cons, List.not_mem_nil, or_false, not_or] at h
  obtain ⟨hz, hl, hw, hf⟩ := h
  simp only [safeResetAlarms]
  rw [alarms_get_set_other _ _ _ _ hf, alarms_get_set_other _ _ _ _ hw, alarms_get_set_other _ _ _ _ hl,
    alarms_get_set_other _ _ _ _ hz]

/-! ### The pin reset -/

/-- Settles O11: the reset values as they stand, and the one entry into SAFE that an active trip input brings. -/
theorem pinResetValues : Obligations.PinResetValues := by
  refine ⟨fun pins s h => ?values, fun pins s h => ⟨pinReset pins s, rfl, ?trip⟩⟩
  case values =>
    show Host.Outcome.next (pinReset pins s) = _
    rw [pinReset, tripAtReset_of_quiet (show (pins.trip || false) = false by rw [h]; rfl)]
    simp only [resetWith, h, Store.atReset]
    cases s.store.op <;> rfl
  case trip =>
    rw [pinReset, tripAtReset_resetWith pins _ _ _ _ _ s h rfl rfl]
    refine ⟨rfl, h, rfl, fun k hp hl => ?_, rfl, rfl, rfl⟩
    cases k with
    | potOvertemp => exact absurd rfl hp
    | supplyLow => exact absurd rfl hl
    | _ => rfl

/-! ### RESTART -/

@[simp] theorem disappear_time (e : AlarmEntry) : e.disappear.time = e.time := by
  unfold AlarmEntry.disappear
  split <;> rfl

/-- The state after a disappearance depends on the state before alone. -/
theorem disappear_state_congr {e f : AlarmEntry} (h : e.state = f.state) : e.disappear.state = f.disappear.state := by
  unfold AlarmEntry.disappear
  rw [h]
  split <;> simp [*]

/-- A condition that has disappeared does not disappear again. -/
theorem disappear_idem (e : AlarmEntry) : e.disappear.disappear = e.disappear := by
  obtain ⟨state, count, time⟩ := e
  cases state <;> rfl

@[simp] theorem restartEntry_time (k : AlarmKind) (e : AlarmEntry) :
    (restartEntry k e).time = e.time.map (fun t => (t.1, .previous)) := by
  unfold restartEntry
  dsimp only
  split <;> simp

theorem restartEntry_state (k : AlarmKind) (e : AlarmEntry) :
    (restartEntry k e).state = if endsAtRestart k then e.disappear.state else e.state := by
  unfold restartEntry
  dsimp only
  split
  · exact disappear_state_congr rfl
  · rfl

/-- The state that a RESTART resets to, the trip input apart. -/
def restartedPart (pins : ResetPins) (s : State) : State :=
  resetWith pins (s.alarms.mapEntries restartEntry) { attention := false, mode := s.alert.mode, phase := .rest, pending := 0 }
    { speed := pins.speed, receiver := .hunt, owed := none, tx := .quiet, badCrc := s.link.badCrc,
      badLength := s.link.badLength, overlap := s.link.overlap, restartDue := false }
    (s.condition .potOvertemp) true s

theorem restartedPart_alarm (pins : ResetPins) (s : State) (k : AlarmKind) :
    (restartedPart pins s).alarm k = restartEntry k (s.alarm k) := alarms_get_mapEntries _ _ k

/-- POT_OVERTEMP's condition outlasts the RESTART. -/
theorem restartedPart_potOvertemp (pins : ResetPins) (s : State) :
    (restartedPart pins s).condition .potOvertemp = s.condition .potOvertemp := by
  rw [State.condition, restartedPart_alarm, restartEntry_state]
  rfl

/-- A taken RESTART at the end of its reply. -/
theorem exec_restartSent {pins : ResetPins} {s : State} (ht : s.link.tx ≠ .quiet) (hd : s.link.restartDue = true) :
    exec (.replySent pins) s = .next (tripAtReset (restartedPart pins s)) := by
  show Host.Outcome.next (replyEnds pins s) = _
  rw [replyEnds, if_pos (isSending_of_ne_quiet ht), if_pos hd]
  rfl

/-- The entries that the entry into SAFE leaves: those whose conditions had to end have ended at the RESTART already. -/
theorem safeResetAlarms_restarted {s : State} {k : AlarmKind} (e : AlarmEntry) (hp : k ≠ .potOvertemp) (hl : k ≠ .supplyLow) :
    (safeResetAlarms ((s.alarms.mapEntries restartEntry).set .potOvertemp e)).get k = restartEntry k (s.alarm k) := by
  cases k with
  | potOvertemp => exact absurd rfl hp
  | supplyLow => exact absurd rfl hl
  | zoneWarmFail | extractWarn | extractFail => exact disappear_idem _
  | _ => rfl

@[simp] theorem pulse_attention (a : Alert) : (pulse a).attention = a.attention := by
  unfold pulse
  split
  · split <;> rfl
  · rfl

/-- An alarm occurrence sets the attention flag (R174). -/
theorem onAlarm_attention (a : Alert) : a.onAlarm.attention = true := by
  unfold Alert.onAlarm
  dsimp only
  split <;> simp

/-- Settles O12: without a new appearance the reset state itself, entry by entry; with one, the entry into SAFE. -/
theorem restartKeepsTheAlarmTable : Obligations.RestartKeepsTheAlarmTable := by
  refine ⟨fun pins s ht hd hq => ⟨restartedPart pins s, ?_, ?kept⟩, fun pins s ht hd htrip hc => ?tripped⟩
  · rw [exec_restartSent ht hd]
    congr 1
    cases hc : s.condition .potOvertemp with
    | true => exact tripAtReset_of_present (by rw [restartedPart_potOvertemp, hc])
    | false =>
      have htrip : pins.trip = false := hq.resolve_right (by simp [hc])
      exact tripAtReset_of_quiet (show (pins.trip || s.condition .potOvertemp) = false by rw [htrip, hc]; rfl)
  case kept =>
    refine ⟨fun k => ?_, fun k hk => ?_, fun k hk => ?_, rfl, rfl, rfl, rfl, rfl, rfl, rfl, rfl, rfl, rfl, rfl, rfl, rfl, rfl,
      rfl, rfl, rfl, rfl⟩
    · rw [restartedPart_alarm]
      exact ⟨count_restartEntry k _, restartEntry_time k _⟩
    · have hends : endsAtRestart k = true := by revert hk; revert k; decide
      rw [restartedPart_alarm, restartEntry_state, if_pos hends]
    · have hstays : endsAtRestart k = false := by revert hk; revert k; decide
      rw [restartedPart_alarm, restartEntry_state, hstays]
      rfl
  case tripped =>
    have hl : ((s.alarms.mapEntries restartEntry).get .supplyLow).state.present = false := by
      rw [alarms_get_mapEntries]
      exact present_disappear _
    have hp : ((s.alarms.mapEntries restartEntry).get .potOvertemp).state.present = false := by
      rw [alarms_get_mapEntries, restartEntry_state]
      exact hc
    refine ⟨_, (exec_restartSent ht hd).trans
      (congrArg Host.Outcome.next (tripAtReset_resetWith pins _ _ _ _ _ s htrip hp hl)), rfl, rfl, rfl, fun k h1 h2 => ?_, rfl,
      rfl, rfl, ?heat, rfl, rfl, rfl, rfl, rfl, rfl, rfl, onAlarm_attention _, ?alertMode, rfl, rfl, rfl, rfl, rfl, rfl, rfl⟩
    · have hlist : endsAtRestart k = decide (k ∈ [AlarmKind.extractWarn, .extractFail, .potCold, .waveLimit, .zoneOvertemp,
          .conveyorDev, .potWarmFail, .zoneWarmFail]) := by
        cases k with
        | potOvertemp => exact absurd rfl h1
        | supplyLow => exact absurd rfl h2
        | _ => rfl
      have hk := safeResetAlarms_restarted (s := s)
        (atReset ((s.alarms.mapEntries restartEntry).get .potOvertemp).count) h1 h2
      refine ⟨(congrArg (·.count) hk).trans (count_restartEntry k _), (congrArg (·.time) hk).trans (restartEntry_time k _),
        (congrArg (·.state) hk).trans ?_⟩
      rw [restartEntry_state, hlist]
      simp only [decide_eq_true_eq]
    case heat =>
      show Heaters.afterReset pins.trip (s.condition .potOvertemp) true = _
      rw [htrip, hc]
    case alertMode => exact (onAlarm_mode _).trans (onAlarm_mode _)

/-! ### The start-up check (R178; log 39) -/

/-- No check of a list fails when each holds. -/
theorem firstFailed_eq_none {l : List (Bool × Nat)} : firstFailed l = none ↔ ∀ p ∈ l, p.1 = true := by
  induction l with
  | nil => simp [firstFailed]
  | cons p l ih =>
    obtain ⟨okay, i⟩ := p
    cases okay <;> simp [firstFailed, ih]

theorem mem_mapFrom {α β : Type} {f : Nat → α → β} {l : List α} {a : α} (h : a ∈ l) (n : Nat) : ∃ i, f i a ∈ mapFrom f n l := by
  induction l generalizing n with
  | nil => cases h
  | cons b l ih =>
    rcases List.mem_cons.mp h with rfl | h
    · exact ⟨n, .head _⟩
    · obtain ⟨i, hi⟩ := ih h (n + 1)
      exact ⟨i, .tail _ hi⟩

/-- Every check that some rectangle of a sound list of checks calls for holds. -/
theorem mapFrom_checks {α : Type} {f : Nat → α → List (Bool × Nat)} {l : List α} {n : Nat}
    (h : ∀ p ∈ (mapFrom f n l).flatten, p.1 = true) {a : α} (ha : a ∈ l) : ∃ i, ∀ p ∈ f i a, p.1 = true := by
  obtain ⟨i, hi⟩ := mem_mapFrom (f := f) ha n
  exact ⟨i, fun p hp => h p (List.mem_flatten.mpr ⟨_, hi, hp⟩)⟩

/-- A rectangle that its checks pass is sound as the store holds it (R181). -/
theorem rectSound_rectOf {r : RectFields} {i j : Nat} (hr : ∀ p ∈ rectRanges i r, p.1 = true)
    (hc : ∀ p ∈ rectCross j r, p.1 = true) : rectSound (rectOf r) = true := by
  simp only [rectRanges, rectCross, List.forall_mem_cons, decide_eq_true_eq] at hr hc
  obtain ⟨hkind, hlevel, -, hrow1, -, hcol1, -⟩ := hr
  obtain ⟨hrow, hcol, -⟩ := hc
  obtain ⟨k, hk⟩ := Option.isSome_iff_exists.mp hkind
  rw [rectLevelOk, hk] at hlevel
  simp [rectSound, rectOf, hk, hlevel, hrow, hrow1, hcol, hcol1]

/-- What RECIPE_WRITE takes the start-up check finds sound (R178, R181). -/
theorem recipeSound_of_recipeFault {f : RecipeFields} (h : recipeFault f = none) : recipeSound (recipeOfFields f) = true := by
  have hall := firstFailed_eq_none.mp h
  simp only [recipeChecks, List.forall_mem_append, List.forall_mem_cons, decide_eq_true_eq] at hall
  obtain ⟨⟨⟨⟨hname, hset, hlength, hwidth, htolerance, hbase, hboost, hmin, hmax, hcount, -⟩, hranges⟩, hexit, -⟩, hcross⟩ := hall
  have hrects : ∀ r ∈ f.rects, rectSound (rectOf r) = true := fun r hr => by
    obtain ⟨i, hi⟩ := mapFrom_checks hranges hr
    obtain ⟨j, hj⟩ := mapFrom_checks hcross hr
    exact rectSound_rectOf hi hj
  have hmax' : f.exitMax.toNat ≤ 3000 := by simpa [inRange] using hmax
  simp [recipeSound, recipeOfFields, hname, hset, hlength, hwidth, htolerance, hbase, hboost, hcount, hexit]
  exact ⟨by omega, hrects⟩

/-- A judged list keeps its places, each item judged. -/
theorem getD_map_judged {α : Type} (sound : α → Bool) (l : List (Stored α)) {n : Nat} (h : n < l.length) (x : Stored α) :
    (l.map (Stored.judged sound)).getD n x = (l.getD n x).judged sound := by
  simp [List.getD, List.getElem?_eq_getElem h]

/-- A CORRUPT recipe slot stays CORRUPT while the check finds more. -/
theorem spoil_recipe_corrupt {m : StoreImage} {n : Nat} (i : StoreItem) (h : (m.recipe n).item = .corrupt) :
    ((m.spoil i).recipe n).item = .corrupt := by
  cases i with
  | recipe j =>
    by_cases hj : j = n ∧ n < m.recipes.length
    · obtain ⟨rfl, hlen⟩ := hj
      simp [StoreImage.spoil, StoreImage.setRecipe, StoreImage.recipe, List.getD, hlen, Stored.corrupted]
    · have hother : (m.recipes.set j Stored.corrupted)[n]? = m.recipes[n]? := by
        by_cases hjn : j = n
        · have hlen : m.recipes.length ≤ n := by omega
          simp [hlen]
        · simp [hjn]
      simpa [StoreImage.spoil, StoreImage.setRecipe, StoreImage.recipe, List.getD, hother] using h
  | _ => exact h

theorem spoil_recipe_same {m : StoreImage} {n : Nat} (h : n < m.recipes.length) :
    ((m.spoil (.recipe n)).recipe n).item = .corrupt := by
  simp [StoreImage.spoil, StoreImage.setRecipe, StoreImage.recipe, List.getD, h, Stored.corrupted]

theorem foldl_spoil_recipe {items : List StoreItem} {m : StoreImage} {n : Nat} (h : StoreItem.recipe n ∈ items)
    (hn : n < m.recipes.length) : ((items.foldl StoreImage.spoil m).recipe n).item = .corrupt := by
  have hkeep : ∀ (l : List StoreItem) (m : StoreImage), (m.recipe n).item = .corrupt →
      ((l.foldl StoreImage.spoil m).recipe n).item = .corrupt := fun l => by
    induction l with
    | nil => exact fun _ => id
    | cons i l ih => exact fun m hm => ih _ (spoil_recipe_corrupt i hm)
  induction items generalizing m with
  | nil => cases h
  | cons i items ih =>
    rcases List.mem_cons.mp h with rfl | h
    · exact hkeep items _ (spoil_recipe_same hn)
    · exact ih h ((spoil_sameSizes m i).1 ▸ hn)

theorem foldl_spoil_config {items : List StoreItem} {m : StoreImage} (h : StoreItem.config ∈ items) :
    (items.foldl StoreImage.spoil m).config = .corrupt := by
  have hkeep : ∀ (l : List StoreItem) (m : StoreImage), m.config = .corrupt →
      (l.foldl StoreImage.spoil m).config = .corrupt := fun l => by
    induction l with
    | nil => exact fun _ => id
    | cons i l ih => exact fun m hm => ih _ (by
        cases i with
        | config => rfl
        | _ => exact hm)
  induction items generalizing m with
  | nil => cases h
  | cons i items ih =>
    rcases List.mem_cons.mp h with rfl | h
    · exact hkeep items _ rfl
    · exact ih h

/-- The check decides an abandoned operation, notes what it finds, and judges the fields of every item. -/
theorem checked_eq (m : StoreImage) (op : Option StoreOp) (found : StartUpFindings) :
    ∃ d : StoreImage, d.SameSizes m ∧ (op = none → d = m) ∧ m.checked op found = (found.corrupt.foldl StoreImage.spoil d).judged := by
  unfold StoreImage.checked
  split
  · split
    · exact ⟨_, ⟨rfl, rfl⟩, nofun, rfl⟩
    · exact ⟨_, apply_sameSizes m _, nofun, rfl⟩
    · exact ⟨_, spoil_sameSizes m _, nofun, rfl⟩
  · exact ⟨_, ⟨rfl, rfl⟩, fun _ => rfl, rfl⟩

/-- A CORRUPT item is judged CORRUPT. -/
theorem judged_corrupt {α : Type} {sound : α → Bool} {x : Stored α} (h : x.item = .corrupt) : (x.judged sound).item = .corrupt := by
  rw [Stored.judged, h]
  exact h

/-- The recipe slots that the check finds CORRUPT are CORRUPT in the image it leaves. -/
theorem checked_recipe_corrupt {m : StoreImage} {op : Option StoreOp} {found : StartUpFindings} {n : Nat}
    (h : StoreItem.recipe n ∈ found.corrupt) (hn : n < m.recipes.length) : ((m.checked op found).recipe n).item = .corrupt := by
  obtain ⟨d, ⟨hsize, -⟩, -, hd⟩ := checked_eq m op found
  obtain ⟨hfound, -⟩ := foldl_spoil_sameSizes found.corrupt d
  rw [hd]
  show (((found.corrupt.foldl StoreImage.spoil d).recipes.map (Stored.judged recipeSound)).getD n Stored.blank).item = .corrupt
  rw [getD_map_judged _ _ (by omega)]
  exact judged_corrupt (foldl_spoil_recipe h (hsize ▸ hn))

theorem checked_config_corrupt {m : StoreImage} {op : Option StoreOp} {found : StartUpFindings}
    (h : StoreItem.config ∈ found.corrupt) : (m.checked op found).config = .corrupt := by
  obtain ⟨d, -, -, hd⟩ := checked_eq m op found
  rw [hd, StoreImage.judged, foldl_spoil_config h]

/-- With nothing abandoned and nothing found, each item is judged by its own fields. -/
theorem checked_clean {m : StoreImage} {found : StartUpFindings} (h : found.corrupt = []) : m.checked none found = m.judged := by
  simp [StoreImage.checked, h]

/-- STORE_FAULT has NOTICE severity: its occurrence reaches the Alarm Table and the ALERT output alone (R22, R165). -/
theorem occur_storeFault (s : State) : occur .storeFault s = occurrence .storeFault .latched s := rfl

/-- Settles O13: the array as it is checked, and the blocks that take their stored values from it. -/
theorem startUpCheckEnds_holds : Obligations.StartUpCheckEnds := by
  intro found s
  refine ⟨fun h => ?idle, fun h => ?ends⟩
  case idle =>
    show Host.Outcome.next (startUpCheckEnds found s) = _
    rw [startUpCheckEnds, h]
    rfl
  case ends =>
    let image := s.store.array.checked s.store.abandoned found
    let a : State := { s with
      store := { s.store with work := image, array := image, abandoned := none, checking := false }
      wave := { s.wave with cal := calRecordOf image }
      freeIndex := s.freeIndex + 1 }
    let al := if image.anyCorrupt then s.alarms.set .storeFault
          { state := .latched, count := min 255 ((s.alarm .storeFault).count + 1), time := some (s.seconds, .current) }
        else s.alarms
    let at' := if image.anyCorrupt then s.alert.onAlarm else s.alert
    have hends : startUpCheckEnds found s = scanStarts { a with alarms := al, alert := at' } := by
      rw [startUpCheckEnds, if_pos h]
      show scanStarts (if image.anyCorrupt then occur .storeFault a else a) = _
      by_cases hc : image.anyCorrupt = true
      · simp only [hc, if_true, al, at']
        rfl
      · simp only [hc, al, at']
        rfl
    refine ⟨_, congrArg Host.Outcome.next hends, rfl, rfl, rfl, rfl, rfl, fun hf hab => ?clean,
      fun f hf => recipeSound_of_recipeFault hf, fun n hn hlen => checked_recipe_corrupt hn hlen, fun hc => ?config,
      fun p hp => ?pair, fun hp => ?noPair, rfl, rfl, rfl, rfl, rfl, rfl, rfl, rfl, rfl, rfl, rfl, rfl, rfl⟩
    case clean =>
      have hclean : image = s.store.array.judged := by simp only [image, hab, checked_clean hf]
      show image.cal = _ ∧ image.config = _ ∧ (∀ n, n < _ → image.set n = _) ∧ ∀ n, n < _ → image.recipe n = _
      rw [hclean]
      refine ⟨rfl, ?_, fun n hn => ?_, fun n hn => ?_⟩
      · unfold StoreImage.judged
        dsimp only
        cases s.store.array.config <;> simp [configSound]
      · refine (getD_map_judged thermalSound _ hn _).trans ?_
        show (s.store.array.set n).judged thermalSound = _
        unfold Stored.judged
        cases (s.store.array.set n).item <;> simp [thermalSound, Stored.corrupted]
      · refine (getD_map_judged recipeSound _ hn _).trans ?_
        show (s.store.array.recipe n).judged recipeSound = _
        unfold Stored.judged
        cases (s.store.array.recipe n).item <;> rfl
    case config =>
      show (match image.config with
        | .valid c => some c
        | _ => none) = none
      rw [checked_config_corrupt hc]
    case pair =>
      show calRecordOf image = _
      rw [calRecordOf, show image.cal = .valid p from hp]
    case noPair =>
      have hp' : ∀ p, image.cal ≠ .valid p := hp
      show calRecordOf image = _
      unfold calRecordOf
      split
      next p h => exact absurd h (hp' p)
      · rfl
      · rfl

end Sys2Proof.Machine
end

section
/-! PROOFS. What an entry into a mode leaves of the blocks: the core that no part of it touches, and the wave, spray and conveyor
items that it sets (R3, R14, R20, R23, R29, R131, R145). -/

namespace Sys2Proof.Machine

/-! ### The core of a state -/

/-- A record without what strokes, rows, buffers and the wave leave on it. -/
def Record.plain (r : Record) : Record :=
  { r with buffer := none, exc := { items := [], more := false }, dose := 0, sprayed := 0, skipped := 0, wave := none }

/-- The tracker without the conveyor's command, the speed window and the gate. -/
def Tracker.plain (x : Tracker) : Tracker :=
  { x with conveyorRun := false, speedRef := 0, windowCounts := 0, windowFirst := true, outsideRun := 0, insideRun := 0,
           gateOpen := false, records := x.records.map Record.plain }

/-- The pot items without the drive-change watch and the feeder. -/
def PotCtl.plain (p : PotCtl) : PotCtl :=
  { p with standing := .invalid, refDrive := 0, driveHold := none, feeder := .off }

/-- The heater records without demands, integrals, grants and cut marks. -/
def Heaters.plain (x : Heaters) : Heaters :=
  { x with zones := x.zones.mapZones (fun _ z => z.inactive), pot := x.pot.inactive }

/-- What the parts of a mode entry below the Mode Controller have in common to leave alone. -/
structure Core where
  quiet : Quiet
  extr : Extraction
  heat : Heaters
  pot : PotCtl
  tracker : Tracker

def State.core (s : State) : Core :=
  { quiet := s.quiet, extr := s.extr, heat := s.heat.plain, pot := s.pot.plain, tracker := s.tracker.plain }

@[simp] theorem inactive_inactive (z : Zone) : z.inactive.inactive = z.inactive := rfl
@[simp] theorem potInactive_inactive (z : PotLoop) : z.inactive.inactive = z.inactive := rfl

@[simp] theorem plain_skipRow (k : ExcKind) (n : Nat) (r : Record) : (r.skipRow k n).plain = r.plain := rfl
@[simp] theorem plain_sprayRow (n : Nat) (r : Record) : (r.sprayRow n).plain = r.plain := rfl
@[simp] theorem plain_addDose (n : Nat) (r : Record) : (r.addDose n).plain = r.plain := rfl
@[simp] theorem plain_except (k : ExcKind) (r : Record) : (r.except k).plain = r.plain := rfl
@[simp] theorem plain_safePass (r : Record) : r.safePass.plain = r.plain := by unfold Record.safePass; split <;> rfl
@[simp] theorem plain_waveShort (r : Record) : r.waveShort.plain = r.plain := by unfold Record.waveShort; split <;> rfl
@[simp] theorem plain_takeDrive (n : Nat) (r : Record) : (r.takeDrive n).plain = r.plain := by
  unfold Record.takeDrive; split <;> rfl

/-! ### What strokes, rows and buffers leave alone -/

/-- What the operations of the Spray Controller and the Map Compositor leave alone. -/
structure Dry where
  quiet : Quiet
  extr : Extraction
  heat : Heaters
  pot : PotCtl
  wave : Wave
  tracker : Tracker

def State.dry (s : State) : Dry :=
  { quiet := s.quiet, extr := s.extr, heat := s.heat, pot := s.pot, wave := s.wave,
    tracker := { s.tracker with records := s.tracker.records.map Record.plain } }

/-- What leaves more alone leaves the core alone. -/
theorem core_of_dry {s t : State} (h : t.dry = s.dry) : t.core = s.core := by
  have htracker : ∀ u : State, u.tracker.plain = u.dry.tracker.plain := fun u => by
    have hplain : ∀ r : Record, r.plain.plain = r.plain := fun _ => rfl
    simp [State.dry, Tracker.plain, hplain]
  have hcore : ∀ u : State, u.core = ⟨u.dry.quiet, u.dry.extr, u.dry.heat.plain, u.dry.pot.plain, u.dry.tracker.plain⟩ := fun u => by
    rw [← htracker]
    rfl
  rw [hcore t, hcore s, h]

section
variable (s : State)

@[simp] theorem setSpray_dry (x : Spray) : (s.setSpray x).dry = s.dry := rfl
@[simp] theorem conditionEnds_dry (k : AlarmKind) : (conditionEnds k s).dry = s.dry := rfl
@[simp] theorem occurrence_dry (k : AlarmKind) (st : AlarmState) : (occurrence k st s).dry = s.dry := rfl

@[simp] theorem conditionAppears_dry (k : AlarmKind) : (conditionAppears k s).dry = s.dry := by
  unfold conditionAppears
  split <;> rfl

@[simp] theorem compositionTest_dry : (compositionTest s).dry = s.dry := by
  obtain ⟨m, hm⟩ := compositionTest_eq s
  rw [hm]
  rfl

theorem mapRecords_dry {f : Record → Record} (hf : ∀ r, (f r).plain = r.plain) : (mapRecords f s).dry = s.dry := by
  simp [State.dry, mapRecords, Function.comp_def, hf, State.quiet]

theorem updateRecord_dry (tag : Nat) {f : Record → Record} (hf : ∀ r, (f r).plain = r.plain) :
    (updateRecord tag f s).dry = s.dry :=
  mapRecords_dry s (fun r => by split <;> simp [hf])

@[simp] theorem releaseBuffer_dry (b : BufferId) : (releaseBuffer b s).dry = s.dry := by
  unfold releaseBuffer
  simp only [compositionTest_dry]
  exact (mapRecords_dry _ (fun r => by split <;> rfl)).trans rfl

@[simp] theorem rowResolved_dry (b : BufferId) : (rowResolved b s).dry = s.dry := by
  unfold rowResolved
  split
  · rfl
  · dsimp only
    split
    · rw [releaseBuffer_dry]; rfl
    · rfl

@[simp] theorem skipRow_dry (tag : Nat) (b : BufferId) (k : ExcKind) (dose : Nat) : (skipRow tag b k dose s).dry = s.dry := by
  rw [skipRow, rowResolved_dry, updateRecord_dry _ _ (plain_skipRow k dose)]

@[simp] theorem sprayRow_dry (tag : Nat) (b : BufferId) (dose : Nat) : (sprayRow tag b dose s).dry = s.dry := by
  rw [sprayRow, rowResolved_dry, updateRecord_dry _ _ (plain_sprayRow dose)]

@[simp] theorem dropRow_dry (e : StrokeEntry) (k : ExcKind) (p : Bool) : (dropRow e k p s).dry = s.dry := by
  unfold dropRow
  split <;> simp

@[simp] theorem serveRows_dry (es : List StrokeEntry) (s : State) : (serveRows es s).dry = s.dry := by
  induction es generalizing s with
  | nil => rfl
  | cons e rest ih =>
    unfold serveRows
    split
    · rfl
    · rw [ih, dropRow_dry]

@[simp] theorem serveQueue_dry : (serveQueue s).dry = s.dry := by
  unfold serveQueue
  split <;> simp

@[simp] theorem haltTraverse_dry : (haltTraverse s).dry = s.dry := rfl

@[simp] theorem cutStroke_dry (k : ExcKind) : (cutStroke k s).dry = s.dry := by
  unfold cutStroke
  split <;> simp

@[simp] theorem cutPurge_dry : (cutPurge s).dry = s.dry := by
  unfold cutPurge
  split <;> rfl

@[simp] theorem skipRows_dry (es : List StrokeEntry) (s : State) : (skipRows es s).dry = s.dry := by
  induction es generalizing s with
  | nil => rfl
  | cons e rest ih => rw [skipRows, ih, skipRow_dry]

@[simp] theorem spraySafe_dry : (spraySafe s).dry = s.dry := by simp [spraySafe]

@[simp] theorem sprayExtractionLost_dry : (sprayExtractionLost s).dry = s.dry := by
  unfold sprayExtractionLost
  split <;> simp

@[simp] theorem sprayAtMode_dry (new : Mode) : (sprayAtMode new s).dry = s.dry := by
  cases new <;> simp only [sprayAtMode, spraySafe_dry]
  all_goals split <;> simp

@[simp] theorem sprayAtMode_core (new : Mode) : (sprayAtMode new s).core = s.core := core_of_dry (sprayAtMode_dry s new)

end

/-! ### What the other parts of a mode entry leave alone -/

section
variable (s : State)

@[simp] theorem setWave_core (x : Wave) : (s.setWave x).core = s.core := rfl
@[simp] theorem conditionEnds_core (k : AlarmKind) : (conditionEnds k s).core = s.core := rfl
@[simp] theorem occurrence_core (k : AlarmKind) (st : AlarmState) : (occurrence k st s).core = s.core := rfl
@[simp] theorem eventOccurs_core (k : AlarmKind) : (eventOccurs k s).core = s.core := rfl

@[simp] theorem conditionAppears_core (k : AlarmKind) : (conditionAppears k s).core = s.core := by
  unfold conditionAppears
  split <;> rfl

/-- A change of the records that is plain leaves the core alone. -/
theorem mapRecords_core {f : Record → Record} (hf : ∀ r, (f r).plain = r.plain) : (mapRecords f s).core = s.core := by
  simp [State.core, mapRecords, Tracker.plain, Function.comp_def, hf, State.quiet]

@[simp] theorem watchDrive_plain (t n : Nat) (p : PotCtl) : (watchDrive t n p).plain = p.plain := by
  unfold watchDrive
  split <;> rfl

@[simp] theorem waveSync_core : (waveSync s).core = s.core := by
  unfold waveSync driveWave
  split
  · rfl
  · refine (mapRecords_core _ (plain_takeDrive _)).trans ?_
    simp [State.core, State.quiet]

@[simp] theorem judgeSide_core (side : WaveSide) : (judgeSide side s).core = s.core := by
  have hlimit : (if side = .none then conditionEnds .waveLimit (s.setWave { s.wave with side := side })
      else conditionAppears .waveLimit (s.setWave { s.wave with side := side })).core = s.core := by
    split <;> simp
  unfold judgeSide
  dsimp only
  split
  · rw [mapRecords_core _ plain_waveShort, hlimit]
  · exact hlimit

@[simp] theorem computeDrive_core (level : Int) : (computeDrive level s).core = s.core := by simp [computeDrive]

@[simp] theorem waveAtMode_core (old new : Mode) : (waveAtMode old new s).core = s.core := by
  unfold waveAtMode
  repeat' split
  all_goals simp

@[simp] theorem failSearch_core (cause : CalCause) : (failSearch cause s).core = s.core := by simp [failSearch]

@[simp] theorem searchAtSafe_core : (searchAtSafe s).core = s.core := by
  unfold searchAtSafe
  split <;> simp

@[simp] theorem closeGate_core : (closeGate s).core = s.core := rfl

@[simp] theorem passAtSafe_core : (passAtSafe s).core = s.core :=
  mapRecords_core s (fun r => by split <;> simp)

@[simp] theorem trackAtMode_core (new : Mode) : (trackAtMode new s).core = s.core := by
  cases new <;> simp [trackAtMode]

@[simp] theorem conveyorSync_core : (conveyorSync s).core = s.core := by
  unfold conveyorSync
  repeat' split
  all_goals rfl

@[simp] theorem zeroGrants_core : (zeroGrants s).core = s.core := by
  simp only [State.core, zeroGrants, Heaters.plain, Six.mapZones]
  rfl

@[simp] theorem judgeSupply_core : (judgeSupply s).core = s.core := by
  unfold judgeSupply
  split <;> simp

@[simp] theorem supplyAtMode_core (old new : Mode) : (supplyAtMode old new s).core = s.core := by
  unfold supplyAtMode
  split <;> simp

@[simp] theorem settleLoops_core : (settleLoops s).core = s.core := by
  have hzone : ∀ (k : ZoneId) (z : Zone), (if s.zoneActive k then z else z.inactive).inactive = z.inactive := fun k z => by
    split <;> rfl
  have hpot : (if s.potActive then s.heat.pot else s.heat.pot.inactive).inactive = s.heat.pot.inactive := by
    split <;> rfl
  simp only [State.core, settleLoops, setHeat_heat, setHeat_pot, setHeat_tracker, setHeat_extr, setHeat_quiet, Heaters.plain,
    Six.mapZones, hzone, hpot]

@[simp] theorem feedAtActivity_core : (feedAtActivity s).core = s.core := by
  unfold feedAtActivity feedTestNow feedTest
  repeat' split
  all_goals rfl

@[simp] theorem afterLoops_core : (afterLoops s).core = s.core := by simp [afterLoops]

end

end Sys2Proof.Machine
end

section
/-! PROOFS. An entry into a mode as a whole: its core, the extraction items, the marks of the zones, the conveyor and the wave
(R3, R14, R20, R23, R29, R131, R145, R148). -/

namespace Sys2Proof.Machine

/-! ### The extraction items (R145, R148, R151) -/

/-- The fan command that a mode asks for (R145). -/
def Mode.fanWanted (m : Mode) (hot : Bool) : Bool :=
  match m with
  | .idle => hot
  | _ => true

theorem fanWanted_eq (s : State) : s.fanWanted = s.modes.mode.fanWanted s.pot.fumeHot := rfl

theorem Mode.fanWanted_of_ne_idle {m : Mode} (h : m ≠ .idle) (hot : Bool) : m.fanWanted hot = true := by
  cases m with
  | idle => exact absurd rfl h
  | _ => rfl

/-- The extraction items that follow a fan command (R145, R148, R152). -/
def Extraction.fanned (wanted configured : Bool) (e : Extraction) : Extraction :=
  if wanted = e.fan then e
  else if wanted then (Extraction.enter .proving { e with fan := true }).graceAt false configured
  else (Extraction.enter .off { e with fan := false, clog := none }).graceAt false configured

theorem fanned_of_eq {wanted configured : Bool} {e : Extraction} (h : wanted = e.fan) : e.fanned wanted configured = e := by
  simp [Extraction.fanned, h]

theorem fanned_on {e : Extraction} (configured : Bool) (h : e.fan = false) :
    e.fanned true configured = (Extraction.enter .proving { e with fan := true }).graceAt false configured := by
  simp [Extraction.fanned, h]

@[simp] theorem fanned_fan (wanted configured : Bool) (e : Extraction) : (e.fanned wanted configured).fan = wanted := by
  unfold Extraction.fanned
  split
  next h => exact h.symm
  next =>
    split
    next h => simp [h]
    next h => simpa using h

/-- A fan that turns on is in PROVING (R145, R148). -/
theorem fanned_state_of_off {e : Extraction} (configured : Bool) (h : e.fan = false) :
    (e.fanned true configured).state = .proving := by
  rw [fanned_on configured h]
  simp

/-- What a fan command does discards forced standby that is due, or leaves it (R151). -/
theorem fanned_not_due {wanted configured : Bool} {e : Extraction} (h : e.forcedDue = false) :
    (e.fanned wanted configured).forcedDue = false := by
  unfold Extraction.fanned
  split
  · exact h
  · split <;> rfl

/-- A change of the extraction state at the monitor, its conditions and the Spray Controller: what is left of it beside the Alarm
Table, the map buffers and the rows (R148). -/
theorem changeExtraction_dry (new : ExtState) (s : State) :
    (changeExtraction new s).dry
      = { s.dry with extr := (s.extr.enter new).graceAt (new == .failed) s.configured } := by
  have hquiet : ∀ (k : AlarmKind) (b : Bool) (u : State), (judgeQuiet k b u).dry = u.dry := fun k b u => by
    unfold judgeQuiet
    split <;> simp
  unfold changeExtraction
  dsimp only
  split
  · rw [sprayExtractionLost_dry, hquiet, hquiet]
    rfl
  · rw [hquiet, hquiet]
    rfl

theorem fanSync_dry (s : State) :
    (fanSync s).dry = { s.dry with extr := s.extr.fanned s.fanWanted s.configured } := by
  unfold fanSync
  split
  next h => rw [fanned_of_eq h]; rfl
  next h =>
    split
    next hw =>
      rw [changeExtraction_dry, Extraction.fanned, if_neg h, if_pos hw]
      rfl
    next hw =>
      rw [changeExtraction_dry, Extraction.fanned, if_neg h, if_neg hw]
      rfl

theorem core_eq_of_dry {s t : State} {e : Extraction} (h : t.dry = { s.dry with extr := e }) : t.core = { s.core with extr := e } :=
  core_of_dry (s := s.setExtr e) h

theorem fanSync_core (s : State) :
    (fanSync s).core = { s.core with extr := s.extr.fanned s.fanWanted s.configured } := core_eq_of_dry (fanSync_dry s)

/-! ### The marks of the zones (R3, R9, R20, R92, R105) -/

/-- A zone's marks as the entry into a mode leaves them. -/
def State.marksAt (s : State) (new : Mode) (k : ZoneId) (z : Zone) : Zone :=
  match new with
  | .idle => { z with started := false, trim := 0, overMark := false, warmFail := false }
  | .standby => { z with started := s.activeField (·.zoneStandby k) != 0, warmFail := false }
  | .safe => { z with warmFail := false }
  | .warmup | .ready | .run | .drain | .hold | .calibrating => z

theorem entryMarks_heat (new : Mode) (s : State) :
    (entryMarks new s).heat = { s.heat with zones := s.heat.zones.mapZones (s.marksAt new) } := by
  cases new <;> rfl

@[simp] theorem entryMarks_pot (new : Mode) (s : State) : (entryMarks new s).pot = s.pot := by cases new <;> rfl
@[simp] theorem entryMarks_tracker (new : Mode) (s : State) : (entryMarks new s).tracker = s.tracker := by cases new <;> rfl
@[simp] theorem entryMarks_spray (new : Mode) (s : State) : (entryMarks new s).spray = s.spray := by cases new <;> rfl

theorem activeField_congr {s t : State} (hm : t.modes.activeSet = s.modes.activeSet) (hs : t.store = s.store)
    (hf : t.freeIndex = s.freeIndex) (f : ThermalSet → Nat) : t.activeField f = s.activeField f := by
  unfold State.activeField State.activeSet?
  rw [hm]
  unfold State.setContents
  rw [hs, hf]

@[simp] theorem enter_activeSet (new : Mode) (molten : Bool) (c : ModeCtl) : (c.enter new molten).activeSet = c.activeSet := by
  cases new <;> rfl

/-- The marks read the set in force alone, which a mode change leaves. -/
theorem marksAt_congr {s t : State} (hm : t.modes.activeSet = s.modes.activeSet) (hs : t.store = s.store)
    (hf : t.freeIndex = s.freeIndex) (new : Mode) : t.marksAt new = s.marksAt new := by
  funext k z
  cases new <;> simp only [State.marksAt, activeField_congr hm hs hf]

/-! ### The entry as a whole -/

/-- The state that an entry into a mode has before the blocks below the Mode Controller follow it. -/
def modeSet (new : Mode) (s : State) : State :=
  let s1 := s.setModes (s.modes.enter new s.pot.molten)
  if s.modes.mode = .warmup ∧ new ≠ .warmup then leaveWarmup s1 else s1

/-- The state before the spray items, the wave and the tracker follow. -/
def modeJudged (new : Mode) (s : State) : State :=
  fanSync (supplyAtMode s.modes.mode new (entryMarks new (modeSet new s)))

theorem setMode_eq (new : Mode) (s : State) :
    setMode new s = afterLoops (conveyorSync (trackAtMode new (waveAtMode s.modes.mode new
      (if new = .safe then searchAtSafe (sprayAtMode new (modeJudged new s)) else sprayAtMode new (modeJudged new s))))) := rfl

section
variable (new : Mode) (s : State)

@[simp] theorem modeSet_modes : (modeSet new s).modes = s.modes.enter new s.pot.molten := by
  unfold modeSet
  dsimp only
  split <;> rfl

theorem modeSet_pot : (modeSet new s).pot
    = { s.pot with soak := if s.modes.mode = .warmup ∧ new ≠ .warmup then .none else s.pot.soak } := by
  unfold modeSet
  dsimp only
  split <;> rfl

@[simp] theorem modeSet_wave : (modeSet new s).wave = s.wave := by unfold modeSet; dsimp only; split <;> rfl
@[simp] theorem modeSet_extr : (modeSet new s).extr = s.extr := by unfold modeSet; dsimp only; split <;> rfl
@[simp] theorem modeSet_heat : (modeSet new s).heat = s.heat := by unfold modeSet; dsimp only; split <;> rfl
@[simp] theorem modeSet_tracker : (modeSet new s).tracker = s.tracker := by unfold modeSet; dsimp only; split <;> rfl
@[simp] theorem modeSet_spray : (modeSet new s).spray = s.spray := by unfold modeSet; dsimp only; split <;> rfl
@[simp] theorem modeSet_store : (modeSet new s).store = s.store := by unfold modeSet; dsimp only; split <;> rfl
@[simp] theorem modeSet_freeIndex : (modeSet new s).freeIndex = s.freeIndex := by unfold modeSet; dsimp only; split <;> rfl
@[simp] theorem modeSet_scan : (modeSet new s).scan = s.scan := by unfold modeSet; dsimp only; split <;> rfl

theorem modeSet_quiet : (modeSet new s).quiet = { s.quiet with modes := s.modes.enter new s.pot.molten } := by
  unfold modeSet
  dsimp only
  split <;> rfl

/-- The core that an entry into a mode leaves. -/
theorem setMode_core : (setMode new s).core =
    { quiet := { s.quiet with modes := s.modes.enter new s.pot.molten }
      extr := s.extr.fanned (new.fanWanted s.pot.fumeHot) s.configured
      heat := { s.heat with zones := s.heat.zones.mapZones (s.marksAt new) }.plain
      pot := { s.pot.plain with soak := if s.modes.mode = .warmup ∧ new ≠ .warmup then .none else s.pot.soak }
      tracker := s.tracker.plain } := by
  have hmarked : (supplyAtMode s.modes.mode new (entryMarks new (modeSet new s))).core = (entryMarks new (modeSet new s)).core :=
    supplyAtMode_core _ _ _
  have hwanted : (supplyAtMode s.modes.mode new (entryMarks new (modeSet new s))).fanWanted = new.fanWanted s.pot.fumeHot := by
    have hmode := congrArg (fun c : Core => c.quiet.modes.mode.fanWanted c.pot.fumeHot) hmarked
    refine hmode.trans ?_
    show (entryMarks new (modeSet new s)).modes.mode.fanWanted (entryMarks new (modeSet new s)).pot.fumeHot = _
    rw [entryMarks_modes, entryMarks_pot, modeSet_modes, modeSet_pot, enter_mode]
  have hconfigured : (supplyAtMode s.modes.mode new (entryMarks new (modeSet new s))).configured = s.configured := by
    have hstore : (supplyAtMode s.modes.mode new (entryMarks new (modeSet new s))).store = s.store :=
      (congrArg (fun c : Core => c.quiet.store) hmarked).trans
        ((congrArg Quiet.store (entryMarks_quiet new _)).trans (modeSet_store new s))
    unfold State.configured State.config?
    rw [hstore]
  have hextr : (supplyAtMode s.modes.mode new (entryMarks new (modeSet new s))).extr = s.extr :=
    (congrArg Core.extr hmarked).trans (by rw [show (entryMarks new (modeSet new s)).core.extr = (entryMarks new (modeSet new s)).extr from rfl, entryMarks_extr, modeSet_extr])
  have hlast : (setMode new s).core = (modeJudged new s).core := by
    rw [setMode_eq, afterLoops_core, conveyorSync_core, trackAtMode_core, waveAtMode_core]
    split <;> simp
  rw [hlast, modeJudged, fanSync_core, hmarked, hwanted, hconfigured, hextr]
  simp only [State.core, entryMarks_heat, entryMarks_pot, entryMarks_tracker, entryMarks_quiet, modeSet_pot, modeSet_heat,
    modeSet_tracker, modeSet_quiet, marksAt_congr (s := s) (t := modeSet new s) (by simp) (by simp) (by simp)]
  rfl

end

end Sys2Proof.Machine
end

section
/-! PROOFS. What the blocks hold after an entry into a mode, item by item (R3, R14, R20, R23, R29, R131 to R136). -/

namespace Sys2Proof.Machine

/-! ### Items read from the core -/

section
variable {s t : State}

theorem records_nil_of_core (h : t.tracker.plain = s.tracker.plain) : t.tracker.records = [] ↔ s.tracker.records = [] := by
  have hr : t.tracker.records.map Record.plain = s.tracker.records.map Record.plain := congrArg Tracker.records h
  rw [← List.map_eq_nil_iff (f := Record.plain), hr, List.map_eq_nil_iff]

theorem zone_of_core {x : Heaters} (h : t.heat.plain = x.plain) (k : ZoneId) : (t.zone k).inactive = (x.zones.get k).inactive := by
  have hz := congrArg (fun y : Heaters => y.zones.get k) h
  simpa [Heaters.plain, State.zone] using hz

end

section
variable (new : Mode) (s : State)

@[simp] theorem setMode_extr : (setMode new s).extr = s.extr.fanned (new.fanWanted s.pot.fumeHot) s.configured :=
  congrArg Core.extr (setMode_core new s)

@[simp] theorem setMode_molten : (setMode new s).pot.molten = s.pot.molten :=
  congrArg (fun c : Core => c.pot.molten) (setMode_core new s)

@[simp] theorem setMode_fumeHot : (setMode new s).pot.fumeHot = s.pot.fumeHot :=
  congrArg (fun c : Core => c.pot.fumeHot) (setMode_core new s)

@[simp] theorem setMode_level : (setMode new s).pot.level = s.pot.level :=
  congrArg (fun c : Core => c.pot.level) (setMode_core new s)

theorem setMode_soak : (setMode new s).pot.soak = if s.modes.mode = .warmup ∧ new ≠ .warmup then .none else s.pot.soak :=
  congrArg (fun c : Core => c.pot.soak) (setMode_core new s)

@[simp] theorem setMode_quiet : (setMode new s).quiet = { s.quiet with modes := s.modes.enter new s.pot.molten } :=
  congrArg Core.quiet (setMode_core new s)

@[simp] theorem setMode_store : (setMode new s).store = s.store := congrArg Quiet.store (setMode_quiet new s)

theorem setMode_configured : (setMode new s).configured = s.configured := by
  unfold State.configured State.config?
  rw [setMode_store]

/-- A zone after an entry into a mode, its demand, integral, grant and cut mark apart. -/
theorem setMode_zone (k : ZoneId) : ((setMode new s).zone k).inactive = (s.marksAt new k (s.zone k)).inactive := by
  refine (zone_of_core (congrArg Core.heat (setMode_core new s)) k).trans ?_
  simp [State.zone]

theorem setMode_started (k : ZoneId) : ((setMode new s).zone k).started = (s.marksAt new k (s.zone k)).started :=
  (congrArg Zone.started (setMode_zone new s k) :)

theorem setMode_warmFail (k : ZoneId) : ((setMode new s).zone k).warmFail = (s.marksAt new k (s.zone k)).warmFail :=
  (congrArg Zone.warmFail (setMode_zone new s k) :)

theorem setMode_trim (k : ZoneId) : ((setMode new s).zone k).trim = (s.marksAt new k (s.zone k)).trim :=
  (congrArg Zone.trim (setMode_zone new s k) :)

theorem setMode_potMarks : (setMode new s).heat.pot.inactive = s.heat.pot.inactive :=
  congrArg (fun c : Core => c.heat.pot) (setMode_core new s)

theorem setMode_records_nil : (setMode new s).tracker.records = [] ↔ s.tracker.records = [] :=
  records_nil_of_core (congrArg Core.tracker (setMode_core new s))

@[simp] theorem setMode_queue : (setMode new s).tracker.queue = s.tracker.queue :=
  congrArg (fun c : Core => c.tracker.queue) (setMode_core new s)

end

/-! ### The conveyor and the gate (R29, R37) -/

@[simp] theorem conveyorSync_run (s : State) : (conveyorSync s).tracker.conveyorRun = s.conveyorWanted := by
  unfold conveyorSync
  split
  next h => exact h.symm
  next =>
    split
    next h => exact h.symm
    next h => simpa using h

@[simp] theorem conveyorSync_gateOpen (s : State) : (conveyorSync s).tracker.gateOpen = s.tracker.gateOpen := by
  unfold conveyorSync
  repeat' split
  all_goals rfl

/-- The conveyor command that R29 gives, by the mode and whether boards are in transit. -/
def Mode.conveyorWanted (m : Mode) (inTransit : Bool) : Bool :=
  match m with
  | .ready | .run | .drain => true
  | .safe => inTransit
  | .idle | .warmup | .standby | .calibrating | .hold => false

theorem conveyorWanted_eq (s : State) : s.conveyorWanted = s.modes.mode.conveyorWanted (!s.tracker.records.isEmpty) := rfl

theorem isEmpty_congr {l m : List Record} (h : l = [] ↔ m = []) : l.isEmpty = m.isEmpty := by
  rw [Bool.eq_iff_iff, List.isEmpty_iff, List.isEmpty_iff, h]

/-- After an entry into a mode the conveyor's command is what R29 gives. -/
theorem setMode_conveyorRun (new : Mode) (s : State) :
    (setMode new s).tracker.conveyorRun = new.conveyorWanted (!s.tracker.records.isEmpty) := by
  let u := trackAtMode new (waveAtMode s.modes.mode new
    (if new = .safe then searchAtSafe (sprayAtMode new (modeJudged new s)) else sprayAtMode new (modeJudged new s)))
  have hrun : (setMode new s).tracker.conveyorRun = u.conveyorWanted := by
    rw [setMode_eq, afterLoops_tracker, conveyorSync_run]
  have hcore : (setMode new s).core = u.core := by
    rw [setMode_eq, afterLoops_core, conveyorSync_core]
  have hmode : u.modes.mode = new :=
    (congrArg (fun c : Core => c.quiet.modes.mode) (hcore.symm.trans (setMode_core new s))).trans (enter_mode _ _ _)
  have hnil : u.tracker.records = [] ↔ s.tracker.records = [] :=
    records_nil_of_core (congrArg Core.tracker (hcore.symm.trans (setMode_core new s)))
  rw [hrun, conveyorWanted_eq, hmode, isEmpty_congr hnil]

theorem waveSync_gateOpen (s : State) : (waveSync s).tracker.gateOpen = s.tracker.gateOpen := by
  unfold waveSync driveWave
  split <;> rfl

theorem trackAtMode_gateOpen (new : Mode) (s : State) : (trackAtMode new s).tracker.gateOpen
    = match new with
      | .idle | .ready | .standby | .safe => false
      | .warmup | .run | .drain | .hold | .calibrating => s.tracker.gateOpen := by
  cases new <;> rfl

/-- The gate is closed after an entry into IDLE, READY, STANDBY or SAFE (R3, R14, R20, R23). -/
theorem setMode_gate_closed {new : Mode} (s : State) (h : new = .idle ∨ new = .ready ∨ new = .standby ∨ new = .safe) :
    (setMode new s).tracker.gateOpen = false := by
  rw [setMode_eq, afterLoops_tracker, conveyorSync_gateOpen, trackAtMode_gateOpen]
  rcases h with rfl | rfl | rfl | rfl <;> rfl

/-! ### The wave (R131 to R136) -/

@[simp] theorem conditionAppears_wave (k : AlarmKind) (s : State) : (conditionAppears k s).wave = s.wave := by
  unfold conditionAppears; split <;> rfl

@[simp] theorem judgeSide_wave (side : WaveSide) (s : State) : (judgeSide side s).wave = { s.wave with side := side } := by
  have hlimit : (if side = .none then conditionEnds .waveLimit (s.setWave { s.wave with side := side })
      else conditionAppears .waveLimit (s.setWave { s.wave with side := side })).wave = { s.wave with side := side } := by
    split <;> simp
  unfold judgeSide
  dsimp only
  split <;> simpa using hlimit

theorem judgeSide_molten (side : WaveSide) (s : State) : (judgeSide side s).pot.molten = s.pot.molten :=
  congrArg (fun c : Core => c.pot.molten) (judgeSide_core s side)

theorem judgeSide_mode (side : WaveSide) (s : State) : (judgeSide side s).modes = s.modes :=
  congrArg Quiet.modes (judgeSide_quiet side s)

@[simp] theorem trackAtMode_wave (new : Mode) (s : State) : (trackAtMode new s).wave = s.wave := by cases new <;> rfl

@[simp] theorem judgeSupply_wave (s : State) : (judgeSupply s).wave = s.wave := by
  unfold judgeSupply
  split
  · exact conditionAppears_wave _ _
  · rfl

@[simp] theorem conditionAppears_pot (k : AlarmKind) (s : State) : (conditionAppears k s).pot = s.pot := by
  unfold conditionAppears; split <;> rfl

@[simp] theorem judgeSupply_pot (s : State) : (judgeSupply s).pot = s.pot := by
  unfold judgeSupply
  split
  · exact conditionAppears_pot _ _
  · rfl

@[simp] theorem conditionAppears_tracker (k : AlarmKind) (s : State) : (conditionAppears k s).tracker = s.tracker := by
  unfold conditionAppears; split <;> rfl

@[simp] theorem judgeSupply_tracker (s : State) : (judgeSupply s).tracker = s.tracker := by
  unfold judgeSupply
  split
  · exact conditionAppears_tracker _ _
  · rfl

section
variable (new : Mode) (s : State)

@[simp] theorem supplyAtMode_wave (old : Mode) : (supplyAtMode old new s).wave = s.wave := by
  unfold supplyAtMode; split <;> simp

@[simp] theorem supplyAtMode_pot (old : Mode) : (supplyAtMode old new s).pot = s.pot := by
  unfold supplyAtMode; split <;> simp

@[simp] theorem supplyAtMode_tracker (old : Mode) : (supplyAtMode old new s).tracker = s.tracker := by
  unfold supplyAtMode; split <;> simp

@[simp] theorem fanSync_wave : (fanSync s).wave = s.wave := congrArg Dry.wave (fanSync_dry s)
@[simp] theorem fanSync_pot : (fanSync s).pot = s.pot := congrArg Dry.pot (fanSync_dry s)
@[simp] theorem sprayAtMode_wave : (sprayAtMode new s).wave = s.wave := congrArg Dry.wave (sprayAtMode_dry s new)
@[simp] theorem sprayAtMode_pot : (sprayAtMode new s).pot = s.pot := congrArg Dry.pot (sprayAtMode_dry s new)

@[simp] theorem modeJudged_wave : (modeJudged new s).wave = s.wave := by simp [modeJudged]

@[simp] theorem modeJudged_pot : (modeJudged new s).pot
    = { s.pot with soak := if s.modes.mode = .warmup ∧ new ≠ .warmup then .none else s.pot.soak } := by
  simp [modeJudged, modeSet_pot]

theorem modeJudged_quiet : (modeJudged new s).quiet = { s.quiet with modes := s.modes.enter new s.pot.molten } := by
  simp [modeJudged, modeSet_quiet]

@[simp] theorem modeJudged_modes : (modeJudged new s).modes = s.modes.enter new s.pot.molten :=
  congrArg Quiet.modes (modeJudged_quiet new s)

end

/-- The wave output is 0 in the modes with the wave off, CALIBRATING apart (R131). -/
theorem waveTarget_of_resting {s : State} (ho : s.modes.mode.waveOn = false) (hc : s.modes.mode ≠ .calibrating) :
    s.waveTarget = 0 := by
  unfold State.waveTarget
  rw [ho]
  split
  · rfl
  · split
    next h => cases h
    next =>
      split
      next h _ => exact absurd h hc
      next => rfl

/-- The wave items after a mode change that does not turn the wave on: turned off, or brought to what R131 gives. -/
theorem waveAtMode_wave_of_off {old new : Mode} (s : State) (hn : new.waveOn = false) :
    (waveAtMode old new s).wave = { s.wave with
      computed := if old.waveOn then none else s.wave.computed
      side := if old.waveOn then .none else s.wave.side
      output := (if old.waveOn then s.setWave { s.wave with computed := none } else s).waveTarget } := by
  unfold waveAtMode
  rw [hn]
  cases old.waveOn <;> simp

/-- The mode of a state that a mode change's parts have reached. -/
theorem waveTarget_resting_of_mode {s : State} {new : Mode} (hm : s.modes.mode = new) (hn : new.waveOn = false)
    (hc : new ≠ .calibrating) : s.waveTarget = 0 := waveTarget_of_resting (hm ▸ hn) (hm ▸ hc)

section
variable (new : Mode) (s : State)

/-- What the wave follows at an entry into a mode. -/
def waveMode : State := if new = .safe then searchAtSafe (sprayAtMode new (modeJudged new s)) else sprayAtMode new (modeJudged new s)

theorem setMode_wave : (setMode new s).wave = (waveAtMode s.modes.mode new (waveMode new s)).wave := by
  rw [setMode_eq, afterLoops_wave, conveyorSync_wave, trackAtMode_wave]
  rfl

theorem waveMode_mode : (waveMode new s).modes.mode = new := by
  have hspray : (sprayAtMode new (modeJudged new s)).modes.mode = new := by
    rw [show (sprayAtMode new (modeJudged new s)).modes = (modeJudged new s).modes from
      congrArg Quiet.modes (sprayAtMode_quiet new _)]
    exact (congrArg ModeCtl.mode (modeJudged_modes new s)).trans (enter_mode _ _ _)
  unfold waveMode
  split
  · exact (congrArg (fun q : Quiet => q.modes.mode) (searchAtSafe_quiet _)).trans hspray
  · exact hspray

end

/-- The wave is off after an entry into IDLE, WARMUP, READY, STANDBY or SAFE (R131, R136). -/
theorem setMode_output_off {new : Mode} (s : State) (hn : new.waveOn = false) (hc : new ≠ .calibrating) :
    (setMode new s).wave.output = 0 := by
  have hmode := waveMode_mode new s
  rw [setMode_wave, waveAtMode_wave_of_off _ hn]
  cases s.modes.mode.waveOn
  · exact waveTarget_resting_of_mode hmode hn hc
  · exact waveTarget_resting_of_mode (s := (waveMode new s).setWave _) hmode hn hc

end Sys2Proof.Machine
end

section
/-! PROOFS. The mode requests that are refused (R4, R15, R24, R26), and what SELECT_SET does (R2, R184). -/

namespace Sys2Proof.Machine

/-! ### Checks in order (R26, R190) -/

/-- The first check that fails gives the refusal, with the fields that its owner names. -/
theorem checked_refused {r : Request} {checks : List (Bool × RefusalCode)} {go : State → State} {c : ResultCode} {i : Nat}
    (s : State) (k : RequestKind) (tag : Byte) (h : firstRefusal checks = some (c, i)) :
    checked r checks go (s.owing k tag) = s.replying k tag (refusalPayload c i (requestFields r s)) := by
  simp only [checked, h, refuse_owing]

/-- A request whose checks all hold is taken. -/
theorem checked_taken {r : Request} {checks : List (Bool × RefusalCode)} {go : State → State} {s : State}
    (h : firstRefusal checks = none) : checked r checks go s = go s := by simp only [checked, h]

theorem exec_start (tag : Byte) (s : State) (hs : s.hears) (hm : s.modes.mode = .idle ∨ s.modes.mode = .standby) :
    exec (.start tag) s = .next (actStart (s.owing .start tag)) := by
  refine exec_act tag false .start s hs ?_ rfl
  show (s.modes.mode == .idle || s.modes.mode == .standby) = true
  rcases hm with h | h <;> rw [h] <;> rfl

theorem exec_run (tag : Byte) (s : State) (hs : s.hears)
    (hm : s.modes.mode = .ready ∨ s.modes.mode = .run ∨ s.modes.mode = .drain ∨ s.modes.mode = .hold) :
    exec (.run tag) s = .next (actRun (s.owing .run tag)) := by
  refine exec_act tag false .run s hs ?_ rfl
  show (s.modes.mode == .ready || s.modes.mode == .run || s.modes.mode == .drain || s.modes.mode == .hold) = true
  rcases hm with h | h | h | h <;> rw [h] <;> rfl

theorem exec_clearSafe (tag : Byte) (s : State) (hs : s.hears) (hm : s.modes.mode = .safe) :
    exec (.clearSafe tag) s = .next (actClearSafe (s.owing .clearSafe tag)) :=
  exec_act tag false .clearSafe s hs (show (s.modes.mode == .safe) = true by rw [hm]; rfl) rfl

/-- Settles O16: the lists of checks, evaluated up to the first that fails. -/
theorem modeRequestsRefused : Obligations.ModeRequestsRefused := by
  intro tag s hs
  refine ⟨fun hm => ?start, fun hm => ?ready, fun hm => ?drained, fun hm => ?safe⟩
  case start =>
    rw [exec_start tag s hs hm]
    refine ⟨fun h1 => ?_, fun h1 h2 => ?_, fun h1 h2 h3 => ?_⟩
    · have hc : (s.owing .start tag).configured = false := h1
      exact congrArg _ (checked_refused s _ tag (c := .noConfig) (i := 0) (by simp [firstRefusal, hc]))
    · have hc : (s.owing .start tag).configured = true := h1
      have hf : (s.owing .start tag).activeFit = false := h2
      exact congrArg _ (checked_refused s _ tag (c := .badSet) (i := 0) (by simp [firstRefusal, hc, hf]))
    · have hc : (s.owing .start tag).configured = true := h1
      have hf : (s.owing .start tag).activeFit = true := h2
      have ha : (s.owing .start tag).safeInForce = true := h3
      exact congrArg _ (checked_refused s _ tag (c := .alarm) (i := 0) (by simp [firstRefusal, hc, hf, ha]))
  case ready =>
    have hmode : (s.owing .run tag).modes.mode = .ready := hm
    rw [exec_run tag s hs (.inl hm), actRun, hmode]
    refine ⟨fun h1 => ?_, fun h1 h2 => ?_, fun h1 h2 h3 => ?_⟩
    · have hv : (s.owing .run tag).wave.cal.valid = false := h1
      exact congrArg _ (checked_refused s _ tag (c := .uncalibrated) (i := 0) (by simp [firstRefusal, hv]))
    · have hv : (s.owing .run tag).wave.cal.valid = true := h1
      have hp : (s.owing .run tag).pot.molten = false := h2
      exact congrArg _ (checked_refused s _ tag (c := .wrongMode) (i := 0) (by simp [firstRefusal, hv, hp]))
    · have hv : (s.owing .run tag).wave.cal.valid = true := h1
      have hp : (s.owing .run tag).pot.molten = true := h2
      have ha : (s.owing .run tag).stopInForce = true := h3
      exact congrArg _ (checked_refused s _ tag (c := .alarm) (i := 0) (by simp [firstRefusal, hv, hp, ha]))
  case drained =>
    have hact : ∃ go, actRun (s.owing .run tag) = checked .run [(decide (s.modes.drain = .ready), (.wrongMode, 0)),
        (!s.stopInForce, (.alarm, 0))] go (s.owing .run tag) := by
      rcases hm with hm | ⟨hm, hret⟩
      · have hmode : (s.owing .run tag).modes.mode = .drain := hm
        exact ⟨_, by rw [actRun, hmode]; rfl⟩
      · have hmode : (s.owing .run tag).modes.mode = .hold := hm
        exact ⟨_, by rw [actRun, hmode, if_pos (show (s.owing .run tag).modes.ret = .drain from hret)]; rfl⟩
    obtain ⟨go, hgo⟩ := hact
    rw [exec_run tag s hs (by rcases hm with hm | ⟨hm, -⟩ <;> simp [hm]), hgo]
    refine ⟨fun h1 => ?_, fun h1 h2 => ?_⟩
    · exact congrArg _ (checked_refused s _ tag (c := .wrongMode) (i := 0) (by simp [firstRefusal, h1]))
    · exact congrArg _ (checked_refused s _ tag (c := .alarm) (i := 0) (by simp [firstRefusal, h1, h2]))
  case safe =>
    rw [exec_clearSafe tag s hs hm]
    refine ⟨fun h1 => ?_, fun h1 h2 => ?_⟩
    · have hr : (s.owing .clearSafe tag).tracker.records.isEmpty = false :=
        List.isEmpty_eq_false_iff.mpr h1
      exact congrArg _ (checked_refused s _ tag (c := .busy) (i := 0) (by simp only [firstRefusal, hr]; rfl))
    · have hr : (s.owing .clearSafe tag).tracker.records.isEmpty = true := List.isEmpty_iff.mpr h1
      have ha : (s.owing .clearSafe tag).safeInForce = true := h2
      exact congrArg _ (checked_refused s _ tag (c := .alarm) (i := 0) (by simp only [firstRefusal, hr, ha]; rfl))

/-! ### Taken requests -/

/-- A request whose effects leave the link alone is answered OK with its fields as the effects leave them. -/
theorem exec_taken {c : Instr} {k : RequestKind} {tag : Byte} {s g : State} {fields : State → Bytes} {Q : State → Prop}
    (he : exec c s = .next (accept fields g)) (hf : g.far = (s.owing k tag).far)
    (hfields : ∀ payload, fields (g.replying k tag payload) = fields g) (hQ : Q (g.replying k tag (0#8 :: fields g))) :
    ∃ t, exec c s = .next t ∧ Answered s t k tag (0#8 :: fields t) ∧ Q t := by
  obtain ⟨heq, hans⟩ := answer_far (codeByte .ok ++ fields g) hf
  refine ⟨_, he.trans (congrArg Host.Outcome.next heq), ?_, hQ⟩
  rw [hfields]
  exact hans

/-- A request without effects is answered OK with its fields. -/
theorem exec_answered {c : Instr} {k : RequestKind} {tag : Byte} {s u : State} {fields : State → Bytes}
    (he : exec c s = .next (accept fields (u.owing k tag))) :
    exec c s = .next (u.replying k tag (0#8 :: fields (u.owing k tag))) :=
  he.trans (congrArg Host.Outcome.next (accept_owing fields u k tag))

theorem exec_standby (tag : Byte) (s : State) (hs : s.hears)
    (hm : s.modes.mode ≠ .idle ∧ s.modes.mode ≠ .calibrating ∧ s.modes.mode ≠ .safe) :
    exec (.standby tag) s = .next (actStandby (s.owing .standby tag)) := by
  refine exec_act tag false .standby s hs ?_ rfl
  show (s.modes.mode != .idle && s.modes.mode != .calibrating && s.modes.mode != .safe) = true
  simpa [and_assoc] using hm

theorem exec_shutdown (tag : Byte) (s : State) (hs : s.hears) (hm : s.modes.mode ≠ .calibrating ∧ s.modes.mode ≠ .safe) :
    exec (.shutdown tag) s = .next (actShutdown (s.owing .shutdown tag)) := by
  refine exec_act tag false .shutdown s hs ?_ rfl
  show (s.modes.mode != .calibrating && s.modes.mode != .safe) = true
  simpa using hm

theorem exec_stop (tag : Byte) (s : State) (hs : s.hears)
    (hm : s.modes.mode = .run ∨ s.modes.mode = .drain ∨ s.modes.mode = .hold) :
    exec (.stop tag) s = .next (actStop (s.owing .stop tag)) := by
  refine exec_act tag false .stop s hs ?_ rfl
  show (s.modes.mode == .run || s.modes.mode == .drain || s.modes.mode == .hold) = true
  rcases hm with h | h | h <;> rw [h] <;> rfl

/-! ### The resting modes (R3, R14, R20, R24) -/

/-- IDLE's marks. -/
theorem setMode_idle_zone (s : State) (k : ZoneId) :
    ((setMode .idle s).zone k).started = false ∧ ((setMode .idle s).zone k).warmFail = false
      ∧ ((setMode .idle s).zone k).trim = 0 ∧ ((setMode .idle s).zone k).grant = 0 :=
  ⟨setMode_started .idle s k, setMode_warmFail .idle s k, setMode_trim .idle s k, (setMode_atRest (.inl rfl) s).2 k⟩

/-- Settles O20: each request is one entry into a mode. -/
theorem restingRequests : Obligations.RestingRequests := by
  intro tag s hs
  refine ⟨fun hm => ?standby, fun hm => ?shutdown, fun hm hr ha => ?clear⟩
  case standby =>
    have he : exec (.standby tag) s = .next (accept State.modeFields (setMode .standby (s.owing .standby tag))) := by
      rw [exec_standby tag s hs (by rcases hm with h | h <;> simp [h]), actStandby]
      rcases hm with h | h <;> simp only [show (s.owing .standby tag).modes.mode = s.modes.mode from rfl, h]
    refine exec_taken he (setMode_far _ _) (fun _ => rfl) ⟨setMode_modes _ _, fun k => ⟨?_, ?_, ?_⟩, ?_, ?_⟩
    · exact setMode_started .standby (s.owing .standby tag) k
    · exact setMode_warmFail .standby (s.owing .standby tag) k
    · exact setMode_trim .standby (s.owing .standby tag) k
    · exact setMode_conveyorRun .standby (s.owing .standby tag)
    · exact setMode_output_off (new := .standby) (s.owing .standby tag) rfl (by decide)
  case shutdown =>
    have he : exec (.shutdown tag) s = .next (accept State.modeFields (setMode .idle (s.owing .shutdown tag))) := by
      rw [exec_shutdown tag s hs (by rcases hm with h | h | h <;> simp [h]), actShutdown]
      rcases hm with h | h | h <;> simp only [show (s.owing .shutdown tag).modes.mode = s.modes.mode from rfl, h]
    refine exec_taken he (setMode_far _ _) (fun _ => rfl) ⟨setMode_modes _ _, setMode_idle_zone _, ?_, ?_, ?_⟩
    · exact (setMode_atRest (.inl rfl) (s.owing .shutdown tag)).1
    · exact setMode_conveyorRun .idle (s.owing .shutdown tag)
    · exact setMode_output_off (new := .idle) (s.owing .shutdown tag) rfl (by decide)
  case clear =>
    have he : exec (.clearSafe tag) s = .next (accept State.modeFields (setMode .idle (s.owing .clearSafe tag))) := by
      have hempty : (s.owing .clearSafe tag).tracker.records.isEmpty = true := List.isEmpty_iff.mpr hr
      have hsafe : (s.owing .clearSafe tag).safeInForce = false := ha
      rw [exec_clearSafe tag s hs hm, actClearSafe, checked_taken (by simp only [firstRefusal, hempty, hsafe]; rfl)]
    refine exec_taken he (setMode_far _ _) (fun _ => rfl) ⟨setMode_modes _ _, fun k => ?_⟩
    exact ⟨setMode_started .idle (s.owing .clearSafe tag) k, setMode_trim .idle (s.owing .clearSafe tag) k⟩

end Sys2Proof.Machine
end

section
/-! PROOFS. Drains, holds and forced standby (R15 to R20, R22, R25, R131 to R133, R151). -/

namespace Sys2Proof.Machine

/-! ### A drain and its completion (R16) -/

section
variable {s : State} (t : DrainTarget)

theorem toDrain_records_nil : (toDrain t s).tracker.records = [] ↔ s.tracker.records = [] := setMode_records_nil _ _

theorem toDrain_extr : (toDrain t s).extr = s.extr.fanned true s.configured := setMode_extr .drain _

theorem toDrain_conveyorRun : (toDrain t s).tracker.conveyorRun = true := setMode_conveyorRun .drain _

theorem toDrain_molten : (toDrain t s).pot.molten = s.pot.molten := setMode_molten .drain _

/-- The Mode Controller's items in DRAIN to a target. -/
theorem toDrain_items : (toDrain t s).modes
    = { s.modes with mode := .drain, drain := t, ret := .none, holdTimer := 0, warm := none } := setMode_modes .drain _

theorem drainCompletes_of_boards (hr : s.tracker.records ≠ []) : drainCompletes s = s := by simp [drainCompletes, hr]

theorem drainCompletes_of_empty (hm : s.modes.mode = .drain) (hr : s.tracker.records = []) :
    drainCompletes s = setMode s.modes.drain.mode s := by simp [drainCompletes, hm, hr]

/-- With no board in transit the drain that is entered completes into its target. -/
theorem drainCompletes_toDrain (hr : s.tracker.records = []) : drainCompletes (toDrain t s) = setMode t.mode (toDrain t s) := by
  have hm : (toDrain t s).modes.mode = .drain := by rw [toDrain_items]
  rw [drainCompletes_of_empty hm ((toDrain_records_nil t).mpr hr), toDrain_items]

theorem drainCompletes_toDrain_of_boards (hr : s.tracker.records ≠ []) : drainCompletes (toDrain t s) = toDrain t s :=
  drainCompletes_of_boards (fun h => hr ((toDrain_records_nil t).mp h))

/-- The completed drain as the statements have it. -/
theorem drainedTo_toDrain : DrainedTo t s (setMode t.mode (toDrain t s)) where
  modes := by
    rw [setMode_modes, toDrain_items, toDrain_molten]
    cases t <;> rfl
  conveyor := by
    rw [setMode_conveyorRun, setMode_modes]
    cases t <;> rfl
  gate := setMode_gate_closed _ (by cases t <;> simp [DrainTarget.mode])
  wave := setMode_output_off _ (by cases t <;> rfl) (by cases t <;> decide)

/-- Forced standby that is not due stays so through an entry into a mode. -/
theorem setMode_not_due (new : Mode) (hd : s.extr.forcedDue = false) : (setMode new s).extr.forcedDue = false := by
  rw [setMode_extr]
  exact fanned_not_due hd

theorem toDrain_not_due (hd : s.extr.forcedDue = false) : (toDrain t s).extr.forcedDue = false := by
  rw [toDrain_extr]
  exact fanned_not_due hd

theorem enterDrain_of_boards (hd : s.extr.forcedDue = false) (hr : s.tracker.records ≠ []) : enterDrain t s = toDrain t s := by
  rw [enterDrain, drainTest, drainCompletes_toDrain_of_boards t hr, forcedTest_of_not_due _ (toDrain_not_due t hd)]

theorem enterDrain_of_empty (hd : s.extr.forcedDue = false) (hr : s.tracker.records = []) :
    enterDrain t s = setMode t.mode (toDrain t s) := by
  rw [enterDrain, drainTest, drainCompletes_toDrain t hr,
    forcedTest_of_not_due _ (setMode_not_due _ (toDrain_not_due t hd))]

theorem enterRun_of_not_due (hd : s.extr.forcedDue = false) : enterRun s = setMode .run s :=
  forcedTest_of_not_due _ (setMode_not_due .run hd)

end

/-- A drain that completes with the reply owed completes without. -/
theorem DrainedTo.of_owing {t : DrainTarget} {s g : State} {k : RequestKind} {tag : Byte} (h : DrainedTo t (s.owing k tag) g)
    (payload : Bytes) : DrainedTo t s (g.replying k tag payload) := ⟨h.modes, h.conveyor, h.gate, h.wave⟩

/-! ### STOP, STANDBY and SHUTDOWN (R16, R18) -/

/-- A request that enters DRAIN from RUN. -/
theorem exec_drains {c : Instr} {k : RequestKind} {tag : Byte} {s : State} (target : DrainTarget)
    (he : exec c s = .next (accept State.modeFields (enterDrain target (s.owing k tag)))) (hd : s.extr.forcedDue = false) :
    ∃ t, exec c s = .next t ∧ Answered s t k tag (0#8 :: t.modeFields)
      ∧ (s.tracker.records ≠ [] →
        t.modes = { s.modes with mode := .drain, drain := target, ret := .none, holdTimer := 0, warm := none })
      ∧ (s.tracker.records = [] → DrainedTo target s t) := by
  refine exec_taken he (enterDrain_far _ _) (fun _ => rfl) ⟨fun hr => ?_, fun hr => ?_⟩
  · exact (congrArg State.modes (enterDrain_of_boards (s := s.owing k tag) target hd hr)).trans (toDrain_items target)
  · refine DrainedTo.of_owing ?_ _
    rw [enterDrain_of_empty (s := s.owing k tag) target hd hr]
    exact drainedTo_toDrain target

/-- Settles O19: from RUN by the drain entered, in DRAIN and HOLD by the items set. -/
theorem drainRequestsTaken : Obligations.DrainRequestsTaken := by
  refine ⟨fun tag s hs hm hd => ⟨?_, ?_, ?_⟩, fun tag s hs => ⟨fun hm => ⟨?_, ?_, ?_⟩, fun hm => ⟨?_, ?_, ?_⟩, fun hm => ?_, fun hm => ?_⟩⟩
  · refine exec_drains .ready ?_ hd
    rw [exec_stop tag s hs (.inl hm), actStop]
    simp only [show (s.owing .stop tag).modes.mode = s.modes.mode from rfl, hm]
  · refine exec_drains .standby ?_ hd
    rw [exec_standby tag s hs (by simp [hm]), actStandby]
    simp only [show (s.owing .standby tag).modes.mode = s.modes.mode from rfl, hm]
  · refine exec_drains .idle ?_ hd
    rw [exec_shutdown tag s hs (by simp [hm]), actShutdown]
    simp only [show (s.owing .shutdown tag).modes.mode = s.modes.mode from rfl, hm]
  · refine exec_answered (fields := State.modeFields) ?_
    rw [exec_stop tag s hs (.inr (.inl hm)), actStop, show (s.owing .stop tag).modes.mode = .drain from hm]
  · refine exec_answered (fields := State.modeFields) ?_
    rw [exec_standby tag s hs (by simp [hm]), actStandby, show (s.owing .standby tag).modes.mode = .drain from hm]
    rfl
  · refine exec_answered (fields := State.modeFields) ?_
    rw [exec_shutdown tag s hs (by simp [hm]), actShutdown, show (s.owing .shutdown tag).modes.mode = .drain from hm]
    rfl
  · refine exec_answered (fields := State.modeFields) ?_
    rw [exec_stop tag s hs (.inr (.inr hm)), actStop, show (s.owing .stop tag).modes.mode = .hold from hm]
    by_cases hret : s.modes.ret = .drain
    · rw [if_pos hret]
      exact congrArg (fun u => Host.Outcome.next (accept State.modeFields u)) (if_pos hret)
    · rw [if_neg hret]
      exact congrArg (fun u => Host.Outcome.next (accept State.modeFields u)) (if_neg hret)
  · refine exec_answered (fields := State.modeFields) ?_
    rw [exec_standby tag s hs (by simp [hm]), actStandby, show (s.owing .standby tag).modes.mode = .hold from hm]
    rfl
  · refine exec_answered (fields := State.modeFields) ?_
    rw [exec_shutdown tag s hs (by simp [hm]), actShutdown, show (s.owing .shutdown tag).modes.mode = .hold from hm]
    rfl
  · refine exec_answered (fields := State.modeFields) ?_
    rw [exec_standby tag s hs (by simp [hm]), actStandby, show (s.owing .standby tag).modes.mode = .standby from hm]
  · refine exec_answered (fields := State.modeFields) ?_
    rw [exec_shutdown tag s hs (by simp [hm]), actShutdown, show (s.owing .shutdown tag).modes.mode = .idle from hm]

/-! ### The admission test at a mode change (R36) -/

/-- No board is admitted outside RUN. -/
theorem admissionTest_of_not_run {s : State} (h : s.modes.mode ≠ .run) : admissionTest s = s := by
  simp [admissionTest, State.mayAdmit, h]

theorem admissionTest_conveyorRun (s : State) : (admissionTest s).tracker.conveyorRun = s.tracker.conveyorRun := by
  unfold admissionTest openGate
  split
  · split
    · obtain ⟨m, hm⟩ := compositionTest_eq (takeBuffer _ _ _ _)
      rw [hm]
      rfl
    · rfl
  · rfl

@[simp] theorem admissionTest_modes (s : State) : (admissionTest s).modes = s.modes := congrArg Quiet.modes (admissionTest_quiet s)

theorem admissionTest_wave (s : State) : (admissionTest s).wave = s.wave := by
  obtain ⟨t, m, h⟩ := admissionTest_eq s
  rw [h]

theorem admissionTest_far (s : State) : (admissionTest s).far = s.far := far_of_quiet (admissionTest_quiet s)

/-! ### RUN (R15, R132, R133) -/

theorem waveTarget_of_on {s : State} (hp : s.pot.molten = true) (hm : s.modes.mode.waveOn = true) :
    s.waveTarget = s.wave.computed.getD 0 := by simp [State.waveTarget, hp, hm]

/-- The computed drive at a level, on the output while the wave is on (R132). -/
theorem computeDrive_wave (level : Int) (s : State) (hp : s.pot.molten = true) (hm : s.modes.mode.waveOn = true) :
    (computeDrive level s).wave =
      (let d := clampDrive s.minDrive (rawDrive (s.wave.cal.pair.getD (0, 0)).1 (s.wave.cal.pair.getD (0, 0)).2
         (s.activeField (·.waveHeight)) (s.param 76) (s.param 77) level)
       { s.wave with computed := some d.1, side := d.2, output := d.1 }) := by
  have hmolten : ∀ side, (judgeSide side s).pot.molten = true := fun side => (judgeSide_molten side s).trans hp
  have hmode : ∀ side, (judgeSide side s).modes.mode.waveOn = true := fun side => by rw [judgeSide_mode, hm]
  unfold computeDrive
  simp only [waveSync_wave, setWave_wave, judgeSide_wave]
  rw [waveTarget_of_on (by simpa using hmolten _) (by simpa using hmode _)]
  rfl

theorem param_congr {s t : State} (h : t.store = s.store) (i : Nat) : t.param i = s.param i := by
  unfold State.param State.config?
  rw [h]

/-- RUN entered from READY turns the wave on at its computed drive. -/
theorem setMode_run_wave {s : State} (hm : s.modes.mode = .ready) (hp : s.pot.molten = true) :
    (setMode .run s).wave =
      (let d := clampDrive s.minDrive (rawDrive (s.wave.cal.pair.getD (0, 0)).1 (s.wave.cal.pair.getD (0, 0)).2
         (s.activeField (·.waveHeight)) (s.param 76) (s.param 77) s.turnOnLevel)
       { s.wave with computed := some d.1, side := d.2, output := d.1 }) := by
  let u := modeJudged .run s
  have hquiet : u.quiet = { s.quiet with modes := s.modes.enter .run s.pot.molten } := modeJudged_quiet .run s
  have hstore : u.store = s.store := congrArg Quiet.store hquiet
  have hpot : u.pot = s.pot := by simp [u, hm]
  have hwave : u.wave = s.wave := modeJudged_wave .run s
  have hmodes : u.modes = s.modes.enter .run s.pot.molten := modeJudged_modes .run s
  have hon : waveAtMode .ready .run u = computeDrive u.turnOnLevel u := by simp [waveAtMode, Mode.waveOn]
  have hlevel : u.turnOnLevel = s.turnOnLevel := by
    unfold State.turnOnLevel
    rw [hpot, hwave]
  have hfield : u.activeField (·.waveHeight) = s.activeField (·.waveHeight) :=
    activeField_congr (by rw [hmodes, enter_activeSet]) hstore (congrArg Quiet.freeIndex hquiet) _
  have hmin : u.minDrive = s.minDrive := param_congr hstore _
  rw [setMode_wave, hm]
  show (waveAtMode .ready .run u).wave = _
  rw [hon, computeDrive_wave _ u (by rw [hpot, hp]) (by rw [hmodes]; rfl), hwave, hlevel, hfield, hmin, param_congr hstore,
    param_congr hstore]

/-- Settles O18: RUN entered, or the items of a hold set, or nothing. -/
theorem runTaken : Obligations.RunTaken := by
  intro tag s hs hd
  refine ⟨fun hm hv hp ha => ?ready, fun hm ht ha => ?drain, fun hm hret ht ha => ?hold, fun hm => ?stays⟩
  case ready =>
    have he : exec (.run tag) s = .next (accept State.modeFields (admissionTest (enterRun (s.owing .run tag)))) := by
      have hv' : (s.owing .run tag).wave.cal.valid = true := hv
      have hp' : (s.owing .run tag).pot.molten = true := hp
      have ha' : (s.owing .run tag).stopInForce = false := ha
      rw [exec_run tag s hs (.inl hm), actRun]
      simp only [show (s.owing .run tag).modes.mode = s.modes.mode from rfl, hm]
      exact congrArg _ (checked_taken (by simp [firstRefusal, hv', hp', ha']))
    have hrun : enterRun (s.owing .run tag) = setMode .run (s.owing .run tag) := enterRun_of_not_due hd
    rw [hrun] at he
    have hwave := (admissionTest_wave (setMode .run (s.owing .run tag))).trans (setMode_run_wave (s := s.owing .run tag) hm hp)
    refine exec_taken he ((admissionTest_far _).trans (setMode_far _ _)) (fun _ => rfl) ⟨?_, ?_, ?_, ?_, ?_⟩
    · exact (admissionTest_modes _).trans (setMode_modes _ _)
    · exact (admissionTest_conveyorRun _).trans (setMode_conveyorRun .run _)
    · exact congrArg Wave.computed hwave
    · exact congrArg Wave.output hwave
    · exact congrArg Wave.side hwave
  case drain =>
    have he : exec (.run tag) s = .next (accept State.modeFields (admissionTest (enterRun (s.owing .run tag)))) := by
      have ht' : (s.owing .run tag).modes.drain = .ready := ht
      have ha' : (s.owing .run tag).stopInForce = false := ha
      rw [exec_run tag s hs (.inr (.inr (.inl hm))), actRun]
      simp only [show (s.owing .run tag).modes.mode = s.modes.mode from rfl, hm]
      exact congrArg _ (checked_taken (by simp [firstRefusal, ht', ha']))
    have hrun : enterRun (s.owing .run tag) = setMode .run (s.owing .run tag) := enterRun_of_not_due hd
    rw [hrun] at he
    refine exec_taken he ((admissionTest_far _).trans (setMode_far _ _)) (fun _ => rfl) ⟨?_, ?_⟩
    · exact (admissionTest_modes _).trans (setMode_modes _ _)
    · exact (admissionTest_conveyorRun _).trans (setMode_conveyorRun .run _)
  case hold =>
    have ht' : (s.owing .run tag).modes.drain = .ready := ht
    have ha' : (s.owing .run tag).stopInForce = false := ha
    refine exec_answered (fields := State.modeFields) ?_
    rw [exec_run tag s hs (.inr (.inr (.inr hm))), actRun]
    rw [show (s.owing .run tag).modes.mode = .hold from hm]
    dsimp only
    rw [if_pos (show (s.owing .run tag).modes.ret = .drain from hret)]
    exact congrArg _ (checked_taken (by simp [firstRefusal, ht', ha']))
  case stays =>
    refine exec_answered (fields := State.modeFields) ?_
    rcases hm with hm | ⟨hm, hret⟩
    · rw [exec_run tag s hs (.inr (.inl hm)), actRun]
      simp only [show (s.owing .run tag).modes.mode = s.modes.mode from rfl, hm]
    · rw [exec_run tag s hs (.inr (.inr (.inr hm))), actRun]
      simp only [show (s.owing .run tag).modes.mode = s.modes.mode from rfl, hm]
      rw [if_neg (show (s.owing .run tag).modes.ret ≠ .drain from hret)]

end Sys2Proof.Machine
end

section
/-! PROOFS. HOLD and RESUME, the STOP severity, the hold limit and the grace timer (R17 to R19, R22, R25, R151). -/

namespace Sys2Proof.Machine

/-! ### HOLD and RESUME (R17, R18) -/

theorem exec_hold (tag : Byte) (s : State) (hs : s.hears)
    (hm : s.modes.mode = .run ∨ s.modes.mode = .drain ∨ s.modes.mode = .hold) :
    exec (.hold tag) s = .next (actHold (s.owing .hold tag)) := by
  refine exec_act tag false .hold s hs ?_ rfl
  show (s.modes.mode == .run || s.modes.mode == .drain || s.modes.mode == .hold) = true
  rcases hm with h | h | h <;> rw [h] <;> rfl

theorem exec_resume (tag : Byte) (s : State) (hs : s.hears)
    (hm : s.modes.mode = .run ∨ s.modes.mode = .drain ∨ s.modes.mode = .hold) :
    exec (.resume tag) s = .next (actResume (s.owing .resume tag)) := by
  refine exec_act tag false .resume s hs ?_ rfl
  show (s.modes.mode == .run || s.modes.mode == .drain || s.modes.mode == .hold) = true
  rcases hm with h | h | h <;> rw [h] <;> rfl

/-- HOLD in RUN and DRAIN (R17). -/
theorem actHold_moving {s : State} (hm : s.modes.mode = .run ∨ s.modes.mode = .drain) :
    actHold s = accept State.holdFields (if s.modes.holdPending then s
      else if s.waveOccupied then s.setModes { s.modes with holdPending := true } else enterHold s) := by
  unfold actHold
  rcases hm with h | h <;> rw [h]

theorem actHold_held {s : State} (hm : s.modes.mode = .hold) : actHold s = accept State.holdFields s := by
  unfold actHold
  rw [hm]

theorem actResume_moving {s : State} (hm : s.modes.mode = .run ∨ s.modes.mode = .drain) :
    actResume s = accept State.holdFields (admissionTest (s.setModes { s.modes with holdPending := false })) := by
  unfold actResume
  rcases hm with h | h <;> rw [h]

theorem actResume_held {s : State} (hm : s.modes.mode = .hold) : actResume s
    = checked .resume [(!s.spray.running.isPurge, (.busy, 0))]
        (fun s => accept State.holdFields (admissionTest (resumeHold s))) s := by
  unfold actResume
  rw [hm]

theorem enterHold_of_not_due {s : State} (hd : s.extr.forcedDue = false) :
    enterHold s = setMode .hold (s.setModes { s.modes with ret := if s.modes.mode = .drain then .drain else .run }) :=
  forcedTest_of_not_due _ (setMode_not_due .hold hd)

/-- Settles O21: the hold entered, pending or kept, and the hold ended toward RUN or DRAIN. -/
theorem holdAndResumeTaken : Obligations.HoldAndResumeTaken := by
  refine ⟨fun tag s hs => ⟨fun hm hp ho hd => ?entered, fun hm hp ho => ?pending, fun hm => ?kept⟩,
    fun tag s hs => ⟨fun hm => ?cancelled, fun hm hr => ?busy, fun hm hr hd => ?resumed⟩⟩
  case entered =>
    let s' := s.owing .hold tag
    have he : exec (.hold tag) s = .next (accept State.holdFields (enterHold s')) := by
      rw [exec_hold tag s hs (by rcases hm with h | h <;> simp [h]), actHold_moving (s := s.owing .hold tag) hm,
        if_neg (show ¬ s'.modes.holdPending = true by simp [s', State.owing, hp]),
        if_neg (show ¬ s'.waveOccupied = true from fun h => by rw [show s'.waveOccupied = s.waveOccupied from rfl, ho] at h; cases h)]
    rw [show enterHold s' = _ from enterHold_of_not_due (s := s') hd] at he
    exact exec_taken he (setMode_far _ _) (fun _ => rfl) ⟨setMode_modes _ _, setMode_conveyorRun .hold _⟩
  case pending =>
    refine exec_answered (fields := State.holdFields) (u := s.setModes { s.modes with holdPending := true }) ?_
    rw [exec_hold tag s hs (by rcases hm with h | h <;> simp [h]), actHold_moving (s := s.owing .hold tag) hm,
      if_neg (show ¬ (s.owing .hold tag).modes.holdPending = true by simp [State.owing, hp]),
      if_pos (show (s.owing .hold tag).waveOccupied = true from ho)]
    rfl
  case kept =>
    refine exec_answered (fields := State.holdFields) ?_
    rcases hm with hm | ⟨hm, hp⟩
    · rw [exec_hold tag s hs (by simp [hm]), actHold_held (s := s.owing .hold tag) hm]
    · rw [exec_hold tag s hs (by rcases hm with h | h <;> simp [h]), actHold_moving (s := s.owing .hold tag) hm,
        if_pos (show (s.owing .hold tag).modes.holdPending = true from hp)]
  case cancelled =>
    refine exec_answered (fields := State.holdFields) (u := admissionTest (s.setModes { s.modes with holdPending := false })) ?_
    rw [exec_resume tag s hs (by rcases hm with h | h <;> simp [h]), actResume_moving (s := s.owing .resume tag) hm, ← admissionTest_owing]
    rfl
  case busy =>
    have hpurge : (s.owing .resume tag).spray.running.isPurge = true := hr
    rw [exec_resume tag s hs (by simp [hm]), actResume_held (s := s.owing .resume tag) hm]
    exact congrArg _ (checked_refused s _ tag (c := .busy) (i := 0) (by simp [firstRefusal, hpurge]))
  case resumed =>
    let s' := s.owing .resume tag
    have he : exec (.resume tag) s = .next (accept State.holdFields (admissionTest (resumeHold s'))) := by
      have hpurge : (s.owing .resume tag).spray.running.isPurge = false := hr
      rw [exec_resume tag s hs (by simp [hm]), actResume_held (s := s.owing .resume tag) hm, checked_taken (by simp [firstRefusal, hpurge])]
    have hfar : (admissionTest (resumeHold s')).far = s'.far := by
      rw [admissionTest_far]
      unfold resumeHold
      split <;> simp
    refine exec_taken he hfar (fun _ => rfl) ⟨fun hret => ?_, fun hret hb => ?_, fun hret hb => ?_⟩
    · have hrun : resumeHold s' = setMode .run s' :=
        (if_neg (show ¬ s'.modes.ret = .drain from hret)).trans (enterRun_of_not_due (s := s') hd)
      show (admissionTest (resumeHold s')).tracker.conveyorRun = true ∧ (admissionTest (resumeHold s')).modes = _
      rw [hrun, admissionTest_conveyorRun, admissionTest_modes]
      exact ⟨setMode_conveyorRun .run _, setMode_modes _ _⟩
    · have hdrain : resumeHold s' = toDrain s.modes.drain s' :=
        (if_pos (show s'.modes.ret = .drain from hret)).trans (enterDrain_of_boards (s := s') _ hd hb)
      show (admissionTest (resumeHold s')).tracker.conveyorRun = true ∧ (admissionTest (resumeHold s')).modes = _
      rw [hdrain, admissionTest_conveyorRun, admissionTest_modes]
      exact ⟨toDrain_conveyorRun _, toDrain_items _⟩
    · have hdrain : resumeHold s' = setMode s.modes.drain.mode (toDrain s.modes.drain s') :=
        (if_pos (show s'.modes.ret = .drain from hret)).trans (enterDrain_of_empty (s := s') _ hd hb)
      have hmode : (setMode s.modes.drain.mode (toDrain s.modes.drain s')).modes.mode ≠ .run := by
        rw [setMode_modes, enter_mode]
        cases s.modes.drain <;> decide
      refine DrainedTo.of_owing (s := s) ?_ _
      show DrainedTo s.modes.drain s' (admissionTest (resumeHold s'))
      rw [hdrain, admissionTest_of_not_run hmode]
      exact drainedTo_toDrain _

/-! ### The STOP severity (R22) -/

theorem react_stop_of_not_run {s : State} (h : s.modes.mode ≠ .run) : react .stop s = s := by simp [react, h]

theorem react_stop_of_run {s : State} (h : s.modes.mode = .run) : react .stop s = enterDrain .ready s := by simp [react, h]

/-- Settles O23: what the severity does, by the mode and by whether boards are in transit. -/
theorem stopSeverityDrainsRunAlone : Obligations.StopSeverityDrainsRunAlone := by
  intro k s hk hc hd
  have hraise : raise k s = react .stop (occurrence k .active s) := by rw [raise_of_absent hc, hk]
  have hoccur : occur k s = react .stop (occurrence k .latched s) := by rw [occur, hk]; rfl
  rw [hraise, hoccur]
  have hempty : ∀ st, s.modes.mode = .run → s.tracker.records = [] →
      (react .stop (occurrence k st s)).modes.mode = .ready := fun st hm hr => by
    rw [react_stop_of_run (s := occurrence k st s) hm, enterDrain_of_empty (s := occurrence k st s) _ hd hr, setMode_modes]
    rfl
  have hboards : ∀ st, s.modes.mode = .run → s.tracker.records ≠ [] → (react .stop (occurrence k st s)).modes
      = { s.modes with mode := .drain, drain := .ready, ret := .none, holdTimer := 0, warm := none } := fun st hm hr => by
    rw [react_stop_of_run (s := occurrence k st s) hm, enterDrain_of_boards (s := occurrence k st s) _ hd hr]
    exact toDrain_items (s := occurrence k st s) .ready
  refine ⟨fun hm => ⟨?_, ?_⟩, fun hm hr => ⟨hboards _ hm hr, hboards _ hm hr⟩, fun hm hr => ⟨hempty _ hm hr, hempty _ hm hr⟩⟩
  · rw [react_stop_of_not_run (s := occurrence k .active s) hm]
    rfl
  · rw [react_stop_of_not_run (s := occurrence k .latched s) hm]
    rfl

/-! ### The hold limit (R19) -/

theorem sameOutside_of_far {s t : State} (h : t.far = s.far) : SameOutside s t :=
  ⟨⟨congrArg Far.scan h, congrArg Far.store h, congrArg Far.uptime h, congrArg Far.freeIndex h, congrArg Far.pending h⟩,
    congrArg Far.link h, congrArg Far.reports h⟩

/-- A drain from HOLD with the fan running: of the entry's effects the wave output, the conveyor and the loops are left. -/
theorem setMode_drain_of_hold {s : State} (hm : s.modes.mode = .hold) (hf : s.extr.fan = true) :
    setMode .drain s = afterLoops (conveyorSync (waveSync (s.setModes (s.modes.enter .drain s.pot.molten)))) := by
  have hfan : fanSync (s.setModes (s.modes.enter .drain s.pot.molten)) = s.setModes (s.modes.enter .drain s.pot.molten) :=
    fanSync_of_running _ (by simp) hf
  have hwave : ∀ u, waveAtMode .hold .drain u = waveSync u := fun u => by simp [waveAtMode, Mode.waveOn]
  have hsupply : ∀ u, supplyAtMode .hold .drain u = u := fun u => supplyAtMode_of_heated u (by decide) (by decide)
  simp only [setMode, hm, hwave, hsupply, entryMarks, sprayAtMode, trackAtMode]
  rw [if_neg (by decide), if_neg (by decide), hfan]

@[simp] theorem conveyorSync_records (s : State) : (conveyorSync s).tracker.records = s.tracker.records := by
  unfold conveyorSync
  repeat' split
  all_goals rfl

/-- What a record's own items other than the wave hold, the wave output leaves. -/
theorem waveSync_records_map {α : Type} {f : Record → α} (hf : ∀ out r, f (Record.takeDrive out r) = f r) (s : State) :
    (waveSync s).tracker.records.map f = s.tracker.records.map f := by
  unfold waveSync driveWave
  split
  · rfl
  · simp [mapRecords, Function.comp_def, hf]

theorem waveSync_queue (s : State) : (waveSync s).tracker.queue = s.tracker.queue :=
  congrArg (fun c : Core => c.tracker.queue) (waveSync_core s)

/-- The drain that follows a hold keeps the tags, the stages and the exceptions of the records. -/
theorem toDrain_of_hold_records {s : State} (t : DrainTarget) (hm : s.modes.mode = .hold) (hf : s.extr.fan = true) :
    (toDrain t s).tracker.records.map (fun r => (r.tag, r.stage, r.exc))
      = s.tracker.records.map (fun r => (r.tag, r.stage, r.exc)) := by
  have hkept : ∀ out (r : Record), ((r.takeDrive out).tag, (r.takeDrive out).stage, (r.takeDrive out).exc) = (r.tag, r.stage, r.exc) :=
    fun out r => by unfold Record.takeDrive; split <;> rfl
  rw [toDrain, setMode_drain_of_hold (s := s.setModes { s.modes with drain := t }) hm hf, afterLoops_tracker, conveyorSync_records]
  exact waveSync_records_map hkept _

/-- The state in which the hold limit has marked every record. -/
def heldLong (s : State) : State := mapRecords (Record.except .heldLong) s

theorem holdLimitReached_held {s : State} (hm : s.modes.mode = .hold) : holdLimitReached s
    = enterDrain (if s.modes.ret = .drain then s.modes.drain else .ready) (heldLong s) := if_pos hm

theorem heldLong_records_nil (s : State) : (heldLong s).tracker.records = [] ↔ s.tracker.records = [] := List.map_eq_nil_iff

/-- Settles O25: the marks, then the drain. -/
theorem holdLimitDrains : Obligations.HoldLimitDrains := by
  intro s
  refine ⟨fun hm => ?none, fun hm hd hf => ⟨admissionTest (holdLimitReached s), rfl, ?_, fun hr => ?boards, fun hr => ?empty⟩⟩
  case none => exact congrArg (fun u => Host.Outcome.next (admissionTest u)) (if_neg hm)
  · refine sameOutside_of_far ?_
    rw [admissionTest_far, holdLimitReached_held hm, enterDrain_far]
    rfl
  all_goals
    rw [holdLimitReached_held hm]
    generalize (if s.modes.ret = .drain then s.modes.drain else DrainTarget.ready) = target
  case boards =>
    have hitems := toDrain_items (s := heldLong s) target
    rw [enterDrain_of_boards (s := heldLong s) target hd (mt (heldLong_records_nil s).mp hr),
      admissionTest_of_not_run (by rw [hitems]; exact nofun)]
    refine ⟨hitems, toDrain_conveyorRun target, setMode_queue _ _, ?_⟩
    rw [toDrain_of_hold_records (s := heldLong s) target hm hf]
    simp [heldLong, mapRecords, Function.comp_def, Record.except]
  case empty =>
    have hmode : (setMode target.mode (toDrain target (heldLong s))).modes.mode ≠ .run := by
      rw [setMode_modes, enter_mode]
      cases target <;> decide
    rw [enterDrain_of_empty (s := heldLong s) target hd ((heldLong_records_nil s).mpr hr), admissionTest_of_not_run hmode]
    obtain ⟨hmodes, hrun, hgate, hwave⟩ := drainedTo_toDrain (s := heldLong s) target
    exact ⟨hmodes, hrun, hgate, hwave⟩

/-! ### The grace timer (R25, R151) -/

/-- The state in which forced standby acts: the grace timer has stopped and nothing is due. -/
def graced (s : State) : State := s.setExtr { s.extr with grace := .expired s.graceTicks, forcedDue := false }

theorem graceExpires_running {s : State} {n : Nat} (h : s.extr.grace = .running n) : graceExpires s
    = forcedTest (s.setExtr { s.extr with grace := .expired s.graceTicks, forcedDue := true }) := by
  unfold graceExpires
  rw [h]

/-- In the modes in which forced standby acts, the expiry acts by the mode. -/
theorem graceExpires_forcible {s : State} {n : Nat} (h : s.extr.grace = .running n) (hm : s.modes.mode.forcible = true) :
    graceExpires s = forceStandby (graced s) := by
  rw [graceExpires_running h]
  exact if_pos hm

/-- In the others it stays due. -/
theorem graceExpires_not_forcible {s : State} {n : Nat} (h : s.extr.grace = .running n) (hm : s.modes.mode.forcible = false) :
    graceExpires s = s.setExtr { s.extr with grace := .expired s.graceTicks, forcedDue := true } := by
  rw [graceExpires_running h]
  exact if_neg (show ¬ s.modes.mode.forcible = true by simp [hm])

theorem forceStandby_ready {s : State} (h : s.modes.mode = .ready) : forceStandby s = setMode .standby s := by
  unfold forceStandby; rw [h]
theorem forceStandby_run {s : State} (h : s.modes.mode = .run) : forceStandby s = drainCompletes (toDrain .standby s) := by
  unfold forceStandby; rw [h]
theorem forceStandby_drain {s : State} (h : s.modes.mode = .drain) : forceStandby s
    = if s.modes.drain = .ready then s.setModes { s.modes with drain := .standby } else s := by
  unfold forceStandby; rw [h]
theorem forceStandby_hold {s : State} (h : s.modes.mode = .hold) : forceStandby s
    = drainCompletes (toDrain (if s.modes.drain = .idle then .idle else .standby) s) := by
  unfold forceStandby; rw [h]

/-- With the fan running, an entry into a mode other than IDLE leaves the extraction items. -/
theorem setMode_extr_of_running {new : Mode} {s : State} (hf : s.extr.fan = true) (hn : new ≠ .idle) :
    (setMode new s).extr = s.extr := by
  rw [setMode_extr, Mode.fanWanted_of_ne_idle hn, fanned_of_eq hf.symm]

theorem toDrain_extr_of_running {s : State} (t : DrainTarget) (hf : s.extr.fan = true) : (toDrain t s).extr = s.extr :=
  setMode_extr_of_running (s := s.setModes { s.modes with drain := t }) hf (by decide)

/-- The extraction items after a drain, completed or not, that does not end in IDLE. -/
theorem drainCompletes_toDrain_extr {s : State} {t : DrainTarget} (hf : s.extr.fan = true)
    (h : s.tracker.records ≠ [] ∨ t ≠ .idle) : (drainCompletes (toDrain t s)).extr = s.extr := by
  by_cases hr : s.tracker.records = []
  · have ht : t.mode ≠ .idle := by
      have hidle := h.resolve_left (fun hn => hn hr)
      cases t with
      | idle => exact absurd rfl hidle
      | _ => decide
    rw [drainCompletes_toDrain t hr, setMode_extr_of_running (by rw [toDrain_extr_of_running t hf, hf]) ht, toDrain_extr_of_running t hf]
  · rw [drainCompletes_toDrain_of_boards t hr, toDrain_extr_of_running t hf]

/-- The target that forced standby gives a drain from HOLD (R25). -/
def heldTarget (s : State) : DrainTarget := if s.modes.drain = .idle then .idle else .standby

/-- A drain that forced standby begins, while boards are in transit. -/
theorem forced_drain_of_boards {s : State} (target : DrainTarget) (hr : s.tracker.records ≠ []) :
    (drainCompletes (toDrain target (graced s))).modes
        = { s.modes with mode := .drain, drain := target, ret := .none, holdTimer := 0, warm := none }
      ∧ (drainCompletes (toDrain target (graced s))).tracker.conveyorRun = true := by
  rw [drainCompletes_toDrain_of_boards (s := graced s) target hr]
  exact ⟨toDrain_items (s := graced s) target, toDrain_conveyorRun target⟩

/-- A drain that forced standby begins, with no board in transit. -/
theorem forced_drain_of_empty {s : State} (target : DrainTarget) (hr : s.tracker.records = []) :
    DrainedTo target s (drainCompletes (toDrain target (graced s)))
      ∧ (drainCompletes (toDrain target (graced s))).extr.forcedDue = false := by
  rw [drainCompletes_toDrain (s := graced s) target hr]
  obtain ⟨hmodes, hrun, hgate, hwave⟩ := drainedTo_toDrain (s := graced s) target
  exact ⟨⟨hmodes, hrun, hgate, hwave⟩, setMode_not_due _ (toDrain_not_due (s := graced s) target rfl)⟩

/-- What the expiry leaves of the grace timer. -/
theorem graceExpires_grace {s : State} {n : Nat} (h : s.extr.grace = .running n) (hf : s.extr.fan = true)
    (hx : s.modes.mode ≠ .hold ∨ s.tracker.records ≠ [] ∨ s.modes.drain ≠ .idle) :
    (graceExpires s).extr.grace = .expired s.graceTicks := by
  cases hforce : s.modes.mode.forcible with
  | false => rw [graceExpires_not_forcible h hforce]; rfl
  | true =>
    rw [graceExpires_forcible h hforce]
    cases hm : s.modes.mode with
    | ready => rw [forceStandby_ready (s := graced s) hm, setMode_extr_of_running (s := graced s) hf (by decide)]; rfl
    | run =>
      rw [forceStandby_run (s := graced s) hm, drainCompletes_toDrain_extr (s := graced s) hf (.inr (by decide))]
      rfl
    | drain =>
      rw [forceStandby_drain (s := graced s) hm]
      split <;> rfl
    | hold =>
      have hidle : (graced s).tracker.records ≠ [] ∨ heldTarget s ≠ .idle := by
        rcases hx.resolve_left (fun hn => hn hm) with hr | hd
        · exact .inl hr
        · exact .inr (by rw [heldTarget, if_neg hd]; decide)
      rw [forceStandby_hold (s := graced s) hm]
      exact congrArg Extraction.grace (drainCompletes_toDrain_extr (s := graced s) (t := heldTarget s) hf hidle)
    | _ => rw [hm] at hforce; cases hforce

/-- Settles O26: by the mode, what forced standby enters. -/
theorem graceExpiryForcesStandby : Obligations.GraceExpiryForcesStandby := by
  refine fun s => ⟨fun hn => ?none, fun n hn hf => ⟨graceExpires s, rfl, sameOutside_of_far ?_, graceExpires_grace hn hf,
    fun hm => ?ready, fun hm hr => ?run, fun hm hr => ?runEmpty, fun hm => ?drain, fun hm hr => ?hold, fun hm hr => ?holdEmpty,
    fun hm => ?rest⟩⟩
  case none =>
    refine congrArg Host.Outcome.next ?_
    unfold graceExpires
    split
    next n h => exact absurd h (hn n)
    next => rfl
    next => rfl
  · rw [graceExpires_running hn, forcedTest_far, setExtr_far]
  case ready =>
    rw [graceExpires_forcible hn (by rw [hm]; rfl), forceStandby_ready (s := graced s) hm,
      setMode_extr_of_running (s := graced s) hf (by decide), setMode_modes]
    exact ⟨rfl, rfl⟩
  case run =>
    rw [graceExpires_forcible hn (by rw [hm]; rfl), forceStandby_run (s := graced s) hm]
    exact (forced_drain_of_boards .standby hr).1
  case runEmpty =>
    rw [graceExpires_forcible hn (by rw [hm]; rfl), forceStandby_run (s := graced s) hm]
    exact forced_drain_of_empty .standby hr
  case drain =>
    rw [graceExpires_forcible hn (by rw [hm]; rfl), forceStandby_drain (s := graced s) hm]
    by_cases hd : s.modes.drain = .ready
    · rw [if_pos hd, if_pos (show (graced s).modes.drain = .ready from hd)]
      rfl
    · rw [if_neg hd, if_neg (show ¬ (graced s).modes.drain = .ready from hd)]
      rfl
  case hold =>
    rw [graceExpires_forcible hn (by rw [hm]; rfl), forceStandby_hold (s := graced s) hm]
    exact (forced_drain_of_boards (heldTarget s) hr).symm
  case holdEmpty =>
    rw [graceExpires_forcible hn (by rw [hm]; rfl), forceStandby_hold (s := graced s) hm]
    exact forced_drain_of_empty (heldTarget s) hr
  case rest =>
    rw [graceExpires_not_forcible hn (by rcases hm with h | h | h | h | h <;> rw [h] <;> rfl)]
    exact ⟨rfl, rfl⟩

end Sys2Proof.Machine
end

section
/-! PROOFS. SELECT_SET and the start of a warm-up or a recovery (R2, R4 to R9, R13, R93, R184; log 9, log 28, log 36). -/

namespace Sys2Proof.Machine

/-! ### What a loop that is not active holds (R93) -/

section
variable (s : State)

@[simp] theorem afterLoops_modes : (afterLoops s).modes = s.modes := congrArg Quiet.modes (afterLoops_quiet s)

theorem afterLoops_heat : (afterLoops s).heat = (settleLoops s).heat := by
  obtain ⟨p, hp⟩ := afterLoops_eq_setPot s
  rw [hp]
  rfl

@[simp] theorem afterLoops_spray : (afterLoops s).spray = s.spray := by
  obtain ⟨p, hp⟩ := afterLoops_eq_setPot s
  rw [hp]; rfl

@[simp] theorem afterLoops_maps : (afterLoops s).maps = s.maps := by
  obtain ⟨p, hp⟩ := afterLoops_eq_setPot s
  rw [hp]; rfl

theorem settleLoops_zone (k : ZoneId) :
    (settleLoops s).zone k = if s.zoneActive k then s.zone k else (s.zone k).inactive := six_get_mapZones _ _ k

theorem afterLoops_zone (k : ZoneId) :
    (afterLoops s).zone k = if s.zoneActive k then s.zone k else (s.zone k).inactive := by
  show (afterLoops s).heat.zones.get k = _
  rw [afterLoops_heat]
  exact settleLoops_zone s k

@[simp] theorem afterLoops_zone_trim (k : ZoneId) : ((afterLoops s).zone k).trim = (s.zone k).trim := by
  rw [afterLoops_zone]; split <;> rfl

@[simp] theorem afterLoops_zone_warmFail (k : ZoneId) : ((afterLoops s).zone k).warmFail = (s.zone k).warmFail := by
  rw [afterLoops_zone]; split <;> rfl

@[simp] theorem afterLoops_potActive : (afterLoops s).potActive = s.potActive := by
  unfold State.potActive State.stage?
  rw [afterLoops_modes]

/-- A zone that is not started, or whose pot loop is not active, has no demand. -/
theorem afterLoops_demand {k : ZoneId} (h : ((afterLoops s).zone k).started = false ∨ (afterLoops s).potActive = false) :
    ((afterLoops s).zone k).demand = 0 := by
  have hinactive : s.zoneActive k = false := by
    rw [afterLoops_zone_started, afterLoops_potActive] at h
    rcases h with h | h <;> simp [State.zoneActive, h]
  rw [afterLoops_zone, if_neg (by simp [hinactive])]
  rfl

/-- The pot loop that is not active has no demand. -/
theorem afterLoops_potDemand (h : (afterLoops s).potActive = false) : (afterLoops s).heat.pot.demand = 0 := by
  rw [afterLoops_potActive] at h
  rw [afterLoops_heat]
  show (if s.potActive then s.heat.pot else s.heat.pot.inactive).demand = 0
  rw [h]
  rfl

end

theorem setMode_demand {new : Mode} {s : State} {k : ZoneId}
    (h : ((setMode new s).zone k).started = false ∨ (setMode new s).potActive = false) : ((setMode new s).zone k).demand = 0 :=
  afterLoops_demand _ h

theorem setMode_potDemand {new : Mode} {s : State} (h : (setMode new s).potActive = false) : (setMode new s).heat.pot.demand = 0 :=
  afterLoops_potDemand _ h

/-! ### SELECT_SET (R2, R184) -/

theorem exec_selectSet (tag n : Byte) (s : State) (hs : s.hears) (hm : s.modes.mode = .idle ∨ s.modes.mode = .standby) :
    exec (.selectSet tag n) s = .next (actSelectSet n.toNat (s.owing .selectSet tag)) := by
  refine exec_act tag false (.selectSet n) s hs ?_ rfl
  show (s.modes.mode == .idle || s.modes.mode == .standby) = true
  rcases hm with h | h <;> rw [h] <;> rfl

/-- A set fits the ratings when each zone that it heats is fitted. -/
theorem setFits_iff (s : State) (x : ThermalSet) :
    s.setFits x = true ↔ ∀ k, x.zone k = 0 ∧ x.zoneStandby k = 0 ∨ s.zoneRating k ≠ 0 := by
  have hall : ∀ k, k ∈ allZones := fun k => by cases k <;> decide
  simp only [State.setFits, List.all_eq_true, Bool.or_eq_true, Bool.and_eq_true, decide_eq_true_eq, bne_iff_ne]
  exact ⟨fun h k => h k (hall k), fun h k _ => h k⟩

theorem setUsable_of_valid {s : State} {n : Nat} {x : ThermalSet} (h : (s.store.work.set n).item = .valid x) :
    s.setUsable n = (s.configured && s.setFits x) := by
  unfold State.setUsable
  rw [h]

theorem setUsable_of_not_valid {s : State} {n : Nat} (h : ∀ x, (s.store.work.set n).item ≠ .valid x) : s.setUsable n = false := by
  unfold State.setUsable
  split
  next x hx => exact absurd hx (h x)
  next => rfl
  next => rfl

/-- The set selected, before the loops follow it. -/
def setSelected (n : Nat) (s : State) : State :=
  let b := (s.setModes { s.modes with activeSet := some n }).mapZones (fun _ z => { z with trim := 0 })
  if s.modes.mode = .standby then startStandbyZones b else b

theorem selectSet_eq (n : Nat) (s : State) : selectSet n s = afterLoops (setSelected n s) := rfl

/-- A field of the set that is selected. -/
theorem activeField_selected {s : State} {n : Nat} {x : ThermalSet} (h : (s.store.work.set n).item = .valid x)
    (f : ThermalSet → Nat) :
    ((s.setModes { s.modes with activeSet := some n }).mapZones (fun _ z => { z with trim := 0 })).activeField f = f x := by
  show (match (some n).map s.setContents with
    | some t => f t
    | none => 0) = _
  simp [State.setContents, h]

theorem setSelected_zone {s : State} {n : Nat} {x : ThermalSet} (h : (s.store.work.set n).item = .valid x) (k : ZoneId) :
    (setSelected n s).zone k = { s.zone k with
      trim := 0, started := if s.modes.mode = .standby then x.zoneStandby k != 0 else (s.zone k).started } := by
  unfold setSelected
  dsimp only
  by_cases hm : s.modes.mode = .standby
  · rw [if_pos hm]
    simp only [startStandbyZones, activeField_selected h]
    simp [State.mapZones, State.zone, hm]
  · rw [if_neg hm]
    simp [State.mapZones, State.zone, hm]

/-- Settles O22: the checks in order, then the zones and the modes as the selection sets them. -/
theorem selectSetTaken : Obligations.SelectSetTaken := by
  intro tag n s hs passes refused fits item
  have hrefused : passes → ∀ c i, firstRefusal
      [(decide (n.toNat < Config.thermalSets), (.badValue, 0)), (s.setUsable n.toNat, (.badSet, 0)),
        (s.tracker.queue.all (fun a => (s.recipeOf a.slot).set = n.toNat), (.inUse, 0))] = some (c, i) →
      refused (refusalPayload c i []) := fun hm c i hc =>
    (exec_selectSet tag n s hs hm).trans (congrArg Host.Outcome.next (checked_refused s _ tag hc))
  have hsets : Config.thermalSets = 8 := rfl
  refine ⟨fun hm => ?mode, fun hm hn => hrefused hm .badValue 0 ?number, fun hm hn hi => hrefused hm .badSet 0 ?item,
    fun x hm hn hi => ⟨fun hf => hrefused hm .badSet 0 ?fit, fun hf ha => hrefused hm .inUse 0 ?inUse, fun hf ha => ?taken⟩⟩
  case mode =>
    refine exec_wrongMode tag false (.selectSet n) s hs ?_
    show (s.modes.mode == .idle || s.modes.mode == .standby) = false
    simpa [passes, not_or] using hm
  case number => simp [firstRefusal, hsets, show ¬ n.toNat < 8 by omega]
  case item => simp [firstRefusal, hsets, show n.toNat < 8 by omega, setUsable_of_not_valid hi]
  all_goals
    have husable : s.setUsable n.toNat = true ↔ fits x := by
      rw [setUsable_of_valid hi, Bool.and_eq_true, setFits_iff]
    have hnumber : n.toNat < 8 := by omega
  case fit => simp [firstRefusal, hsets, hnumber, Bool.eq_false_iff.mpr (mt husable.mp hf)]
  case inUse =>
    have hall : s.tracker.queue.all (fun a => (s.recipeOf a.slot).set = n.toNat) = false := by
      obtain ⟨a, hq, hne⟩ := ha
      rw [List.all_eq_false]
      exact ⟨a, hq, by simpa using hne⟩
    simp only [firstRefusal, hsets, hnumber, husable.mpr hf, hall]
    rfl
  case taken =>
    let s' := s.owing .selectSet tag
    have hall : s.tracker.queue.all (fun a => ((s.owing .selectSet tag).recipeOf a.slot).set = n.toNat) = true := by
      rw [List.all_eq_true]
      exact fun a hq => decide_eq_true (ha a hq)
    have he : exec (.selectSet tag n) s = .next (accept (fun _ => u8 n.toNat) (selectSet n.toNat s')) := by
      refine (exec_selectSet tag n s hs hm).trans (congrArg Host.Outcome.next (checked_taken (s := s') ?_))
      show firstRefusal [(decide (n.toNat < Config.thermalSets), _), (s.setUsable n.toNat, _), (s.tracker.queue.all _, _)] = none
      simp only [firstRefusal, hsets, hnumber, husable.mpr hf, hall]
      rfl
    have hfar : (selectSet n.toNat s').far = s'.far := by
      rw [selectSet_eq, afterLoops_far]
      unfold setSelected
      dsimp only
      split <;> simp
    have hzone : ∀ k, (setSelected n.toNat s').zone k = { s.zone k with
        trim := 0, started := if s.modes.mode = .standby then x.zoneStandby k != 0 else (s.zone k).started } :=
      fun k => setSelected_zone (s := s') hi k
    have hmodes : (setSelected n.toNat s').modes = { s.modes with activeSet := some n.toNat } := by
      unfold setSelected; dsimp only; split <;> rfl
    have hothers : (setSelected n.toNat s').tracker = s.tracker ∧ (setSelected n.toNat s').maps = s.maps
        ∧ (setSelected n.toNat s').spray = s.spray ∧ (setSelected n.toNat s').wave = s.wave
        ∧ (setSelected n.toNat s').extr = s.extr ∧ (setSelected n.toNat s').alarms = s.alarms
        ∧ (setSelected n.toNat s').alert = s.alert := by
      unfold setSelected; dsimp only; split <;> exact ⟨rfl, rfl, rfl, rfl, rfl, rfl, rfl⟩
    obtain ⟨htracker, hmaps, hspray, hwave, hextr, halarms, halert⟩ := hothers
    have hpayload : (0#8 :: u8 n.toNat) = [0#8, n] := by rw [u8_toNat]
    rw [← hpayload]
    refine exec_taken he hfar (fun _ => rfl) ⟨(afterLoops_modes _).trans hmodes, fun k => ⟨fun hsb hz => ?_, ?_, ?_, ?_⟩,
      (afterLoops_tracker _).trans htracker, (afterLoops_maps _).trans hmaps, (afterLoops_spray _).trans hspray,
      (afterLoops_wave _).trans hwave, (afterLoops_extr _).trans hextr, (afterLoops_alarms _).trans halarms,
      (afterLoops_alert _).trans halert⟩
    · refine afterLoops_demand (setSelected n.toNat s') (.inl ?_)
      rw [afterLoops_zone_started, hzone, if_pos hsb, hz]
      rfl
    · exact (afterLoops_zone_trim (setSelected n.toNat s') k).trans (by rw [hzone])
    · exact (afterLoops_zone_warmFail (setSelected n.toNat s') k).trans (by rw [hzone])
    · exact (afterLoops_zone_started (setSelected n.toNat s') k).trans (by rw [hzone])

end Sys2Proof.Machine
end

section
/-! PROOFS. START: the warm-up from IDLE and the recovery from STANDBY, by the extraction state (R4 to R9, R13; log 9, log 28). -/

namespace Sys2Proof.Machine

/-! ### The state in which a warm-up begins -/

/-- The zones as a START finds them: a recovery with the melt kept leaves their started marks (R13, log 28). -/
def warmBase (s : State) : State := if s.modes.mode = .standby && s.modes.meltKept then s else unstartZones s

/-- WARMUP entered in stage EXTRACTION, before the extraction state acts. -/
def warmEntered (s : State) : State :=
  setMode .warmup ((warmBase s).setModes { (warmBase s).modes with warm := some WarmUp.fresh })

theorem beginWarmup_eq (s : State) : beginWarmup s = warmExtraction (warmEntered s) := rfl

section
variable (s : State)

theorem warmBase_modes : (warmBase s).modes = s.modes := by unfold warmBase; split <;> rfl

theorem warmBase_extr : (warmBase s).extr = s.extr := by unfold warmBase; split <;> rfl

theorem warmBase_configured : (warmBase s).configured = s.configured := by unfold warmBase; split <;> rfl

theorem warmBase_started (k : ZoneId) :
    ((warmBase s).zone k).started = ((s.modes.mode == .standby && s.modes.meltKept) && (s.zone k).started) := by
  unfold warmBase
  by_cases h : s.modes.mode = .standby ∧ s.modes.meltKept = true
  · simp [h]
  · rw [if_neg (by simpa using h)]
    have hkept : (s.modes.mode == .standby && s.modes.meltKept) = false := by simpa [← Bool.not_eq_true] using h
    rw [hkept]
    simp [unstartZones, State.mapZones, State.zone]

theorem warmEntered_modes : (warmEntered s).modes = { s.modes with
    mode := .warmup, drain := .none, holdPending := false, ret := .none, holdTimer := 0, warm := some WarmUp.fresh } := by
  rw [warmEntered, setMode_modes, warmBase_modes]
  rfl

theorem warmEntered_extr : (warmEntered s).extr = s.extr.fanned true s.configured := by
  rw [warmEntered, setMode_extr]
  show (warmBase s).extr.fanned true (warmBase s).configured = _
  rw [warmBase_extr, warmBase_configured]

theorem warmEntered_started (k : ZoneId) : ((warmEntered s).zone k).started = ((warmBase s).zone k).started :=
  setMode_started .warmup _ k

theorem warmEntered_potActive : (warmEntered s).potActive = false := by
  unfold State.potActive State.stage?
  rw [warmEntered_modes]
  rfl

theorem warmEntered_demand (k : ZoneId) : ((warmEntered s).zone k).demand = 0 := setMode_demand (.inr (warmEntered_potActive s))

theorem warmEntered_potDemand : (warmEntered s).heat.pot.demand = 0 := setMode_potDemand (warmEntered_potActive s)

theorem warmEntered_far : (warmEntered s).far = s.far := by
  rw [warmEntered, setMode_far]
  unfold warmBase
  split <;> simp

end

/-! ### What the extraction state does at once (R5, R6, R13) -/

section
variable {s : State}

/-- The extraction state that a START finds once its fan runs. -/
theorem warmEntered_extState :
    (warmEntered s).extr.state = if s.extr.fan = true then s.extr.state else .proving := by
  rw [warmEntered_extr]
  cases h : s.extr.fan
  · exact fanned_state_of_off _ h
  · rw [fanned_of_eq h.symm]
    rfl

theorem warmEntered_mode : (warmEntered s).modes.mode = .warmup := by rw [warmEntered_modes]

theorem warmEntered_stage : (warmEntered s).stage? = some .extraction := by
  unfold State.stage?
  rw [warmEntered_modes]
  rfl

/-- The extraction is neither proven nor failed: the warm-up waits in stage EXTRACTION. -/
theorem beginWarmup_waits (hp : ¬ (s.extr.fan = true ∧ (s.extr.state = .proven ∨ s.extr.state = .warn)))
    (hf : ¬ (s.extr.fan = true ∧ s.extr.state = .failed)) : beginWarmup s = warmEntered s := by
  have hstate : (warmEntered s).extr.state ≠ .failed ∧ (warmEntered s).extr.state.sound = false := by
    rw [warmEntered_extState]
    cases h : s.extr.fan
    · exact ⟨(fun h => nomatch (h : ExtState.proving = .failed)), rfl⟩
    · simp only [h, true_and, not_or] at hp hf
      refine ⟨hf, ?_⟩
      rw [if_pos rfl, Bool.eq_false_iff, ne_eq, sound_iff]
      exact fun hs => hs.elim hp.1 hp.2
  rw [beginWarmup_eq, warmExtraction, if_pos warmEntered_mode, if_neg hstate.1, hstate.2]
  rfl

/-- The extraction has failed: the warm-up is aborted to IDLE. -/
theorem beginWarmup_aborts (hf : s.extr.fan = true ∧ s.extr.state = .failed) : beginWarmup s = setMode .idle (warmEntered s) := by
  have hstate : (warmEntered s).extr.state = .failed := by rw [warmEntered_extState, if_pos hf.1, hf.2]
  rw [beginWarmup_eq, warmExtraction, if_pos warmEntered_mode, if_pos hstate]

/-- The extraction is proven: stage EXTRACTION ends at once. -/
theorem beginWarmup_goes_on (hp : s.extr.fan = true ∧ (s.extr.state = .proven ∨ s.extr.state = .warn)) :
    beginWarmup s = if s.modes.meltKept = true then enterZonesTogether (warmEntered s) else enterMelt (warmEntered s) := by
  have hstate : (warmEntered s).extr.state = .proven ∨ (warmEntered s).extr.state = .warn := by
    rw [warmEntered_extState, if_pos hp.1]
    exact hp.2
  have hfailed : (warmEntered s).extr.state ≠ .failed := by
    rcases hstate with h | h <;> rw [h] <;> decide
  rw [beginWarmup_eq, warmExtraction, if_pos warmEntered_mode, if_neg hfailed, (sound_iff _).mpr hstate, warmEntered_stage,
    endExtraction, warmEntered_modes]
  rfl

end

/-! ### Stage MELT (R7, R12) -/

section
variable {s : State} {w : WarmUp}

theorem updWarm_modes (f : WarmUp → WarmUp) : (s.updWarm f).modes = { s.modes with warm := s.modes.warm.map f } := rfl

@[simp] theorem enterMelt_soak : (enterMelt s).pot.soak = .waiting :=
  (congrArg (fun c : Core => c.pot.soak) (afterLoops_core _) :)

theorem enterMelt_modes : (enterMelt s).modes = { s.modes with warm := s.modes.warm.map (fun w => { w with
    stage := .melt, melt := 0, meltExpired := false, meltReached := false, settle := 0 }) } := afterLoops_modes _

theorem enterMelt_stage (h : s.modes.warm = some w) : (enterMelt s).stage? = some .melt := by
  unfold State.stage?
  rw [enterMelt_modes, h]
  rfl

@[simp] theorem enterMelt_started (k : ZoneId) : ((enterMelt s).zone k).started = (s.zone k).started :=
  afterLoops_zone_started _ k

theorem enterMelt_demand {k : ZoneId} (h : (s.zone k).started = false) : ((enterMelt s).zone k).demand = 0 :=
  afterLoops_demand _ (.inl ((enterMelt_started k).trans h))

end

/-! ### Stage ZONES with every zone started together (R13, log 9) -/

/-- Whether a zone is in band follows the scanner, the mode, the set in force, the store and the zone's trim. -/
theorem zoneInBand_congr {s t : State} {k : ZoneId} (hfar : t.far = s.far)
    (hmode : t.modes.mode = s.modes.mode) (hset : t.modes.activeSet = s.modes.activeSet)
    (htrim : (t.zone k).trim = (s.zone k).trim) : t.zoneInBand k = s.zoneInBand k := by
  have hscan : t.scan = s.scan := congrArg Far.scan hfar
  have hstore : t.store = s.store := congrArg Far.store hfar
  have hfree : t.freeIndex = s.freeIndex := congrArg Far.freeIndex hfar
  unfold State.zoneInBand State.zoneWorking State.zoneSetpoint State.zoneParams State.loopParams State.slot State.param State.config?
  rw [hscan, hmode, htrim, hstore]
  simp only [activeField_congr hset hstore hfree]

section
variable (s : State)

/-- The warm timers and the cursor as a recovery that passes over MELT sets them. -/
def WarmUp.together (part : ZoneId → Bool) (w : WarmUp) : WarmUp :=
  { w with stage := .zones, cursor := none, zonesEntered := true,
           timers := w.timers.mapZones (fun k _ => if part k then .running 0 else .unstarted) }

/-- Every zone that takes part is started, before the band entries and the settle test. -/
def startedTogether : State :=
  settleLoops ((s.mapZones (fun k z => { z with started := s.takesPart k })).updWarm (WarmUp.together s.takesPart))

theorem enterZonesTogether_eq : enterZonesTogether s = warmSweep (startedTogether s) := rfl

theorem startedTogether_modes :
    (startedTogether s).modes = { s.modes with warm := s.modes.warm.map (WarmUp.together s.takesPart) } := rfl

theorem startedTogether_zone (k : ZoneId) :
    ((startedTogether s).zone k).started = s.takesPart k ∧ ((startedTogether s).zone k).trim = (s.zone k).trim := by
  rw [startedTogether, settleLoops_zone]
  have hz : ((s.mapZones (fun k z => { z with started := s.takesPart k })).updWarm (WarmUp.together s.takesPart)).zone k
      = { s.zone k with started := s.takesPart k } := six_get_mapZones _ _ k
  split
  · rw [hz]; exact ⟨rfl, rfl⟩
  · rw [hz]; exact ⟨rfl, rfl⟩

/-- The warm-up record after the band entries. -/
def State.enteredBand (w : WarmUp) : WarmUp :=
  { w with timers := w.timers.mapZones (fun k x => if (s.zone k).started && s.zoneInBand k then x.atBand else x) }

@[simp] theorem bandEntries_modes : (bandEntries s).modes = { s.modes with warm := s.modes.warm.map s.enteredBand } := by
  unfold bandEntries
  dsimp only
  split <;> rfl

theorem bandEntries_zone (k : ZoneId) : ((bandEntries s).zone k).inactive
    = { s.zone k with
        warmFail := if (s.zone k).started && s.zoneInBand k then false else (s.zone k).warmFail }.inactive := by
  have hz : (bandEntries s).heat.zones
      = s.heat.zones.mapZones (fun k z => if z.started && s.zoneInBand k then { z with warmFail := false } else z) := by
    unfold bandEntries
    dsimp only
    split <;> rfl
  show ((bandEntries s).heat.zones.get k).inactive = _
  rw [hz, six_get_mapZones]
  show (if (s.zone k).started && s.zoneInBand k then { s.zone k with warmFail := false } else s.zone k).inactive = _
  split <;> rfl

/-- With the cursor past the last zone none is started. -/
theorem moveCursor_of_past {s : State} {w : WarmUp} (h : s.modes.warm = some w) (hc : w.cursor = none) : moveCursor s = s := by
  unfold moveCursor
  rw [h]
  dsimp only
  split
  next k _ hk => rw [hc] at hk; cases hk
  next => rfl

/-- The settle test in stage ZONES enters SETTLE, or leaves the state. -/
theorem settleTest_of_zones {s : State} (h : s.stage? = some .zones) :
    settleTest s = if s.settleReady then s.updWarm (fun w => { w with stage := .settle, settle := 0 }) else s := by
  unfold settleTest
  rw [h]

end

/-- Where the sweep of a warm-up with its cursor past the last zone leaves the warm-up record, the zones and what the part measures. -/
theorem warmSweep_together {s : State} {w : WarmUp} (hm : s.modes.mode = .warmup) (hw : s.modes.warm = some w)
    (hc : w.cursor = none) (hst : w.stage = .zones) : ∃ u, (u = .zones ∨ u = .settle)
      ∧ (warmSweep s).modes = { s.modes with warm := some { s.enteredBand w with
          stage := u, settle := if u = .settle then 0 else w.settle } }
      ∧ ∀ k, ((warmSweep s).zone k).started = (s.zone k).started ∧ ((warmSweep s).zone k).trim = (s.zone k).trim := by
  have hband : (bandEntries s).modes.warm = some (s.enteredBand w) := by rw [bandEntries_modes, hw]; rfl
  have hstage : (bandEntries s).stage? = some .zones := by
    unfold State.stage?
    rw [hband, ← hst]
    rfl
  have hsweep : warmSweep s = afterLoops (if (bandEntries s).settleReady
      then (bandEntries s).updWarm (fun w => { w with stage := .settle, settle := 0 }) else bandEntries s) := by
    rw [warmSweep, if_pos hm, moveCursor_of_past hband hc, settleTest_of_zones hstage]
  have hmarks : ∀ k, ((bandEntries s).zone k).started = (s.zone k).started ∧ ((bandEntries s).zone k).trim = (s.zone k).trim :=
    fun k => ⟨(congrArg Zone.started (bandEntries_zone s k) :), (congrArg Zone.trim (bandEntries_zone s k) :)⟩
  by_cases hr : (bandEntries s).settleReady = true
  · rw [if_pos hr] at hsweep
    refine ⟨.settle, .inr rfl, ?_, fun k => ?_⟩
    · rw [hsweep, afterLoops_modes, updWarm_modes, hband, bandEntries_modes]
      rfl
    · rw [hsweep, afterLoops_zone_started, afterLoops_zone_trim]
      exact hmarks k
  · rw [if_neg hr] at hsweep
    refine ⟨.zones, .inl rfl, ?_, fun k => ?_⟩
    · rw [hsweep, afterLoops_modes, bandEntries_modes, hw]
      exact congrArg (fun u => { s.modes with warm := some { s.enteredBand w with stage := u } }) hst
    · rw [hsweep, afterLoops_zone_started, afterLoops_zone_trim]
      exact hmarks k

/-! ### START (R4 to R9, R13) -/

/-- A START whose checks hold begins the warm-up and is answered OK. -/
theorem exec_start_taken {tag : Byte} {s : State} (hs : s.hears) (hm : s.modes.mode = .idle ∨ s.modes.mode = .standby)
    (hc : s.configured = true) (hf : s.activeFit = true) (ha : s.safeInForce = false) :
    exec (.start tag) s = .next (accept State.modeFields (beginWarmup (s.owing .start tag))) := by
  have hconfigured : (s.owing .start tag).configured = true := hc
  have hfit : (s.owing .start tag).activeFit = true := hf
  have hsafe : (s.owing .start tag).safeInForce = false := ha
  rw [exec_start tag s hs hm, actStart, checked_taken (by simp only [firstRefusal, hconfigured, hfit, hsafe]; rfl)]

theorem exec_start_warms {tag : Byte} {s : State} (hs : s.hears) (hm : s.modes.mode = .idle ∨ s.modes.mode = .standby)
    (hc : s.configured = true) (hf : s.activeFit = true) (ha : s.safeInForce = false) {Q : State → Prop}
    (hQ : ∀ payload, Q ((beginWarmup (s.owing .start tag)).replying .start tag payload)) :
    ∃ t, exec (.start tag) s = .next t ∧ Answered s t .start tag (0#8 :: t.modeFields) ∧ Q t :=
  exec_taken (exec_start_taken hs hm hc hf ha) (beginWarmup_far _) (fun _ => rfl) (hQ _)

/-- Settles O15: the warm-up by the extraction state that it finds. -/
theorem startFromIdle : Obligations.StartFromIdle := by
  intro tag s hs hm hk hc hf ha
  let r := s.owing .start tag
  have hunstarted : ∀ k, ((warmEntered r).zone k).started = false := fun k => by
    rw [warmEntered_started, warmBase_started, show r.modes.meltKept = false from hk]
    simp
  refine exec_start_warms hs (.inl hm) hc hf ha fun payload => ?_
  obtain ⟨g, hg⟩ : ∃ g, beginWarmup r = g := ⟨_, rfl⟩
  rw [show beginWarmup (s.owing .start tag) = g from hg]
  refine ⟨fun hoff => ?off, fun hon hstate => ?waits,
    fun hon hstate => ?melt, fun hon hstate => ?aborted, fun k => ?zones⟩
  case off =>
    have hb : g = warmEntered r := hg.symm.trans <|
      beginWarmup_waits (fun h => by cases hoff.symm.trans h.1) (fun h => by cases hoff.symm.trans h.1)
    have hextr : g.extr = s.extr.fanned true s.configured := by rw [hb]; exact warmEntered_extr r
    have hmodes := congrArg State.modes hb
    refine ⟨?_, ?_, hmodes.trans (warmEntered_modes r)⟩
    · exact (congrArg Extraction.fan hextr).trans (fanned_fan _ _ _)
    · exact (congrArg Extraction.state hextr).trans (fanned_state_of_off _ hoff)
  case waits =>
    have hb : g = warmEntered r := hg.symm.trans <|
      beginWarmup_waits (fun h => by rcases hstate with hp | hp <;> rcases h.2 with h | h <;> cases hp.symm.trans h)
        (fun h => by rcases hstate with hp | hp <;> cases hp.symm.trans h.2)
    have hextr : g.extr = s.extr.fanned true s.configured := by rw [hb]; exact warmEntered_extr r
    refine ⟨hextr.trans (fanned_of_eq hon.symm), ?_, ?_⟩
    · exact (congrArg (fun u : State => u.modes.mode) hb).trans warmEntered_mode
    · exact (congrArg State.stage? hb).trans warmEntered_stage
  case melt =>
    have hb : g = enterMelt (warmEntered r) := hg.symm.trans <|
      (beginWarmup_goes_on (s := r) ⟨hon, hstate⟩).trans (if_neg (by rw [show r.modes.meltKept = false from hk]; decide))
    refine ⟨?_, ?_, ?_⟩
    · exact (congrArg (fun u : State => u.modes.mode) hb).trans
        ((congrArg ModeCtl.mode enterMelt_modes).trans warmEntered_mode)
    · exact (congrArg State.stage? hb).trans (enterMelt_stage (congrArg ModeCtl.warm (warmEntered_modes r)))
    · exact (congrArg (fun u : State => u.pot.soak) hb).trans enterMelt_soak
  case aborted =>
    have hb : g = setMode .idle (warmEntered r) := hg.symm.trans <| beginWarmup_aborts ⟨hon, hstate⟩
    have hmodes := (congrArg State.modes hb).trans (setMode_modes .idle _)
    exact ⟨congrArg ModeCtl.mode hmodes, congrArg ModeCtl.warm hmodes⟩
  case zones =>
    show (g.zone k).started = false
    rw [← hg]
    by_cases hproven : r.extr.fan = true ∧ (r.extr.state = .proven ∨ r.extr.state = .warn)
    · rw [beginWarmup_goes_on hproven, if_neg (by rw [show r.modes.meltKept = false from hk]; decide), enterMelt_started]
      exact hunstarted k
    · by_cases hfailed : r.extr.fan = true ∧ r.extr.state = .failed
      · rw [beginWarmup_aborts hfailed]
        exact (setMode_idle_zone _ k).1
      · rw [beginWarmup_waits hproven hfailed]
        exact hunstarted k

/-- A recovery that passes over MELT: the warm-up record, and each zone with its warm timer (R13, log 9). -/
theorem enterZonesTogether_warm {s : State} (hm : s.modes.mode = .warmup) {w : WarmUp} (hw : s.modes.warm = some w) :
    let t := enterZonesTogether s
    t.modes.mode = .warmup ∧ (t.stage? = some .zones ∨ t.stage? = some .settle) ∧ t.modes.warm.map (·.cursor) = some none
      ∧ ∀ k, (t.zone k).started = s.takesPart k ∧ (s.takesPart k = false → (t.zone k).demand = 0)
        ∧ t.modes.warm.map (fun w => w.timers.get k)
          = some (if s.takesPart k = false then .unstarted else if t.zoneInBand k = true then .stopped else .running 0) := by
  intro t
  let v := startedTogether s
  have hv : v.modes.warm = some (WarmUp.together s.takesPart w) := by
    show ({ s.modes with warm := s.modes.warm.map (WarmUp.together s.takesPart) } : ModeCtl).warm = _
    rw [hw]
    rfl
  have hvm : v.modes.mode = .warmup := hm
  obtain ⟨u, hu, hmodes, hzones⟩ := warmSweep_together hvm hv rfl rfl
  have hwarm : t.modes.warm = some { v.enteredBand (WarmUp.together s.takesPart w) with
      stage := u, settle := if u = .settle then 0 else (WarmUp.together s.takesPart w).settle } := congrArg ModeCtl.warm hmodes
  have hstarted : ∀ k, (t.zone k).started = s.takesPart k := fun k => (hzones k).1.trans (startedTogether_zone s k).1
  have hband : ∀ k, t.zoneInBand k = v.zoneInBand k := fun k => by
    refine zoneInBand_congr (warmSweep_far _) ?_ ?_ (hzones k).2
    · exact (congrArg ModeCtl.mode hmodes :)
    · exact (congrArg ModeCtl.activeSet hmodes :)
  refine ⟨(congrArg ModeCtl.mode hmodes).trans hm, ?_, by rw [hwarm]; rfl, fun k => ⟨hstarted k, fun hp => ?_, ?_⟩⟩
  · have hstage : t.stage? = some u := by
      unfold State.stage?
      rw [hwarm]
      rfl
    rcases hu with rfl | rfl
    · exact .inl hstage
    · exact .inr hstage
  · have hsweep : t = afterLoops (settleTest (moveCursor (bandEntries v))) := if_pos hvm
    have hnot : ((afterLoops (settleTest (moveCursor (bandEntries v)))).zone k).started = false := by
      rw [← hsweep, hstarted, hp]
    rw [hsweep]
    exact afterLoops_demand _ (.inl hnot)
  · have htimer : (v.enteredBand (WarmUp.together s.takesPart w)).timers.get k
        = if s.takesPart k && v.zoneInBand k then (if s.takesPart k then WarmTimer.running 0 else .unstarted).atBand
          else if s.takesPart k then .running 0 else .unstarted := by
      refine (six_get_mapZones _ _ k).trans ?_
      rw [(startedTogether_zone s k).1, WarmUp.together, six_get_mapZones]
    rw [hwarm, hband]
    show some ((v.enteredBand (WarmUp.together s.takesPart w)).timers.get k) = _
    rw [htimer]
    cases s.takesPart k
    · rfl
    · cases v.zoneInBand k <;> rfl

/-- Settles O17: the recovery by the extraction state and the melt-kept flag. -/
theorem recoveryFromStandby : Obligations.RecoveryFromStandby := by
  intro tag s hs hm hc hf ha
  let r := s.owing .start tag
  have hmode : r.modes.mode = .standby := hm
  have hstarted : ∀ k, ((warmEntered r).zone k).started = (s.modes.meltKept && (s.zone k).started) := fun k => by
    rw [warmEntered_started, warmBase_started, hmode]
    rfl
  refine exec_start_warms hs (.inr hm) hc hf ha fun payload => ?_
  obtain ⟨g, hg⟩ : ∃ g, beginWarmup r = g := ⟨_, rfl⟩
  rw [show beginWarmup (s.owing .start tag) = g from hg]
  refine ⟨fun hp hf => ?waits, fun hp hk => ?kept, fun hp hk => ?melt, fun hf => ?aborted⟩
  case waits =>
    have hb : g = warmEntered r := hg.symm.trans <| beginWarmup_waits hp hf
    have hextr : g.extr = s.extr.fanned true s.configured := by rw [hb]; exact warmEntered_extr r
    refine ⟨(congrArg State.modes hb).trans (warmEntered_modes r), fun hon => hextr.trans (fanned_of_eq hon.symm),
      fun hoff => ⟨?_, ?_⟩, ?_, fun k => ⟨?_, ?_⟩⟩
    · exact (congrArg Extraction.fan hextr).trans (fanned_fan _ _ _)
    · exact (congrArg Extraction.state hextr).trans (fanned_state_of_off _ hoff)
    · exact (congrArg (fun u : State => u.heat.pot.demand) hb).trans (warmEntered_potDemand r)
    · exact (congrArg (fun u : State => (u.zone k).demand) hb).trans (warmEntered_demand r k)
    · exact (congrArg (fun u : State => (u.zone k).started) hb).trans (hstarted k)
  case kept =>
    have hb : g = enterZonesTogether (warmEntered r) := hg.symm.trans <|
      (beginWarmup_goes_on (s := r) hp).trans (if_pos (show r.modes.meltKept = true from hk))
    have hpart : ∀ k, (warmEntered r).takesPart k = s.takesPart k := fun k => by
      unfold State.takesPart
      rw [activeField_congr (s := s) (t := warmEntered r) (congrArg ModeCtl.activeSet (warmEntered_modes r) :)
        (congrArg Far.store (warmEntered_far r)) (congrArg Far.freeIndex (warmEntered_far r))]
    have hwarm := enterZonesTogether_warm warmEntered_mode (congrArg ModeCtl.warm (warmEntered_modes r))
    simp only [hpart, ← hb] at hwarm
    exact hwarm
  case melt =>
    have hb : g = enterMelt (warmEntered r) := hg.symm.trans <|
      (beginWarmup_goes_on (s := r) hp).trans (if_neg (by rw [show r.modes.meltKept = false from hk]; decide))
    have hoff : ∀ k, ((warmEntered r).zone k).started = false := fun k => by rw [hstarted, hk]; rfl
    refine ⟨?_, ?_, ?_, fun k => ⟨?_, ?_⟩⟩
    · exact (congrArg (fun u : State => u.modes.mode) hb).trans
        ((congrArg ModeCtl.mode enterMelt_modes).trans warmEntered_mode)
    · exact (congrArg State.stage? hb).trans (enterMelt_stage (congrArg ModeCtl.warm (warmEntered_modes r)))
    · exact (congrArg (fun u : State => u.pot.soak) hb).trans enterMelt_soak
    · exact (congrArg (fun u : State => (u.zone k).started) hb).trans ((enterMelt_started k).trans (hoff k))
    · exact (congrArg (fun u : State => (u.zone k).demand) hb).trans (enterMelt_demand (hoff k))
  case aborted =>
    have hb : g = setMode .idle (warmEntered r) := hg.symm.trans <| beginWarmup_aborts hf
    have hmodes := (congrArg State.modes hb).trans (setMode_modes .idle _)
    have hoff : ∀ k, ((setMode .idle (warmEntered r)).zone k).started = false := fun k => (setMode_idle_zone _ k).1
    refine ⟨congrArg ModeCtl.mode hmodes, congrArg ModeCtl.warm hmodes, congrArg ModeCtl.meltKept hmodes, fun k => ⟨?_, ?_⟩⟩
    · show (g.zone k).started = false
      rw [hb]
      exact hoff k
    · show (g.zone k).demand = 0
      rw [hb]
      exact setMode_demand (.inl (hoff k))

end Sys2Proof.Machine
end

section
/-! PROOFS. What the sweep of a warm-up leaves alone, and the timers that a warm-up watches (R7 to R10, R92). -/

namespace Sys2Proof.Machine

/-! ### What the sweep of a warm-up leaves alone -/

/-- A zone without its started mark, its warm-fail mark and what a loop that rests has at 0. -/
def Zone.steady (z : Zone) : Zone := { z.inactive with started := false, warmFail := false }

/-- A warm-up record without its stage, its cursor, its warm timers and its settle timer. -/
def WarmUp.steady (w : WarmUp) : WarmUp :=
  { w with stage := .zones, cursor := none, zonesEntered := true, timers := Six.same .unstarted, settle := 0 }

/-- What the sweeps of a warm-up and the loops that follow them leave alone. -/
structure Calm where
  far : Far
  modes : ModeCtl
  tracker : Tracker
  maps : Compositor
  spray : Spray
  zone : ZoneId → Zone
  loop : PotLoop
  frame : Nat × Bool × Six Bool × Bool
  pot : PotCtl
  wave : Wave
  extr : Extraction
  alarm : AlarmKind → AlarmEntry
  alert : Alert

def State.calm (s : State) : Calm :=
  { far := s.far, modes := { s.modes with warm := s.modes.warm.map WarmUp.steady }, tracker := s.tracker, maps := s.maps,
    spray := s.spray, zone := fun k => (s.zone k).steady, loop := s.heat.pot.inactive,
    frame := (s.heat.frameSlot, s.heat.potFiring, s.heat.zoneFiring, s.heat.sensorWaits),
    pot := { s.pot with feeder := .off }, wave := s.wave, extr := s.extr,
    alarm := fun k => if k = .zoneWarmFail then { state := .clear, count := 0, time := none } else s.alarm k,
    alert := s.alert }

theorem zone_updZone_same (s : State) (k : ZoneId) (f : Zone → Zone) : (s.updZone k f).zone k = f (s.zone k) :=
  six_get_set_same _ _ _

theorem zone_updZone_other (s : State) {k j : ZoneId} (f : Zone → Zone) (h : j ≠ k) : (s.updZone k f).zone j = s.zone j :=
  six_get_set_other _ _ _ _ h

theorem zone_mapZones (s : State) (f : ZoneId → Zone → Zone) (k : ZoneId) : (s.mapZones f).zone k = f k (s.zone k) :=
  six_get_mapZones _ _ _

section
variable (s : State)

theorem calm_of_zones {t : State} (hz : ∀ k, (t.zone k).steady = (s.zone k).steady) (h : { t.calm with zone := s.calm.zone } = s.calm) :
    t.calm = s.calm := by
  have hzone : t.calm.zone = s.calm.zone := funext hz
  rw [← h, ← hzone]

theorem updZone_calm (k : ZoneId) {f : Zone → Zone} (hf : ∀ z, (f z).steady = z.steady) : (s.updZone k f).calm = s.calm := by
  refine calm_of_zones s (fun j => ?_) rfl
  by_cases hj : j = k
  · rw [hj, zone_updZone_same, hf]
  · rw [zone_updZone_other s f hj]

theorem mapZones_calm {f : ZoneId → Zone → Zone} (hf : ∀ k z, (f k z).steady = z.steady) : (s.mapZones f).calm = s.calm :=
  calm_of_zones s (fun k => by rw [zone_mapZones, hf]) rfl

theorem updWarm_calm {f : WarmUp → WarmUp} (hf : ∀ w, (f w).steady = w.steady) : (s.updWarm f).calm = s.calm := by
  have hwarm : (s.modes.warm.map f).map WarmUp.steady = s.modes.warm.map WarmUp.steady := by
    rw [Option.map_map]
    exact congrArg (Option.map · s.modes.warm) (funext hf)
  have hmodes : (s.updWarm f).calm.modes = s.calm.modes := congrArg (fun x => { s.modes with warm := x }) hwarm
  exact congrArg (fun x => { s.calm with modes := x }) hmodes

@[simp] theorem startZone_calm (k : ZoneId) : (startZone k s).calm = s.calm := by
  refine (updWarm_calm _ ?_).trans (updZone_calm _ k ?_)
  · exact fun _ => rfl
  · exact fun _ => rfl

@[simp] theorem conditionEnds_zoneWarmFail_calm : (conditionEnds .zoneWarmFail s).calm = s.calm := by
  have halarm : (conditionEnds .zoneWarmFail s).calm.alarm = s.calm.alarm := by
    funext k
    show (if k = .zoneWarmFail then _ else (conditionEnds .zoneWarmFail s).alarm k) = if k = .zoneWarmFail then _ else s.alarm k
    split
    · rfl
    next h => exact alarms_get_set_other _ _ _ _ h
  exact congrArg (fun x => { s.calm with alarm := x }) halarm

@[simp] theorem bandEntries_calm : (bandEntries s).calm = s.calm := by
  have hmarks : ∀ (f : WarmUp → WarmUp), (∀ w, (f w).steady = w.steady) →
      ((s.updWarm f).mapZones (fun k z => if z.started && s.zoneInBand k then { z with warmFail := false } else z)).calm
        = s.calm := fun f hf =>
    (mapZones_calm _ fun k z => by split <;> rfl).trans (updWarm_calm _ hf)
  unfold bandEntries
  dsimp only
  split
  · rw [conditionEnds_zoneWarmFail_calm]
    exact hmarks _ fun _ => rfl
  · exact hmarks _ fun _ => rfl

@[simp] theorem settleTest_calm : (settleTest s).calm = s.calm := by
  unfold settleTest
  split
  · split
    · exact updWarm_calm _ fun _ => rfl
    · rfl
  · split
    · rfl
    · exact updWarm_calm _ fun _ => rfl
  all_goals rfl

@[simp] theorem settleLoops_calm : (settleLoops s).calm = s.calm := by
  have hloop : (settleLoops s).heat.pot.inactive = s.heat.pot.inactive := by
    show (if s.potActive then s.heat.pot else s.heat.pot.inactive).inactive = _
    split <;> rfl
  refine calm_of_zones s (fun k => ?_) ?_
  · rw [settleLoops_zone]
    split <;> rfl
  · exact congrArg (fun x => { s.calm with loop := x }) hloop

@[simp] theorem feedAtActivity_calm : (feedAtActivity s).calm = s.calm := by
  unfold feedAtActivity feedTestNow feedTest
  repeat' split
  all_goals rfl

@[simp] theorem afterLoops_calm : (afterLoops s).calm = s.calm := by
  rw [afterLoops, feedAtActivity_calm, settleLoops_calm]

end

@[simp] theorem advanceCursor_calm (ks : List ZoneId) (s : State) : (advanceCursor ks s).calm = s.calm := by
  induction ks generalizing s with
  | nil => exact updWarm_calm _ fun _ => rfl
  | cons k rest ih =>
    have hstart : ((startZone k s).updWarm (fun w => { w with cursor := some k })).calm = s.calm := by
      refine (updWarm_calm _ ?_).trans (startZone_calm s k)
      exact fun _ => rfl
    unfold advanceCursor
    dsimp only
    split
    · split
      · rw [ih, hstart]
      · exact hstart
    · exact ih s

section
variable (s : State)

@[simp] theorem moveCursor_calm : (moveCursor s).calm = s.calm := by
  unfold moveCursor
  repeat' split
  · exact advanceCursor_calm _ _
  all_goals rfl

@[simp] theorem warmSweep_calm : (warmSweep s).calm = s.calm := by
  unfold warmSweep
  split
  · simp
  · rfl

/-- A warm-up that enters stage ZONES, the zones that take part not yet looked at. -/
def zonesStage (s : State) : State := s.updWarm (fun w => { w with stage := .zones, zonesEntered := true })

theorem zonesStage_calm : (zonesStage s).calm = s.calm := updWarm_calm _ fun _ => rfl

theorem enterZones_of_warm {s : State} {w : WarmUp} (hw : s.modes.warm = some w) :
    enterZones s = warmSweep (if w.zonesEntered = true then zonesStage s else advanceCursor allZones (zonesStage s)) := by
  unfold enterZones
  rw [hw]
  rfl

@[simp] theorem enterZones_calm : (enterZones s).calm = s.calm := by
  cases hw : s.modes.warm with
  | none =>
    unfold enterZones
    rw [hw]
    exact (warmSweep_calm _).trans (zonesStage_calm s)
  | some w =>
    rw [enterZones_of_warm hw, warmSweep_calm]
    split
    · exact zonesStage_calm s
    · rw [advanceCursor_calm, zonesStage_calm]

end

/-! ### Items read from what is left alone -/

section
variable {s t : State} (h : t.calm = s.calm)
include h

theorem mode_of_calm : t.modes.mode = s.modes.mode := congrArg (fun c : Calm => c.modes.mode) h
theorem activeSet_of_calm : t.modes.activeSet = s.modes.activeSet := congrArg (fun c : Calm => c.modes.activeSet) h
theorem far_of_calm : t.far = s.far := congrArg Calm.far h
theorem tracker_of_calm : t.tracker = s.tracker := congrArg Calm.tracker h
theorem maps_of_calm : t.maps = s.maps := congrArg Calm.maps h
theorem spray_of_calm : t.spray = s.spray := congrArg Calm.spray h
theorem wave_of_calm : t.wave = s.wave := congrArg Calm.wave h
theorem extr_of_calm : t.extr = s.extr := congrArg Calm.extr h
theorem soak_of_calm : t.pot.soak = s.pot.soak := congrArg (fun c : Calm => c.pot.soak) h
theorem molten_of_calm : t.pot.molten = s.pot.molten := congrArg (fun c : Calm => c.pot.molten) h
theorem trim_of_calm (k : ZoneId) : (t.zone k).trim = (s.zone k).trim := congrArg (fun c : Calm => (c.zone k).trim) h

theorem alarm_of_calm {k : AlarmKind} (hk : k ≠ .zoneWarmFail) : t.alarm k = s.alarm k := by
  have ha := congrArg (fun c : Calm => c.alarm k) h
  simpa [State.calm, hk] using ha

theorem takesPart_of_calm (k : ZoneId) : t.takesPart k = s.takesPart k := by
  have hfar := far_of_calm h
  unfold State.takesPart
  rw [activeField_congr (activeSet_of_calm h) (congrArg Far.store hfar) (congrArg Far.freeIndex hfar)]

theorem zoneInBand_of_calm (k : ZoneId) : t.zoneInBand k = s.zoneInBand k :=
  zoneInBand_congr (far_of_calm h) (mode_of_calm h) (activeSet_of_calm h) (trim_of_calm h k)

end

/-! ### TRIM (R92) -/

theorem trimZone_of_outside {z : Byte} (h : z.toNat = 0 ∨ 6 < z.toNat) : trimZone z = none := by
  unfold trimZone
  rcases h with h | h
  · rw [if_pos h]
  · obtain ⟨n, hn⟩ : ∃ n, z.toNat - 1 = n + 6 := ⟨z.toNat - 7, by omega⟩
    rw [if_neg (by omega), hn]
    rfl

theorem trimZone_of_zone {z : Byte} {k : ZoneId} (h : z.toNat = zoneIndex k + 1) : trimZone z = some k := by
  unfold trimZone
  rw [if_neg (by omega), h]
  cases k <;> rfl

theorem clampInt_eq (v : Int) : clampInt (-100) 100 v = max (-100) (min 100 v) := by
  unfold clampInt
  split
  · omega
  · split <;> omega

theorem setTrim_calm (k : ZoneId) (x : Int) (s : State) :
    (setTrim k x s).calm = (s.updZone k (fun z => { z with trim := x })).calm := by
  rw [setTrim, warmSweep_calm, afterLoops_calm]

/-- The trims after a zone has been given one. -/
theorem setTrim_trim (k j : ZoneId) (x : Int) (s : State) :
    ((setTrim k x s).zone j).trim = if j = k then x else (s.zone j).trim := by
  rw [trim_of_calm (setTrim_calm k x s)]
  split
  next h => rw [h, zone_updZone_same]
  next h => rw [zone_updZone_other _ _ h]

/-- Settles O50: a zone that is not there, one that is not fitted, and the trim in force. -/
theorem trimTaken : Obligations.TrimTaken := by
  intro tag z v s hs hm
  have hexec : exec (.trim tag z v) s = .next (actTrim z v (s.owing .trim tag)) :=
    exec_act tag false (.trim z v) s hs (bne_iff_ne.mpr hm) rfl
  refine ⟨fun hz => ?_, fun k hz => ⟨fun hr => ?_, fun hr => ?_⟩⟩
  · rw [hexec, actTrim, trimZone_of_outside hz]
    refine congrArg _ ((refuse_owing _ _ _ _ _ _).trans ?_)
    show s.replying _ _ (refusalPayload .badValue 0 (trimField z s)) = _
    rw [trimField, trimZone_of_outside hz]
    rfl
  · have hrate : (s.owing .trim tag).zoneRating k = 0 := hr
    rw [hexec, actTrim, trimZone_of_zone hz]
    dsimp only
    rw [if_pos hrate]
    refine congrArg _ ((refuse_owing _ _ _ _ _ _).trans ?_)
    show s.replying _ _ (refusalPayload .badValue 0 (trimField z s)) = _
    rw [trimField, trimZone_of_zone hz]
    rfl
  · let x := max (-100) (min 100 v.toInt)
    let g := setTrim k x (s.owing .trim tag)
    have hcalm := setTrim_calm k x (s.owing .trim tag)
    have htrim : ∀ j, (g.zone j).trim = if j = k then x else (s.zone j).trim := fun j => setTrim_trim k j x _
    have hrate : ¬ (s.owing .trim tag).zoneRating k = 0 := hr
    have hfield : trimField z g = i8 x := by
      rw [trimField, trimZone_of_zone hz]
      show i8 (g.zone k).trim = _
      rw [htrim, if_pos rfl]
    have hact : actTrim z v (s.owing .trim tag) = answer ((if x = v.toInt then 0#8 else 1#8) :: i8 x) g := by
      rw [actTrim, trimZone_of_zone hz]
      dsimp only
      rw [if_neg hrate, clampInt_eq]
      show answer (_ ++ trimField z g) g = _
      rw [hfield]
      show answer (codeByte (if x = v.toInt then .ok else .clamped) ++ i8 x) g = _
      split <;> rfl
    obtain ⟨heq, hans⟩ := answer_far ((if x = v.toInt then 0#8 else 1#8) :: i8 x) (s := s) (g := g) (k := .trim) (tag := tag)
      (congrArg Calm.far hcalm)
    refine ⟨_, hexec.trans (congrArg Host.Outcome.next (hact.trans heq)), hans, htrim, (mode_of_calm hcalm :),
      (activeSet_of_calm hcalm :), (tracker_of_calm hcalm :), (maps_of_calm hcalm :), (spray_of_calm hcalm :), (wave_of_calm hcalm :),
      (extr_of_calm hcalm :)⟩

end Sys2Proof.Machine
end

section
/-! PROOFS. Entries of the Alarm Table one by one (R166, R167), and the timers that a warm-up watches (R7 to R9). -/

namespace Sys2Proof.Machine

/-! ### The entries, one by one (R166, R167) -/

section
variable (s : State) {k j : AlarmKind}

theorem occurrence_alarm_same (st : AlarmState) : (occurrence k st s).alarm k
    = { state := st, count := min 255 ((s.alarm k).count + 1), time := some (s.seconds, .current) } :=
  alarms_get_set_same _ _ _

theorem occurrence_alarm_other (st : AlarmState) (h : j ≠ k) : (occurrence k st s).alarm j = s.alarm j :=
  alarms_get_set_other _ _ _ _ h

theorem conditionEnds_alarm_same : (conditionEnds k s).alarm k = (s.alarm k).disappear := alarms_get_set_same _ _ _

theorem conditionEnds_alarm_other (h : j ≠ k) : (conditionEnds k s).alarm j = s.alarm j := alarms_get_set_other _ _ _ _ h

theorem conditionAppears_alarm_other (h : j ≠ k) : (conditionAppears k s).alarm j = s.alarm j := by
  unfold conditionAppears
  split
  · rfl
  · exact occurrence_alarm_other s _ h

@[simp] theorem conditionAppears_condition : (conditionAppears k s).condition k = true := by
  unfold conditionAppears
  split
  next h => exact h
  next => rw [State.condition, occurrence_alarm_same]; rfl

@[simp] theorem conditionEnds_condition : (conditionEnds k s).condition k = false := by
  rw [State.condition, conditionEnds_alarm_same]
  exact present_disappear _

theorem condition_congr {t : State} (h : t.alarm k = s.alarm k) : t.condition k = s.condition k := by
  unfold State.condition
  rw [h]

/-- A NOTICE alarm has no effect on the mode (R22). -/
theorem raise_of_notice (h : severity k = .notice) : raise k s = conditionAppears k s := by
  unfold raise
  rw [h]
  split
  next hp => rw [conditionAppears_of_present hp]
  next => rfl

@[simp] theorem conditionAppears_modes : (conditionAppears k s).modes = s.modes := by
  unfold conditionAppears; split <;> rfl

@[simp] theorem conditionAppears_heat : (conditionAppears k s).heat = s.heat := by
  unfold conditionAppears; split <;> rfl

@[simp] theorem conditionAppears_extr : (conditionAppears k s).extr = s.extr := by
  unfold conditionAppears; split <;> rfl

end

/-! ### The marks and the warm timers that a sweep leaves (R8, R9) -/

section
variable {k : ZoneId}

/-- The cursor passes over zones that do not lie ahead of it. -/
theorem advanceCursor_zone_other {ks : List ZoneId} (h : k ∉ ks) (s : State) : (advanceCursor ks s).zone k = s.zone k := by
  induction ks generalizing s with
  | nil => rfl
  | cons j rest ih =>
    obtain ⟨hj, hrest⟩ := not_or.mp (mt List.mem_cons.mpr h)
    have hstart : ((startZone j s).updWarm (fun w => { w with cursor := some j })).zone k = s.zone k :=
      zone_updZone_other s (fun z => { z with started := true }) hj
    unfold advanceCursor
    dsimp only
    split
    · split
      · rw [ih hrest, hstart]
      · exact hstart
    · exact ih hrest s

theorem advanceCursor_timer_other {ks : List ZoneId} (h : k ∉ ks) (s : State) :
    (advanceCursor ks s).modes.warm.map (·.timers.get k) = s.modes.warm.map (·.timers.get k) := by
  induction ks generalizing s with
  | nil => cases hw : s.modes.warm <;> simp [advanceCursor, State.updWarm, hw]
  | cons j rest ih =>
    obtain ⟨hj, hrest⟩ := not_or.mp (mt List.mem_cons.mpr h)
    have hstart : ((startZone j s).updWarm (fun w => { w with cursor := some j })).modes.warm.map (·.timers.get k)
        = s.modes.warm.map (·.timers.get k) := by
      cases hw : s.modes.warm <;> simp [startZone, State.updWarm, hw, six_get_set_other _ _ _ _ hj]
    unfold advanceCursor
    dsimp only
    split
    · split
      · rw [ih hrest, hstart]
      · exact hstart
    · exact ih hrest s

theorem startZone_started (s : State) (k : ZoneId) : ((startZone k s).zone k).started = true := by
  show ((s.updZone k (fun z => { z with started := true })).zone k).started = true
  rw [zone_updZone_same]

theorem startZone_keeps_started {s : State} {j : ZoneId} (h : (s.zone k).started = true) : ((startZone j s).zone k).started = true := by
  by_cases hj : k = j
  · subst hj
    exact startZone_started s k
  · show ((s.updZone j (fun z => { z with started := true })).zone k).started = true
    rw [zone_updZone_other s _ hj]
    exact h

/-- A zone that is started stays started as the cursor moves on. -/
theorem advanceCursor_keeps_started {ks : List ZoneId} {s : State} (h : (s.zone k).started = true) :
    ((advanceCursor ks s).zone k).started = true := by
  induction ks generalizing s with
  | nil => exact h
  | cons j rest ih =>
    have hstart : (((startZone j s).updWarm (fun w => { w with cursor := some j })).zone k).started = true :=
      startZone_keeps_started h
    unfold advanceCursor
    dsimp only
    split
    · split
      · exact ih hstart
      · exact hstart
    · exact ih h

/-- The cursor starts the first zone ahead of it that takes part. -/
theorem advanceCursor_starts {ks : List ZoneId} {s : State} (h : ks.find? s.takesPart = some k) :
    ((advanceCursor ks s).zone k).started = true := by
  induction ks generalizing s with
  | nil => cases h
  | cons j rest ih =>
    unfold advanceCursor
    dsimp only
    rw [List.find?_cons] at h
    by_cases hp : s.takesPart j = true
    · rw [hp] at h
      obtain rfl : j = k := Option.some.inj h
      have hstart : (((startZone j s).updWarm (fun w => { w with cursor := some j })).zone j).started = true :=
        startZone_started s j
      rw [if_pos hp]
      split
      · exact advanceCursor_keeps_started hstart
      · exact hstart
    · rw [if_neg hp]
      rw [Bool.not_eq_true] at hp
      rw [hp] at h
      exact ih h

end

section
variable (s : State)

@[simp] theorem settleTest_heat : (settleTest s).heat = s.heat := by
  unfold settleTest
  repeat' split
  all_goals rfl

theorem settleTest_timer (k : ZoneId) :
    (settleTest s).modes.warm.map (·.timers.get k) = s.modes.warm.map (·.timers.get k) := by
  have hmap : ∀ f : WarmUp → WarmUp, (∀ w, (f w).timers = w.timers) →
      (s.updWarm f).modes.warm.map (·.timers.get k) = s.modes.warm.map (·.timers.get k) := fun f hf => by
    cases hw : s.modes.warm <;> simp [State.updWarm, hw, hf]
  unfold settleTest
  split
  · split
    · exact hmap _ fun _ => rfl
    · rfl
  · split
    · rfl
    · exact hmap _ fun _ => rfl
  all_goals rfl

theorem settleTest_alarms : (settleTest s).alarms = s.alarms := by
  unfold settleTest
  repeat' split
  all_goals rfl

theorem startZone_alarms (k : ZoneId) : (startZone k s).alarms = s.alarms := rfl

theorem advanceCursor_alarms (ks : List ZoneId) (s : State) : (advanceCursor ks s).alarms = s.alarms := by
  induction ks generalizing s with
  | nil => rfl
  | cons k rest ih =>
    unfold advanceCursor
    dsimp only
    split
    · split
      · exact ih _
      · rfl
    · exact ih s

theorem moveCursor_alarms : (moveCursor s).alarms = s.alarms := by
  unfold moveCursor
  repeat' split
  · exact advanceCursor_alarms _ _
  all_goals rfl

theorem bandEntries_zone_out {k : ZoneId} (h : s.zoneInBand k = false) : (bandEntries s).zone k = s.zone k := by
  have hz : (bandEntries s).heat.zones
      = s.heat.zones.mapZones (fun k z => if z.started && s.zoneInBand k then { z with warmFail := false } else z) := by
    unfold bandEntries
    dsimp only
    split <;> rfl
  show (bandEntries s).heat.zones.get k = _
  rw [hz, six_get_mapZones, h, Bool.and_false]
  rfl

theorem bandEntries_timer_out {k : ZoneId} (h : s.zoneInBand k = false) :
    (bandEntries s).modes.warm.map (·.timers.get k) = s.modes.warm.map (·.timers.get k) := by
  rw [bandEntries_modes]
  cases hw : s.modes.warm <;> simp [State.enteredBand, h]

/-- ZONE_WARM_FAIL's condition stays while the mark of a zone out of band is set. -/
theorem bandEntries_keeps_warmFail {k : ZoneId} (h : s.zoneInBand k = false) (hk : (s.zone k).warmFail = true) :
    (bandEntries s).alarms = s.alarms := by
  have hmem : k ∈ allZones := by cases k <;> decide
  unfold bandEntries
  dsimp only
  rw [if_neg]
  · rfl
  · have hany : (((s.updWarm s.enteredBand).mapZones fun k z =>
        if z.started && s.zoneInBand k then { z with warmFail := false } else z)).anyWarmFail = true := by
      refine List.any_eq_true.mpr ⟨k, hmem, ?_⟩
      rw [zone_mapZones, h, Bool.and_false]
      exact hk
    intro hc
    rw [Bool.and_eq_true] at hc
    exact Bool.eq_false_iff.mp ((Bool.not_eq_true' _).mp hc.2) hany

end

/-- The cursor in stage ZONES stands on a zone whose warm timer has stopped. -/
theorem moveCursor_of_stopped {s : State} {w : WarmUp} {k : ZoneId} (hw : s.modes.warm = some w) (hst : w.stage = .zones)
    (hc : w.cursor = some k) (ht : w.timers.get k = .stopped) : moveCursor s = advanceCursor (zonesAfter k) s := by
  unfold moveCursor
  rw [hw]
  dsimp only
  rw [hst, hc]
  exact if_pos ht

theorem moveCursor_of_settle {s : State} {w : WarmUp} (hw : s.modes.warm = some w) (hst : w.stage = .settle) : moveCursor s = s := by
  unfold moveCursor
  rw [hw]
  dsimp only
  rw [hst]

theorem not_mem_zonesAfter (k : ZoneId) : k ∉ zonesAfter k := by cases k <;> decide

/-! ### The melt timer and a zone's warm timer (R7, R9) -/

/-- Settles O27: the melt timer changes one mark and one entry; a zone's warm timer marks the zone and lets the cursor go on, and
the sweep leaves a zone out of band as it is. -/
theorem warmUpTimersExpire : Obligations.WarmUpTimersExpire := by
  refine ⟨fun w s hw hst hr hl => ⟨fun he => ?counted, fun he hp => ?melt⟩, fun k w n s hm hw ht hst hl hb hc => ?zone⟩
  case counted =>
    refine congrArg Host.Outcome.next ?_
    unfold meltTimerExpires
    rw [hw]
    exact if_neg fun h => by rw [he] at h; cases h.2.1
  case melt =>
    have hexp : meltTimerExpires s = raise .potWarmFail (s.updWarm (fun w => { w with meltExpired := true })) := by
      unfold meltTimerExpires
      rw [hw]
      dsimp only
      rw [if_pos ⟨hst, he, hl⟩, hr]
      rfl
    have hmodes : (s.updWarm (fun w => { w with meltExpired := true })).modes
        = { s.modes with warm := some { w with meltExpired := true } } := by
      rw [updWarm_modes, hw]
      rfl
    have hcond : (s.updWarm (fun w => { w with meltExpired := true })).condition .potWarmFail = false := hp
    refine congrArg Host.Outcome.next (hexp.trans ?_)
    rw [raise_of_notice _ rfl, conditionAppears_of_absent hcond]
    exact congrArg (fun m => occurrence .potWarmFail .active { s with modes := m }) hmodes
  case zone =>
    let w' : WarmUp := { w with timers := w.timers.set k .stopped }
    let u := (s.updWarm (fun w => { w with timers := w.timers.set k .stopped })).updZone k (fun z => { z with warmFail := true })
    let v := conditionAppears .zoneWarmFail u
    have hexp : zoneTimesOut k s = warmSweep v := by
      unfold zoneTimesOut
      rw [hw]
      dsimp only
      rw [ht]
      dsimp only
      rw [if_pos ⟨hst, hl⟩, raise_of_notice _ rfl]
    have hvm : v.modes = { s.modes with warm := some w' } := by
      rw [show v.modes = u.modes from conditionAppears_modes u]
      show (s.updWarm (fun w => { w with timers := w.timers.set k .stopped })).modes = _
      rw [updWarm_modes, hw]
      rfl
    have hvz : v.zone k = { s.zone k with warmFail := true } := by
      show (conditionAppears .zoneWarmFail u).heat.zones.get k = _
      rw [conditionAppears_heat]
      exact zone_updZone_same _ _ _
    have hvfar : v.far = s.far := conditionAppears_far _ _
    have hvb : v.zoneInBand k = false := by
      rw [← hb]
      refine zoneInBand_congr hvfar (congrArg ModeCtl.mode hvm :) (congrArg ModeCtl.activeSet hvm :) ?_
      rw [hvz]
    have hvt : v.modes.warm = some w' := by rw [hvm]
    have hsweep : warmSweep v = afterLoops (settleTest (moveCursor (bandEntries v))) := if_pos ((congrArg ModeCtl.mode hvm).trans hm)
    have hbw : (bandEntries v).modes.warm = some (v.enteredBand w') := by rw [bandEntries_modes, hvt]; rfl
    have hbt : (v.enteredBand w').timers.get k = .stopped := by
      simp [State.enteredBand, hvb, w']
    -- where the cursor goes
    have hmove : (moveCursor (bandEntries v)).zone k = v.zone k
        ∧ (moveCursor (bandEntries v)).modes.warm.map (·.timers.get k) = some .stopped
        ∧ (w.stage = .zones → w.cursor = some k → ∀ j, (zonesAfter k).find? s.takesPart = some j →
          ((moveCursor (bandEntries v)).zone j).started = true) := by
      have hstay : (bandEntries v).zone k = v.zone k ∧ (bandEntries v).modes.warm.map (·.timers.get k) = some .stopped := by
        refine ⟨bandEntries_zone_out v hvb, ?_⟩
        rw [hbw]
        exact congrArg some hbt
      by_cases hgo : w.stage = .zones ∧ w.cursor = some k
      · rw [moveCursor_of_stopped hbw hgo.1 hgo.2 hbt]
        refine ⟨(advanceCursor_zone_other (not_mem_zonesAfter k) _).trans hstay.1,
          (advanceCursor_timer_other (not_mem_zonesAfter k) _).trans hstay.2, fun _ _ j hj => advanceCursor_starts ?_⟩
        have hpart : (bandEntries v).takesPart = s.takesPart := by
          funext j
          rw [takesPart_of_calm (bandEntries_calm v)]
          unfold State.takesPart
          rw [activeField_congr (congrArg ModeCtl.activeSet hvm :) (congrArg Far.store hvfar) (congrArg Far.freeIndex hvfar)]
        rw [hpart]
        exact hj
      · have hmoved : moveCursor (bandEntries v) = bandEntries v := by
          rcases hst with hst | hst
          · rcases hc with hc | hc
            · exact absurd ⟨hst, hc⟩ hgo
            · exact moveCursor_of_past hbw hc
          · exact moveCursor_of_settle hbw hst
        rw [hmoved]
        exact ⟨hstay.1, hstay.2, fun h1 h2 => absurd ⟨h1, h2⟩ hgo⟩
    obtain ⟨hzone, htimer, hstarts⟩ := hmove
    have hfinal : ∀ j, ((warmSweep v).zone j).started = ((moveCursor (bandEntries v)).zone j).started
        ∧ ((warmSweep v).zone j).warmFail = ((moveCursor (bandEntries v)).zone j).warmFail := fun j => by
      rw [hsweep, afterLoops_zone_started, afterLoops_zone_warmFail]
      unfold State.zone
      rw [settleTest_heat]
      exact ⟨rfl, rfl⟩
    refine ⟨warmSweep v, congrArg Host.Outcome.next hexp, sameOutside_of_far ((warmSweep_far v).trans hvfar), ?_, ?_, ?_, ?_,
      fun h1 h2 j hj => (hfinal j).1.trans (hstarts h1 h2 j hj), ?_, ?_, ?_⟩
    · rw [(hfinal k).2, hzone, hvz]
    · rw [(hfinal k).1, hzone, hvz]
    · have halarms : (warmSweep v).alarms = v.alarms := by
        rw [hsweep, afterLoops_alarms, settleTest_alarms, moveCursor_alarms,
          bandEntries_keeps_warmFail v hvb (by rw [hvz])]
      rw [condition_congr v (congrArg (AlarmTable.get · .zoneWarmFail) halarms)]
      exact conditionAppears_condition u
    · rw [hsweep, afterLoops_modes, settleTest_timer]
      exact htimer
    · rw [mode_of_calm (warmSweep_calm v), hvm]
      exact hm
    · exact (tracker_of_calm (warmSweep_calm v)).trans (conditionAppears_tracker _ _)
    · exact (extr_of_calm (warmSweep_calm v)).trans (conditionAppears_extr _)

end Sys2Proof.Machine
end

section
/-! PROOFS. Requests with lists of checks: ANNOUNCE, PURGE, REPORT_TAKE and the store requests (R32, R85, R86, R173, R182, R190). -/

namespace Sys2Proof.Machine

/-! ### The checks, one by one -/

section
variable {r : Request} {go : State → State} {s : State} {k : RequestKind} {tag : Byte} {l : List (Bool × RefusalCode)}

/-- A check that fails refuses the request; one that holds leaves the rest to decide. -/
theorem checked_step {b : Bool} {c : ResultCode} {i : Nat} {P : Prop} {_ : Decidable P} {x : State} (hb : b = true ↔ ¬ P)
    (hrest : checked r l go (s.owing k tag) = x) :
    checked r ((b, (c, i)) :: l) go (s.owing k tag)
      = if P then s.replying k tag (refusalPayload c i (requestFields r s)) else x := by
  by_cases hP : P
  · have hb' : b = false := by simpa [hP] using hb
    subst hb'
    rw [if_pos hP]
    exact checked_refused s k tag rfl
  · have hb' : b = true := hb.mpr hP
    subst hb'
    rw [if_neg hP]
    exact hrest

/-- A check on the fields names the field that is at fault. -/
theorem checked_fields (fault : Option Nat) : checked r [fieldCheck fault] go (s.owing k tag) = match fault with
    | some i => s.replying k tag (refusalPayload .badValue i (requestFields r s))
    | none => go (s.owing k tag) := by
  cases fault with
  | some i => exact checked_refused s k tag rfl
  | none => exact checked_taken rfl

theorem checked_none : checked r [] go (s.owing k tag) = go (s.owing k tag) := rfl

end

/-- A row with too few or too many fields is refused with BAD_VALUE and index 0 (R190). -/
theorem exec_malformed (tag : Byte) (finger : Bool) (r : Request) (s : State) (h : (s.shown finger r).hears)
    (hm : modeAllows (requestKind r) (s.shown finger r).modes.mode = true) (hw : r.wellFormed = false) :
    exec (commandOf tag finger r) s = .next ((s.shown finger r).replying (requestKind r) tag
      (refusalPayload .badValue 0 (requestFields r (s.shown finger r)))) := by
  have hm' : modeAllows (requestKind r) ((s.shown finger r).owing (requestKind r) tag).modes.mode = true := hm
  rw [exec_commandOf, requestArrives_hears tag r _ h, handle, hm', hw, Bool.not_true, Bool.not_false, if_neg (by decide),
    if_pos rfl, refuse_owing]

/-! ### ANNOUNCE (R31, R32) -/

theorem orientationOf_isSome (o : Byte) : (orientationOf o).isSome = decide (o.toNat < 2) := by
  unfold orientationOf
  split
  next h => rw [h]; rfl
  next h => rw [h]; rfl
  next h0 h1 =>
    symm
    rw [Option.isSome_none, decide_eq_false_iff_not]
    have h0' : o.toNat ≠ 0 := h0
    have h1' : o.toNat ≠ 1 := h1
    omega

theorem orientationOf_getD {o : Byte} (h : o.toNat < 2) :
    (orientationOf o).getD .normal = if o.toNat = 0 then .normal else .rotated := by
  unfold orientationOf
  split
  next h0 => rw [if_pos h0]; rfl
  next h1 => rw [if_neg (by omega)]; rfl
  next h0 h1 =>
    have h0' : o.toNat ≠ 0 := h0
    have h1' : o.toNat ≠ 1 := h1
    omega

theorem recipeOf_of_valid {s : State} {n : Nat} {r : Recipe} (h : (s.store.work.recipe n).item = .valid r) : s.recipeOf n = r := by
  unfold State.recipeOf
  rw [h]

theorem isValid_iff {α : Type} (x : Item α) : x.isValid = true ↔ ∃ a, x = .valid a := by
  cases x <;> simp [Item.isValid]

theorem classMatches_iff {s : State} {n : Nat} {r : Recipe} (h : (s.store.work.recipe n).item = .valid r) :
    s.classMatches n = true ↔ ∀ m, s.modes.activeSet = some m → r.set = m := by
  unfold State.classMatches
  rw [recipeOf_of_valid h]
  cases s.modes.activeSet <;> simp

/-- Settles O31: the checks in their order. -/
theorem announceChecksAndJoins : Obligations.AnnounceChecksAndJoins := by
  intro tag b slot o s hs hm free fields present refused
  let s' := s.owing .announce tag
  let joined : Announcement := { tag := b.toNat, slot := slot.toNat, orientation := (orientationOf o).getD .normal }
  let go : State → State := fun s => accept (fun t => u8 t.freePlaces) (admissionTest (announce joined s))
  have hexec : exec (.announce tag b slot o) s = .next (
      if ¬ fields then s.replying .announce tag (11#8 :: 0#8 :: free)
      else if present then s.replying .announce tag (9#8 :: free)
      else if s.freePlaces = 0 then s.replying .announce tag (7#8 :: free)
      else if ¬ (s.store.work.recipe slot.toNat).item.isValid = true then s.replying .announce tag (12#8 :: free)
      else if ¬ s.classMatches slot.toNat = true then s.replying .announce tag (14#8 :: free)
      else go s') := by
    refine (exec_act tag false (.announce b slot o) s hs hm rfl).trans (congrArg Host.Outcome.next ?_)
    show checked (.announce b slot o) [(_, (_, _)), (_, (_, _)), (_, (_, _)), (_, (_, _)), (_, (_, _))] go (s.owing .announce tag) = _
    refine checked_step (s := s) ?_ (checked_step (s := s) ?_ (checked_step (s := s) ?_ (checked_step (s := s) ?_
      (checked_step (s := s) ?_ checked_none))))
    · rw [not_not, orientationOf_isSome]
      simp only [fields, Bool.and_eq_true, decide_eq_true_eq, and_assoc]
      exact Iff.rfl
    · show (!(s.announced b.toNat || s.inTransit b.toNat)) = true ↔ ¬ present
      simp [present]
    · exact decide_eq_true_iff
    · rw [not_not]
      exact Iff.rfl
    · rw [not_not]
      exact Iff.rfl
  refine ⟨fun hf => ?_, fun hf hp => ?_, fun hf hp hz => ?_, fun hf hp hz hi => ?_, fun hf hp hz r hi => ⟨fun hc => ?_, fun hc => ?_⟩⟩
  · exact hexec.trans (congrArg _ (if_pos hf))
  all_goals rw [if_neg (not_not.mpr hf)] at hexec
  · exact hexec.trans (congrArg _ (if_pos hp))
  all_goals rw [if_neg hp] at hexec
  · exact hexec.trans (congrArg _ (if_pos hz))
  all_goals rw [if_neg hz] at hexec
  · exact hexec.trans (congrArg _ (if_pos fun h => (isValid_iff _).mp h |>.elim hi))
  all_goals rw [if_neg (not_not.mpr ((isValid_iff _).mpr ⟨r, hi⟩))] at hexec
  · obtain ⟨n, hn, hne⟩ := hc
    exact hexec.trans (congrArg _ (if_pos fun h => hne ((classMatches_iff hi).mp h n hn)))
  · rw [if_neg (not_not.mpr ((classMatches_iff hi).mpr hc))] at hexec
    have ht : admissionTest (announce joined s') = (admissionTest (announce joined s)).owing .announce tag :=
      admissionTest_owing (announce joined s) .announce tag
    intro u
    have hu : admissionTest (announce joined s) = u := by
      have hjoined : joined = { tag := b.toNat, slot := slot.toNat, orientation := if o.toNat = 0 then .normal else .rotated } := by
        simp only [joined, orientationOf_getD hf.2.2]
      rw [hjoined]
      rfl
    rw [hexec]
    show Host.Outcome.next (accept _ (admissionTest (announce joined s'))) = _
    rw [ht, accept_owing, hu]
    rfl

/-! ### PURGE (R85, R86) -/

theorem isIdle_iff (x : Running) : x.isIdle = true ↔ x = .idle := by cases x <;> simp [Running.isIdle]

/-- The Spray Controller as a taken PURGE leaves it. -/
theorem beginPurge_eq (s : State) (h : s.extr.state.sound = true) : beginPurge s = s.setSpray { s.spray with
    running := .purge (if s.spray.position = some 0 then .flush else .park) 0
    purge := .running
    purgeOpen := if s.spray.position = some 0 then true else s.spray.purgeOpen } := by
  unfold beginPurge
  split
  · rw [h]
  · rfl

/-- Settles O44: the mode check, the one check, and the purge. -/
theorem purgeTaken : Obligations.PurgeTaken := by
  intro tag s hs passes busy
  have hallows : modeAllows .purge s.modes.mode = true ↔ passes := by
    show (s.modes.mode == .ready || s.modes.mode == .hold || s.modes.mode == .standby) = true ↔ passes
    simp [passes, or_assoc]
  have hcheck : (s.spray.running.isIdle && s.spray.queue.isEmpty && s.extr.state.sound) = true ↔ ¬ busy := by
    simp only [busy, Bool.and_eq_true, isIdle_iff, List.isEmpty_iff, sound_iff]
    tauto
  have hexec : passes → exec (.purge tag) s = .next (if busy then s.replying .purge tag [3#8]
      else accept (fun t => u8 (purgeNumber t.spray.purge)) (beginPurge (s.owing .purge tag))) := fun hm => by
    refine (exec_act tag false .purge s hs (hallows.mpr hm) rfl).trans (congrArg Host.Outcome.next ?_)
    show checked .purge [(_, (_, _))] (fun s => accept (fun t => u8 (purgeNumber t.spray.purge)) (beginPurge s)) (s.owing .purge tag) = _
    refine checked_step (s := s) ?_ checked_none
    exact hcheck
  refine ⟨fun hm => ?_, fun hm hb => ?_, fun hm hb => ?_⟩
  · exact exec_wrongMode tag false .purge s hs (Bool.eq_false_iff.mpr (mt hallows.mp hm))
  · rw [hexec hm, if_pos hb]
  · have hsound : s.extr.state.sound = true := by
      rw [sound_iff]
      by_contra hx
      exact hb (.inr (.inr hx))
    rw [hexec hm, if_neg hb, beginPurge_eq (s.owing .purge tag) hsound]
    exact congrArg Host.Outcome.next (accept_owing _ (s.setSpray _) .purge tag)

/-! ### REPORT_TAKE (R173) -/

/-- Settles O55: the queue decides. -/
theorem reportTakeGivesTheOldest : Obligations.ReportTakeGivesTheOldest := by
  intro tag s hs
  have hexec : exec (.reportTake tag) s = .next (actReportTake (s.owing .reportTake tag)) :=
    exec_act tag false .reportTake s hs rfl rfl
  refine ⟨fun hq => ?_, fun p rest hq => ?_⟩
  · have hq' : (s.owing .reportTake tag).reports.queue = [] := hq
    rw [hexec, actReportTake, hq']
    exact congrArg _ (answer_owing _ _ _ _)
  · intro u
    have hq' : (s.owing .reportTake tag).reports.queue = p :: rest := hq
    have ht : admissionTest (({ s with reports := { s.reports with queue := rest } } : State).owing .reportTake tag)
        = u.owing .reportTake tag := admissionTest_owing _ _ _
    have hlen : u.reports.queue.length = rest.length := by
      obtain ⟨t, m, hu⟩ := admissionTest_eq { s with reports := { s.reports with queue := rest } }
      rw [show u = _ from hu]
    rw [hexec, actReportTake, hq']
    refine congrArg _ ((congrArg (accept _) ht).trans ((accept_owing _ _ _ _).trans ?_))
    show u.replying .reportTake tag (0#8 :: (reportBytes p ++ u8 u.reports.queue.length)) = _
    rw [hlen]
    rfl

end Sys2Proof.Machine
end

section
/-! PROOFS. The store requests: their checks in order, and the operation that begins (R180 to R182, R190). -/

namespace Sys2Proof.Machine

/-! ### The checks that the store requests share (R182) -/

section
variable (s : State)

theorem notBusy_iff : s.store.op.isNone = true ↔ ¬ s.store.op.isSome = true := by cases s.store.op <;> simp

theorem keyOn_iff : s.store.key = true ↔ ¬ s.store.key = false := by simp

theorem unlocked_iff (locked : Bool) : (s.store.key || !locked) = true ↔ ¬ (s.store.key = false ∧ locked = true) := by
  cases s.store.key <;> simp

theorem inRange_iff (n m : Nat) : decide (n < m) = true ↔ ¬ m ≤ n := by simp

theorem notInUse_iff (b : Bool) : (!b) = true ↔ ¬ b = true := by simp

end

/-- A check that holds leaves the rest to decide. -/
theorem checked_taken_head {r : Request} {b : Bool} {c : RefusalCode} {l : List (Bool × RefusalCode)} {go : State → State}
    {s : State} (h : b = true) : checked r ((b, c) :: l) go s = checked r l go s := by
  subst h
  rfl

/-- As `checked_step`, where the proposition is what one names. -/
theorem checked_head {r : Request} {go : State → State} {s : State} {k : RequestKind} {tag : Byte}
    {l : List (Bool × RefusalCode)} {b : Bool} {c : ResultCode} {i : Nat} {P : Prop} [Decidable P] {x : State}
    (hb : b = true ↔ ¬ P) (hrest : checked r l go (s.owing k tag) = x) :
    checked r ((b, (c, i)) :: l) go (s.owing k tag)
      = if P then s.replying k tag (refusalPayload c i (requestFields r s)) else x := checked_step hb hrest

/-! ### LOCK and UNLOCK (R182, R191) -/

section
variable {k n : Byte}

theorem lockItem_recipe (h : k.toNat = 0 ∧ n.toNat < 32) : lockItem k.toNat n.toNat = some (.recipe n.toNat) := if_pos h

theorem lockItem_thermal (h : k.toNat = 1 ∧ n.toNat < 8) : lockItem k.toNat n.toNat = some (.thermal n.toNat) := by
  unfold lockItem
  exact (if_neg (by omega)).trans (if_pos h)

theorem lockItem_none (h : ¬ (k.toNat = 0 ∧ n.toNat < 32) ∧ ¬ (k.toNat = 1 ∧ n.toNat < 8)) : lockItem k.toNat n.toNat = none := by
  unfold lockItem
  exact (if_neg h.1).trans (if_neg h.2)

/-- What a LOCK or UNLOCK of each named item does. -/
theorem actLock_owing (r : Request) (b : Bool) (kind : RequestKind) (tag : Byte) (s : State) (hr : ∀ u, requestFields r u = []) :
    actLock r k n b (s.owing kind tag) =
      if ¬ (k.toNat = 0 ∧ n.toNat < 32) ∧ ¬ (k.toNat = 1 ∧ n.toNat < 8) then s.replying kind tag [11#8, 0#8]
      else if s.store.op.isSome then s.replying kind tag [3#8]
      else if s.store.key = false then s.replying kind tag [6#8]
      else if k.toNat = 0 then
        if (s.store.work.recipe n.toNat).item.isValid then
          { s.owing kind tag with store := { s.store with op := some (.setLock (.recipe n.toNat) b) } }
        else s.replying kind tag [12#8]
      else if (s.store.work.set n.toNat).item.isValid then
        { s.owing kind tag with store := { s.store with op := some (.setLock (.thermal n.toNat) b) } }
      else s.replying kind tag [13#8] := by
  have hflip : ∀ (v : Bool) (x y : State), (if ¬ v = true then y else x) = if v = true then x else y := fun v x y => by
    cases v <;> rfl
  unfold actLock lockChecks
  dsimp only
  by_cases hnone : ¬ (k.toNat = 0 ∧ n.toNat < 32) ∧ ¬ (k.toNat = 1 ∧ n.toNat < 8)
  · rw [lockItem_none hnone, if_pos hnone]
    refine (checked_refused (c := .badValue) (i := 0) s kind tag rfl).trans ?_
    rw [hr]
    rfl
  rw [if_neg hnone]
  by_cases hrecipe : k.toNat = 0 ∧ n.toNat < 32
  · rw [lockItem_recipe hrecipe]
    refine (checked_taken_head rfl).trans ((checked_head (s := s) (notBusy_iff s) (checked_head (s := s) (keyOn_iff s)
      (checked_head (s := s) (P := ¬ (s.store.work.recipe n.toNat).item.isValid = true) not_not.symm checked_none))).trans ?_)
    rw [hr, if_pos hrecipe.1, hflip]
    rfl
  · have hthermal : k.toNat = 1 ∧ n.toNat < 8 := by
      by_contra h
      exact hnone ⟨hrecipe, h⟩
    rw [lockItem_thermal hthermal]
    refine (checked_taken_head rfl).trans ((checked_head (s := s) (notBusy_iff s) (checked_head (s := s) (keyOn_iff s)
      (checked_head (s := s) (P := ¬ (s.store.work.set n.toNat).item.isValid = true) not_not.symm checked_none))).trans ?_)
    rw [hr, if_neg (show ¬ k.toNat = 0 by omega), hflip]
    rfl

end

/-- Settles O58: each request by its list of checks, and the rows of the wrong length before them. -/
theorem storeRequestsBegin : Obligations.StoreRequestsBegin := by
  intro tag n k words f s hs hm refused begins fields
  have hmode : ∀ r : Request, (requestKind r = .thermalWrite ∨ requestKind r = .recipeWrite ∨ requestKind r = .recipeErase
      ∨ requestKind r = .lock ∨ requestKind r = .unlock) → modeAllows (requestKind r) s.modes.mode = true := fun r hr => by
    rcases hr with h | h | h | h | h <;> rw [h] <;> exact bne_iff_ne.mpr hm
  have hidle : s.modes.mode = .idle → modeAllows .configWrite s.modes.mode = true := fun h => by rw [h]; rfl
  refine ⟨fun hl hi => ?config, fun hl => ?thermal, fun hf => ?recipe, ?erase, ?locks, fun hl hi => ?configLength,
    fun hl => ?thermalLength, fun hf => ?recipeLength⟩
  case config =>
    refine (exec_act tag false (.configWrite words) s hs (hidle hi) (decide_eq_true hl)).trans (congrArg Host.Outcome.next ?_)
    show checked _ [(_, (_, _)), (_, (_, _)), _] (beginOp _) (s.owing .configWrite tag) = _
    refine checked_step (s := s) (notBusy_iff s) (checked_step (s := s) (keyOn_iff s) ((checked_fields _).trans ?_))
    cases configFault ⟨fields⟩ <;> rfl
  case thermal =>
    refine (exec_act tag false (.thermalWrite n words) s hs (hmode _ (.inl rfl)) (decide_eq_true hl)).trans
      (congrArg Host.Outcome.next ?_)
    show checked _ [(_, (_, _)), (_, (_, _)), (_, (_, _)), (_, (_, _)), _] (beginOp _) (s.owing .thermalWrite tag) = _
    refine checked_step (s := s) (inRange_iff _ _) (checked_step (s := s) (notBusy_iff s) (checked_step (s := s) (unlocked_iff s _)
      (checked_step (s := s) (notInUse_iff _) ((checked_fields _).trans ?_))))
    cases thermalFault ⟨fields⟩ <;> rfl
  case recipe =>
    refine (exec_act tag false (.recipeWrite n f) s hs (hmode _ (.inr (.inl rfl))) hf).trans (congrArg Host.Outcome.next ?_)
    show checked _ [(_, (_, _)), (_, (_, _)), (_, (_, _)), (_, (_, _)), _] (beginOp _) (s.owing .recipeWrite tag) = _
    refine checked_step (s := s) (inRange_iff _ _) (checked_step (s := s) (notBusy_iff s) (checked_step (s := s) (unlocked_iff s _)
      (checked_step (s := s) (notInUse_iff _) ((checked_fields _).trans ?_))))
    cases recipeFault f <;> rfl
  case erase =>
    refine (exec_act tag false (.recipeErase n) s hs (hmode _ (.inr (.inr (.inl rfl)))) rfl).trans (congrArg Host.Outcome.next ?_)
    show checked _ [(_, (_, _)), (_, (_, _)), (_, (_, _)), (_, (_, _))] (beginOp _) (s.owing .recipeErase tag) = _
    exact checked_step (s := s) (inRange_iff _ _) (checked_step (s := s) (notBusy_iff s) (checked_step (s := s) (unlocked_iff s _)
      (checked_step (s := s) (notInUse_iff _) checked_none)))
  case locks =>
    refine ⟨?_, ?_⟩
    · exact (exec_act tag false (.lock k n) s hs (hmode _ (.inr (.inr (.inr (.inl rfl))))) rfl).trans
        (congrArg Host.Outcome.next (actLock_owing _ true .lock tag s fun _ => rfl))
    · exact (exec_act tag false (.unlock k n) s hs (hmode _ (.inr (.inr (.inr (.inr rfl))))) rfl).trans
        (congrArg Host.Outcome.next (actLock_owing _ false .unlock tag s fun _ => rfl))
  case configLength => exact exec_malformed tag false (.configWrite words) s hs (hidle hi) (decide_eq_false hl)
  case thermalLength => exact exec_malformed tag false (.thermalWrite n words) s hs (hmode _ (.inl rfl)) (decide_eq_false hl)
  case recipeLength => exact exec_malformed tag false (.recipeWrite n f) s hs (hmode _ (.inr (.inl rfl))) hf

end Sys2Proof.Machine
end

section
/-! PROOFS. Which entries of the Alarm Table an operation can change: every other entry is as it was (R166, R167). -/

namespace Sys2Proof.Machine

section
variable {j : AlarmKind}

theorem alarm_of_alarms {s t : State} (h : t.alarms = s.alarms) : t.alarm j = s.alarm j := congrArg (AlarmTable.get · j) h

/-! ### Buffers, rows and strokes -/

section
variable (s : State)

@[simp] theorem compositionTest_alarms : (compositionTest s).alarms = s.alarms := by
  obtain ⟨m, hm⟩ := compositionTest_eq s
  rw [hm]

@[simp] theorem releaseBuffer_alarms (b : BufferId) : (releaseBuffer b s).alarms = s.alarms := by
  unfold releaseBuffer
  simp

@[simp] theorem rowResolved_alarms (b : BufferId) : (rowResolved b s).alarms = s.alarms := by
  unfold rowResolved
  split
  · rfl
  · dsimp only
    split <;> simp

@[simp] theorem skipRow_alarms (tag : Nat) (b : BufferId) (k : ExcKind) (dose : Nat) :
    (skipRow tag b k dose s).alarms = s.alarms := rowResolved_alarms _ b

@[simp] theorem sprayRow_alarms (tag : Nat) (b : BufferId) (dose : Nat) : (sprayRow tag b dose s).alarms = s.alarms :=
  rowResolved_alarms _ b

theorem dropRow_alarm (h : j ≠ .fluxPressLow) (e : StrokeEntry) (k : ExcKind) (p : Bool) : (dropRow e k p s).alarm j = s.alarm j := by
  unfold dropRow
  dsimp only
  split
  · rw [conditionAppears_alarm_other _ h]
    exact alarm_of_alarms (skipRow_alarms s _ _ _ _)
  · exact alarm_of_alarms (skipRow_alarms s _ _ _ _)

theorem serveRows_alarm (h : j ≠ .fluxPressLow) (es : List StrokeEntry) (s : State) : (serveRows es s).alarm j = s.alarm j := by
  induction es generalizing s with
  | nil => rfl
  | cons e rest ih =>
    unfold serveRows
    split
    · rfl
    · rw [ih, dropRow_alarm s h]

theorem serveQueue_alarm (h : j ≠ .fluxPressLow) : (serveQueue s).alarm j = s.alarm j := by
  unfold serveQueue
  split
  · rfl
  · exact serveRows_alarm h _ s

@[simp] theorem cutStroke_alarms (k : ExcKind) : (cutStroke k s).alarms = s.alarms := by
  unfold cutStroke
  split
  · exact skipRow_alarms _ _ _ _ _
  · rfl
  · rfl

@[simp] theorem cutPurge_alarms : (cutPurge s).alarms = s.alarms := by
  unfold cutPurge
  split <;> rfl

@[simp] theorem skipRows_alarms (es : List StrokeEntry) (s : State) : (skipRows es s).alarms = s.alarms := by
  induction es generalizing s with
  | nil => rfl
  | cons e rest ih =>
    unfold skipRows
    rw [ih, skipRow_alarms]

@[simp] theorem spraySafe_alarms : (spraySafe s).alarms = s.alarms := by
  show (cutPurge (skipRows _ (cutStroke .fluxSkip s))).alarms = _
  simp

theorem sprayExtractionLost_alarm (h : j ≠ .fluxPressLow) : (sprayExtractionLost s).alarm j = s.alarm j := by
  unfold sprayExtractionLost
  split
  · rfl
  · rw [serveQueue_alarm _ h]
    exact alarm_of_alarms (cutStroke_alarms s _)
  · rw [serveQueue_alarm _ h]
    exact alarm_of_alarms (cutPurge_alarms s)

theorem sprayAtMode_alarm (new : Mode) (h : j ≠ .fluxPressLow) : (sprayAtMode new s).alarm j = s.alarm j := by
  have hcut : (match s.spray.running with
      | .purge _ _ => serveQueue (cutPurge s)
      | .idle => s
      | .stroke _ => s).alarm j = s.alarm j := by
    split
    · rw [serveQueue_alarm _ h]
      exact alarm_of_alarms (cutPurge_alarms s)
    · rfl
    · rfl
  cases new with
  | safe => exact alarm_of_alarms (spraySafe_alarms s)
  | idle => exact hcut
  | warmup => exact hcut
  | calibrating => exact hcut
  | ready | run | drain | hold | standby => rfl

end

/-! ### The extraction, the supply, the wave and the conveyor -/

section
variable (s : State)

theorem judgeQuiet_alarm_other {k : AlarmKind} (b : Bool) (h : j ≠ k) : (judgeQuiet k b s).alarm j = s.alarm j := by
  unfold judgeQuiet
  split
  · exact conditionAppears_alarm_other s h
  · exact conditionEnds_alarm_other s h

/-- The entries that a change of the extraction state can change. -/
def extractKinds : List AlarmKind := [.fluxPressLow, .extractWarn, .extractFail]

theorem changeExtraction_alarm (h : j ∉ extractKinds) (new : ExtState) : (changeExtraction new s).alarm j = s.alarm j := by
  simp only [extractKinds, List.mem_cons, List.not_mem_nil, or_false, not_or] at h
  obtain ⟨hp, hw, hf⟩ := h
  unfold changeExtraction
  dsimp only
  split
  · rw [sprayExtractionLost_alarm _ hp, judgeQuiet_alarm_other _ _ hf, judgeQuiet_alarm_other _ _ hw]
    rfl
  · rw [judgeQuiet_alarm_other _ _ hf, judgeQuiet_alarm_other _ _ hw]
    rfl

theorem fanSync_alarm (h : j ∉ extractKinds) : (fanSync s).alarm j = s.alarm j := by
  unfold fanSync
  split
  · rfl
  · split
    · exact changeExtraction_alarm _ h _
    · exact changeExtraction_alarm _ h _

theorem judgeFume_alarm (h : j ∉ extractKinds) (hot : Bool) : (judgeFume hot s).alarm j = s.alarm j := fanSync_alarm _ h

theorem judgeSupply_alarm (h : j ≠ .supplyLow) : (judgeSupply s).alarm j = s.alarm j := by
  unfold judgeSupply
  split
  · exact conditionAppears_alarm_other _ h
  · exact conditionEnds_alarm_other _ h

theorem supplyAtMode_alarm (h : j ≠ .supplyLow) (old new : Mode) : (supplyAtMode old new s).alarm j = s.alarm j := by
  unfold supplyAtMode
  split
  · rfl
  · exact judgeSupply_alarm s h

theorem failSearch_alarm (h : j ≠ .calFail) (c : CalCause) : (failSearch c s).alarm j = s.alarm j := by
  unfold failSearch eventOccurs
  rw [occurrence_alarm_other _ _ h]
  exact alarm_of_alarms (waveSync_alarms _)

theorem searchAtSafe_alarm (h : j ≠ .calFail) : (searchAtSafe s).alarm j = s.alarm j := by
  unfold searchAtSafe
  split
  · exact failSearch_alarm s h _
  · rfl
  · rfl

theorem judgeSide_alarm (h : j ≠ .waveLimit) (side : WaveSide) : (judgeSide side s).alarm j = s.alarm j := by
  have hlimit : (if side = .none then conditionEnds .waveLimit (s.setWave { s.wave with side := side })
      else conditionAppears .waveLimit (s.setWave { s.wave with side := side })).alarm j = s.alarm j := by
    split
    · exact conditionEnds_alarm_other _ h
    · exact conditionAppears_alarm_other _ h
  unfold judgeSide
  dsimp only
  split
  · exact hlimit
  · exact hlimit

theorem computeDrive_alarm (h : j ≠ .waveLimit) (level : Int) : (computeDrive level s).alarm j = s.alarm j := by
  unfold computeDrive
  dsimp only
  rw [alarm_of_alarms (waveSync_alarms _)]
  exact judgeSide_alarm s h _

theorem waveAtMode_alarm (h : j ≠ .waveLimit) (old new : Mode) : (waveAtMode old new s).alarm j = s.alarm j := by
  unfold waveAtMode
  split
  · exact computeDrive_alarm s h _
  · split
    · rw [judgeSide_alarm _ h]
      exact alarm_of_alarms (waveSync_alarms _)
    · exact alarm_of_alarms (waveSync_alarms s)

theorem conveyorSync_alarm (h : j ≠ .conveyorDev) : (conveyorSync s).alarm j = s.alarm j := by
  unfold conveyorSync
  split
  · rfl
  · split
    · rfl
    · exact conditionEnds_alarm_other _ h

@[simp] theorem trackAtMode_alarms (new : Mode) : (trackAtMode new s).alarms = s.alarms := by cases new <;> rfl

end

/-! ### An entry into a mode -/

/-- The entries that an entry into any mode can change. -/
def enterKinds : List AlarmKind := [.potWarmFail, .supplyLow, .fluxPressLow, .extractWarn, .extractFail, .waveLimit, .conveyorDev]

/-- The entries that an entry into a mode can change by its own marks. -/
def Mode.markKinds : Mode → List AlarmKind
  | .idle => [.potCold, .zoneOvertemp, .zoneWarmFail]
  | .standby => [.potCold, .zoneWarmFail]
  | .safe => [.zoneWarmFail, .calFail]
  | .warmup | .ready | .run | .drain | .hold | .calibrating => []

theorem entryMarks_alarm (s : State) {new : Mode} (h : j ∉ new.markKinds) : (entryMarks new s).alarm j = s.alarm j := by
  cases new with
  | idle =>
    simp only [Mode.markKinds, List.mem_cons, List.not_mem_nil, or_false, not_or] at h
    obtain ⟨hcold, hover, hwarm⟩ := h
    rw [entryMarks, conditionEnds_alarm_other _ hcold, idleMarks, conditionEnds_alarm_other _ hover]
    exact conditionEnds_alarm_other (k := .zoneWarmFail) _ hwarm
  | standby =>
    simp only [Mode.markKinds, List.mem_cons, List.not_mem_nil, or_false, not_or] at h
    rw [entryMarks, conditionEnds_alarm_other _ h.1]
    exact conditionEnds_alarm_other (k := .zoneWarmFail) _ h.2
  | safe =>
    simp only [Mode.markKinds, List.mem_cons, List.not_mem_nil, or_false, not_or] at h
    exact conditionEnds_alarm_other _ h.1
  | warmup | ready | run | drain | hold | calibrating => rfl

/-- An entry into a mode leaves the entries that it does not name as they were. -/
theorem setMode_alarm {s : State} {new : Mode} (h : j ∉ enterKinds) (hm : j ∉ new.markKinds) : (setMode new s).alarm j = s.alarm j := by
  have hcal : new = .safe → j ≠ .calFail := fun hn hj => by
    subst hn
    rw [hj] at hm
    exact hm (by decide)
  simp only [enterKinds, List.mem_cons, List.not_mem_nil, or_false, not_or] at h
  obtain ⟨hwarm, hsupply, hflux, hextWarn, hextFail, hlimit, hdev⟩ := h
  have hext : j ∉ extractKinds := by simp [extractKinds, hflux, hextWarn, hextFail]
  have hset : (modeSet new s).alarm j = s.alarm j := by
    unfold modeSet
    dsimp only
    split
    · exact conditionEnds_alarm_other _ hwarm
    · rfl
  have hjudged : (modeJudged new s).alarm j = s.alarm j := by
    rw [modeJudged, fanSync_alarm _ hext, supplyAtMode_alarm _ hsupply, entryMarks_alarm _ hm, hset]
  have hspray : (sprayAtMode new (modeJudged new s)).alarm j = s.alarm j := (sprayAtMode_alarm _ new hflux).trans hjudged
  have hsearch : (if new = .safe then searchAtSafe (sprayAtMode new (modeJudged new s))
      else sprayAtMode new (modeJudged new s)).alarm j = s.alarm j := by
    split
    next hn => rw [searchAtSafe_alarm _ (hcal hn), hspray]
    next => exact hspray
  rw [setMode_eq, alarm_of_alarms (afterLoops_alarms _), conveyorSync_alarm _ hdev, alarm_of_alarms (trackAtMode_alarms _ _),
    waveAtMode_alarm _ hlimit, hsearch]

/-! ### Entries with forced standby behind them, and severities -/

/-- The entries that the Mode Controller's operations can change. -/
def modeKinds : List AlarmKind :=
  [.potWarmFail, .supplyLow, .fluxPressLow, .extractWarn, .extractFail, .waveLimit, .conveyorDev, .potCold, .zoneOvertemp,
   .zoneWarmFail, .calFail]

theorem setMode_alarm_far {s : State} (h : j ∉ modeKinds) (new : Mode) : (setMode new s).alarm j = s.alarm j := by
  have henter : j ∉ enterKinds := fun hj => h (by
    revert hj
    cases j <;> decide)
  have hmark : j ∉ new.markKinds := fun hj => h (by
    revert hj
    cases new <;> cases j <;> decide)
  exact setMode_alarm henter hmark

section
variable (h : j ∉ modeKinds) (s : State)
include h

theorem toDrain_alarm (t : DrainTarget) : (toDrain t s).alarm j = s.alarm j := setMode_alarm_far h _

theorem drainCompletes_alarm : (drainCompletes s).alarm j = s.alarm j := by
  unfold drainCompletes
  split
  · exact setMode_alarm_far h _
  · rfl

theorem forceStandby_alarm : (forceStandby s).alarm j = s.alarm j := by
  unfold forceStandby
  split
  · exact setMode_alarm_far h _
  · rw [drainCompletes_alarm h, toDrain_alarm h]
  · split <;> rfl
  · rw [drainCompletes_alarm h, toDrain_alarm h]
  all_goals rfl

theorem forcedTest_alarm : (forcedTest s).alarm j = s.alarm j := by
  unfold forcedTest
  split
  · exact forceStandby_alarm h _
  · rfl

theorem drainTest_alarm : (drainTest s).alarm j = s.alarm j := (forcedTest_alarm h _).trans (drainCompletes_alarm h s)

theorem enterReady_alarm : (enterReady s).alarm j = s.alarm j := (forcedTest_alarm h _).trans (setMode_alarm_far h _)

theorem enterRun_alarm : (enterRun s).alarm j = s.alarm j := (forcedTest_alarm h _).trans (setMode_alarm_far h _)

theorem enterDrain_alarm (t : DrainTarget) : (enterDrain t s).alarm j = s.alarm j := (drainTest_alarm h _).trans (toDrain_alarm h s t)

theorem enterHold_alarm : (enterHold s).alarm j = s.alarm j := (forcedTest_alarm h _).trans (setMode_alarm_far h _)

theorem react_alarm (sev : Severity) : (react sev s).alarm j = s.alarm j := by
  cases sev with
  | notice => rfl
  | stop =>
    unfold react
    dsimp only
    split
    · exact enterDrain_alarm h s _
    · rfl
  | safe =>
    unfold react
    dsimp only
    split
    · rfl
    · exact setMode_alarm_far h _

theorem raise_alarm_other {k : AlarmKind} (hk : j ≠ k) : (raise k s).alarm j = s.alarm j := by
  unfold raise
  split
  · rfl
  · rw [react_alarm h, conditionAppears_alarm_other s hk]

theorem occur_alarm_other {k : AlarmKind} (hk : j ≠ k) : (occur k s).alarm j = s.alarm j := by
  unfold occur
  rw [react_alarm h]
  exact occurrence_alarm_other s _ hk

theorem judge_alarm_other {k : AlarmKind} (hk : j ≠ k) (b : Bool) : (judge k b s).alarm j = s.alarm j := by
  unfold judge
  split
  · exact raise_alarm_other h s hk
  · exact conditionEnds_alarm_other s hk

/-- The entry of an alarm that occurs is the occurrence's, where its severity's effect does not change it. -/
theorem occur_alarm_same : (occur j s).alarm j
    = { state := .latched, count := min 255 ((s.alarm j).count + 1), time := some (s.seconds, .current) } := by
  unfold occur
  rw [react_alarm h]
  exact occurrence_alarm_same s _

theorem raise_condition : (raise j s).condition j = true := by
  unfold raise
  split
  next hp => exact hp
  next => rw [condition_congr _ (react_alarm h _ _), conditionAppears_condition]

theorem judge_condition (b : Bool) : (judge j b s).condition j = b := by
  unfold judge
  split
  next hb => rw [raise_condition h, hb]
  next hb => rw [conditionEnds_condition, Bool.eq_false_iff.mpr hb]

end

/-! ### Warm-up and the extraction state -/

section
variable (s : State)

theorem warmSweep_alarm_other (h : j ≠ .zoneWarmFail) : (warmSweep s).alarm j = s.alarm j := alarm_of_calm (warmSweep_calm s) h

theorem enterZones_alarm_other (h : j ≠ .zoneWarmFail) : (enterZones s).alarm j = s.alarm j := alarm_of_calm (enterZones_calm s) h

@[simp] theorem enterMelt_alarms : (enterMelt s).alarms = s.alarms := afterLoops_alarms _

theorem enterZonesTogether_alarm_other (h : j ≠ .zoneWarmFail) : (enterZonesTogether s).alarm j = s.alarm j := warmSweep_alarm_other _ h

theorem endExtraction_alarm_other (h : j ≠ .zoneWarmFail) : (endExtraction s).alarm j = s.alarm j := by
  unfold endExtraction
  split
  · exact enterZonesTogether_alarm_other s h
  · exact alarm_of_alarms (enterMelt_alarms s)

theorem warmMoltenLost_alarms : (warmMoltenLost s).alarms = s.alarms := by
  unfold warmMoltenLost
  split
  · rfl
  · split
    · exact enterMelt_alarms s
    · exact enterMelt_alarms s
    all_goals rfl
  all_goals rfl

end

section
variable (h : j ∉ modeKinds) (s : State)
include h

theorem not_zoneWarmFail_of_far : j ≠ .zoneWarmFail := fun hj => h (by rw [hj]; decide)

theorem not_extract_of_far : j ∉ extractKinds := fun hj => h (by
  revert hj
  cases j <;> decide)

theorem warmExtraction_alarm : (warmExtraction s).alarm j = s.alarm j := by
  unfold warmExtraction
  split
  · split
    · exact setMode_alarm_far h _
    · split
      · exact endExtraction_alarm_other s (not_zoneWarmFail_of_far h)
      · rfl
  · rfl

theorem extractionTo_alarm (new : ExtState) : (extractionTo new s).alarm j = s.alarm j := by
  unfold extractionTo
  dsimp only
  rw [warmExtraction_alarm h]
  split
  · rw [react_alarm h]
    exact changeExtraction_alarm s (not_extract_of_far h) new
  · exact changeExtraction_alarm s (not_extract_of_far h) new

theorem moltenLost_alarm : (moltenLost s).alarm j = s.alarm j := by
  have hcold : ∀ u : State, (coldIfWaveOn u).alarm j = u.alarm j := fun u => by
    unfold coldIfWaveOn
    split
    · exact raise_alarm_other h u fun hj => h (by rw [hj]; decide)
    · rfl
  have hsync : ∀ u : State, (waveSync u).alarm j = u.alarm j := fun u => alarm_of_alarms (waveSync_alarms u)
  unfold moltenLost
  dsimp only
  rw [alarm_of_alarms (warmMoltenLost_alarms _), hcold]
  split
  · rw [enterReady_alarm h, failSearch_alarm _ fun hj => h (by rw [hj]; decide), hsync]
    rfl
  · exact hsync _
  · exact hsync _

end

end

end Sys2Proof.Machine
end

section
/-! PROOFS. What changes of the mode, severities, warm-ups and the extraction state leave alone: the scanner, the store and the
link, the boards' places, the zones' presence and boosts, the pot's marks and level, the calibration record. -/

namespace Sys2Proof.Machine

/-- A zone without its marks, its trim and what a loop that rests has at 0. -/
def Zone.bare (z : Zone) : Zone := { z.steady with trim := 0, overMark := false }

/-- What changes of the mode leave alone. -/
structure Ground where
  far : Far
  activeSet : Option Nat
  zone : ZoneId → Zone
  loop : PotLoop
  frame : Nat × Bool × Six Bool × Bool
  molten : Bool
  fume : Bool × Bool
  level : Option Int
  tracker : Tracker
  duct : Suction × Bool
  record : CalRecord
  finger : Bool

def State.ground (s : State) : Ground :=
  { far := s.far, activeSet := s.modes.activeSet, zone := fun k => (s.zone k).bare, loop := s.heat.pot.inactive,
    frame := (s.heat.frameSlot, s.heat.potFiring, s.heat.zoneFiring, s.heat.sensorWaits), molten := s.pot.molten,
    fume := (s.pot.fumeHot, s.pot.fumeJudged), level := s.pot.level, tracker := s.tracker.plain,
    duct := (s.extr.suction, s.extr.feedback), record := s.wave.cal, finger := s.wave.finger }

/-! ### By the core, and by what a warm-up leaves -/

section
variable {s t : State}

theorem bare_of_inactive {x y : Zone} (h : x.inactive = y.inactive) : x.bare = y.bare := by
  have hb : ∀ z : Zone, z.bare = z.inactive.bare := fun _ => rfl
  rw [hb x, hb y, h]

/-- The ground of a state by its core. -/
theorem ground_of_core {c : Core} (h : t.core = c) (hc : t.wave.cal = s.wave.cal) (hf : t.wave.finger = s.wave.finger)
    (hg : c.quiet.reports = s.reports ∧ c.quiet.scan = s.scan ∧ c.quiet.store = s.store ∧ c.quiet.link = s.link
      ∧ c.quiet.uptime = s.uptime ∧ c.quiet.freeIndex = s.freeIndex ∧ c.quiet.pending = s.pending)
    (hset : c.quiet.modes.activeSet = s.modes.activeSet) (hzone : ∀ k, (c.heat.zones.get k).bare = (s.zone k).bare)
    (hheat : { c.heat with zones := s.heat.zones } = { s.heat with pot := s.heat.pot.inactive })
    (hpot : c.pot.molten = s.pot.molten ∧ c.pot.fumeHot = s.pot.fumeHot ∧ c.pot.fumeJudged = s.pot.fumeJudged
      ∧ c.pot.level = s.pot.level)
    (htracker : c.tracker = s.tracker.plain) (hduct : c.extr.suction = s.extr.suction ∧ c.extr.feedback = s.extr.feedback) :
    t.ground = s.ground := by
  subst h
  obtain ⟨hr, hsc, hst, hl, hu, hfr, hp⟩ := hg
  obtain ⟨hm, hh, hj, hlev⟩ := hpot
  have hfar : t.far = s.far := by
    show (⟨t.reports, t.scan, t.store, t.link, t.uptime, t.freeIndex, t.pending⟩ : Far) = _
    rw [show t.reports = _ from hr, show t.scan = _ from hsc, show t.store = _ from hst, show t.link = _ from hl,
      show t.uptime = _ from hu, show t.freeIndex = _ from hfr, show t.pending = _ from hp]
    rfl
  have hz : (fun k => (t.zone k).bare) = fun k => (s.zone k).bare := funext fun k => by
    rw [← hzone k]
    show _ = ((t.heat.zones.mapZones (fun _ (z : Zone) => z.inactive)).get k).bare
    rw [six_get_mapZones]
    rfl
  have hloop : t.heat.pot.inactive = s.heat.pot.inactive := congrArg (fun x : Heaters => x.pot) hheat
  have hframe : (t.heat.frameSlot, t.heat.potFiring, t.heat.zoneFiring, t.heat.sensorWaits)
      = (s.heat.frameSlot, s.heat.potFiring, s.heat.zoneFiring, s.heat.sensorWaits) :=
    (congrArg (fun x : Heaters => (x.frameSlot, x.potFiring, x.zoneFiring, x.sensorWaits)) hheat :)
  unfold State.ground
  rw [hfar, show t.modes.activeSet = _ from hset, hz, hloop, hframe, show t.pot.molten = _ from hm,
    show t.pot.fumeHot = _ from hh, show t.pot.fumeJudged = _ from hj, show t.pot.level = _ from hlev,
    show t.tracker.plain = _ from htracker, show t.extr.suction = _ from hduct.1, show t.extr.feedback = _ from hduct.2, hc, hf]

/-- What leaves the core and the calibration record alone leaves the ground alone. -/
theorem ground_of_same_core (h : t.core = s.core) (hc : t.wave.cal = s.wave.cal) (hf : t.wave.finger = s.wave.finger) :
    t.ground = s.ground := by
  refine ground_of_core h hc hf ⟨rfl, rfl, rfl, rfl, rfl, rfl, rfl⟩ rfl (fun k => ?_) rfl ⟨rfl, rfl, rfl, rfl⟩ rfl ⟨rfl, rfl⟩
  show ((s.heat.zones.mapZones (fun _ (z : Zone) => z.inactive)).get k).bare = _
  rw [six_get_mapZones]
  rfl

theorem ground_of_calm (h : t.calm = s.calm) : t.ground = s.ground := by
  have hz : (fun k => (t.zone k).bare) = fun k => (s.zone k).bare := funext fun k => by
    have hk := congrArg (fun c : Calm => c.zone k) h
    have hb : ∀ z : Zone, z.bare = z.steady.bare := fun _ => rfl
    rw [hb, hb (s.zone k), show (t.zone k).steady = (s.zone k).steady from hk]
  unfold State.ground
  rw [far_of_calm h, activeSet_of_calm h, hz, show t.heat.pot.inactive = _ from congrArg Calm.loop h,
    show (t.heat.frameSlot, t.heat.potFiring, t.heat.zoneFiring, t.heat.sensorWaits) = _ from congrArg Calm.frame h,
    molten_of_calm h, show t.pot.fumeHot = _ from congrArg (fun c : Calm => c.pot.fumeHot) h,
    show t.pot.fumeJudged = _ from congrArg (fun c : Calm => c.pot.fumeJudged) h,
    show t.pot.level = _ from congrArg (fun c : Calm => c.pot.level) h, tracker_of_calm h, extr_of_calm h, wave_of_calm h]
  rfl

end

/-! ### An entry into a mode -/

theorem retime_duct (e : Extraction) : (e.retime.suction, e.retime.feedback) = (e.suction, e.feedback) := by
  unfold Extraction.retime
  split <;> rfl

theorem enter_duct (new : ExtState) (e : Extraction) : ((e.enter new).suction, (e.enter new).feedback) = (e.suction, e.feedback) :=
  retime_duct _

theorem graceAt_duct (failed configured : Bool) (e : Extraction) :
    ((e.graceAt failed configured).suction, (e.graceAt failed configured).feedback) = (e.suction, e.feedback) := by
  unfold Extraction.graceAt
  split
  · split <;> rfl
  · rfl

theorem fanned_duct (wanted configured : Bool) (e : Extraction) :
    ((e.fanned wanted configured).suction, (e.fanned wanted configured).feedback) = (e.suction, e.feedback) := by
  unfold Extraction.fanned
  split
  · rfl
  · split
    · rw [graceAt_duct, enter_duct]
    · rw [graceAt_duct, enter_duct]

theorem marksAt_bare (s : State) (new : Mode) (k : ZoneId) (z : Zone) : (s.marksAt new k z).bare = z.bare := by
  cases new <;> rfl

section
variable (s : State)

theorem failSearch_wave (c : CalCause) : (failSearch c s).wave
    = { s.wave with phase := .none, outcome := .failed, cause := c,
                    output := (s.setWave { s.wave with phase := .none, outcome := .failed, cause := c }).waveTarget } :=
  waveSync_wave _

theorem searchAtSafe_record : (searchAtSafe s).wave.cal = s.wave.cal ∧ (searchAtSafe s).wave.finger = s.wave.finger := by
  unfold searchAtSafe
  split
  · rw [failSearch_wave]; exact ⟨rfl, rfl⟩
  · exact ⟨rfl, rfl⟩
  · exact ⟨rfl, rfl⟩

theorem waveMode_record (new : Mode) : (waveMode new s).wave.cal = s.wave.cal ∧ (waveMode new s).wave.finger = s.wave.finger := by
  have hspray : (sprayAtMode new (modeJudged new s)).wave = s.wave := by simp
  unfold waveMode
  split
  · obtain ⟨hc, hf⟩ := searchAtSafe_record (sprayAtMode new (modeJudged new s))
    rw [hc, hf, hspray]
    exact ⟨rfl, rfl⟩
  · rw [hspray]
    exact ⟨rfl, rfl⟩

theorem waveSync_record : (waveSync s).wave.cal = s.wave.cal ∧ (waveSync s).wave.finger = s.wave.finger := by
  rw [waveSync_wave]
  exact ⟨rfl, rfl⟩

theorem computeDrive_record (level : Int) :
    (computeDrive level s).wave.cal = s.wave.cal ∧ (computeDrive level s).wave.finger = s.wave.finger := by
  unfold computeDrive
  dsimp only
  rw [waveSync_wave]
  simp

theorem waveAtMode_record (old new : Mode) :
    (waveAtMode old new s).wave.cal = s.wave.cal ∧ (waveAtMode old new s).wave.finger = s.wave.finger := by
  unfold waveAtMode
  split
  · exact computeDrive_record s _
  · split
    · simp
    · exact waveSync_record s

theorem setMode_record (new : Mode) : (setMode new s).wave.cal = s.wave.cal ∧ (setMode new s).wave.finger = s.wave.finger := by
  obtain ⟨hc, hf⟩ := waveAtMode_record (waveMode new s) s.modes.mode new
  obtain ⟨hc', hf'⟩ := waveMode_record s new
  rw [setMode_wave, hc, hf, hc', hf']
  exact ⟨rfl, rfl⟩

@[simp] theorem setMode_ground (new : Mode) : (setMode new s).ground = s.ground := by
  obtain ⟨hc, hf⟩ := setMode_record s new
  refine ground_of_core (setMode_core new s) hc hf ⟨rfl, rfl, rfl, rfl, rfl, rfl, rfl⟩ (by simp) (fun k => ?_) rfl
    ⟨rfl, rfl, rfl, rfl⟩ rfl ?_
  · show (((s.heat.zones.mapZones (s.marksAt new)).mapZones (fun _ (z : Zone) => z.inactive)).get k).bare = _
    rw [six_get_mapZones, six_get_mapZones]
    exact marksAt_bare s new k _
  · have h := fanned_duct (new.fanWanted s.pot.fumeHot) s.configured s.extr
    exact ⟨congrArg Prod.fst h, congrArg Prod.snd h⟩

/-! ### What is made of entries into modes -/

@[simp] theorem setModes_drain_ground (d : DrainTarget) : (s.setModes { s.modes with drain := d }).ground = s.ground := rfl

@[simp] theorem toDrain_ground (t : DrainTarget) : (toDrain t s).ground = s.ground := setMode_ground _ _

@[simp] theorem drainCompletes_ground : (drainCompletes s).ground = s.ground := by
  unfold drainCompletes
  split
  · exact setMode_ground _ _
  · rfl

@[simp] theorem forceStandby_ground : (forceStandby s).ground = s.ground := by
  unfold forceStandby
  split
  · exact setMode_ground _ _
  · simp
  · split <;> rfl
  · simp
  all_goals rfl

@[simp] theorem forcedTest_ground : (forcedTest s).ground = s.ground := by
  unfold forcedTest
  split
  · exact forceStandby_ground _
  · rfl

@[simp] theorem drainTest_ground : (drainTest s).ground = s.ground := by simp [drainTest]

@[simp] theorem enterReady_ground : (enterReady s).ground = s.ground := by simp [enterReady]

@[simp] theorem enterRun_ground : (enterRun s).ground = s.ground := by simp [enterRun]

@[simp] theorem enterDrain_ground (t : DrainTarget) : (enterDrain t s).ground = s.ground := by simp [enterDrain]

@[simp] theorem enterHold_ground : (enterHold s).ground = s.ground := by
  unfold enterHold
  rw [forcedTest_ground, setMode_ground]
  rfl

@[simp] theorem react_ground (sev : Severity) : (react sev s).ground = s.ground := by
  cases sev with
  | notice => rfl
  | stop =>
    unfold react
    dsimp only
    split
    · exact enterDrain_ground s _
    · rfl
  | safe =>
    unfold react
    dsimp only
    split
    · rfl
    · exact setMode_ground s _

@[simp] theorem conditionEnds_ground (k : AlarmKind) : (conditionEnds k s).ground = s.ground := rfl

@[simp] theorem occurrence_ground (k : AlarmKind) (st : AlarmState) : (occurrence k st s).ground = s.ground := rfl

@[simp] theorem conditionAppears_ground (k : AlarmKind) : (conditionAppears k s).ground = s.ground := by
  unfold conditionAppears
  split <;> rfl

@[simp] theorem raise_ground (k : AlarmKind) : (raise k s).ground = s.ground := by
  unfold raise
  split <;> simp

@[simp] theorem occur_ground (k : AlarmKind) : (occur k s).ground = s.ground := by simp [occur, eventOccurs]

@[simp] theorem judge_ground (k : AlarmKind) (b : Bool) : (judge k b s).ground = s.ground := by
  unfold judge
  split <;> simp

/-! ### Warm-up, the extraction state and the molten state -/

@[simp] theorem warmSweep_ground : (warmSweep s).ground = s.ground := ground_of_calm (warmSweep_calm s)

@[simp] theorem afterLoops_ground : (afterLoops s).ground = s.ground := ground_of_calm (afterLoops_calm s)

@[simp] theorem settleLoops_ground : (settleLoops s).ground = s.ground := ground_of_calm (settleLoops_calm s)

@[simp] theorem enterMelt_ground : (enterMelt s).ground = s.ground := by
  unfold enterMelt
  rw [afterLoops_ground]
  rfl

theorem mapZones_ground {f : ZoneId → Zone → Zone} (hf : ∀ k z, (f k z).bare = z.bare) : (s.mapZones f).ground = s.ground := by
  have hz : (fun k => ((s.mapZones f).zone k).bare) = fun k => (s.zone k).bare := funext fun k => by rw [zone_mapZones, hf]
  exact congrArg (fun x => { s.ground with zone := x }) hz

@[simp] theorem unstartZones_ground : (unstartZones s).ground = s.ground := mapZones_ground s fun _ _ => rfl

@[simp] theorem startedTogether_ground : (startedTogether s).ground = s.ground := by
  unfold startedTogether
  rw [settleLoops_ground]
  exact mapZones_ground s fun _ _ => rfl

@[simp] theorem enterZonesTogether_ground : (enterZonesTogether s).ground = s.ground := by
  rw [enterZonesTogether_eq, warmSweep_ground, startedTogether_ground]

@[simp] theorem endExtraction_ground : (endExtraction s).ground = s.ground := by
  unfold endExtraction
  split <;> simp

@[simp] theorem warmExtraction_ground : (warmExtraction s).ground = s.ground := by
  unfold warmExtraction
  repeat' split
  all_goals simp

/-- What strokes, rows and the extraction items leave of the ground. -/
theorem ground_of_dry {t : State} {e : Extraction} (h : t.dry = { s.dry with extr := e })
    (hd : (e.suction, e.feedback) = (s.extr.suction, s.extr.feedback)) : t.ground = s.ground := by
  have hg : t.ground = (s.setExtr e).ground :=
    ground_of_same_core (core_of_dry (s := s.setExtr e) h) (congrArg (fun d : Dry => d.wave.cal) h)
      (congrArg (fun d : Dry => d.wave.finger) h)
  rw [hg]
  exact congrArg (fun x => { s.ground with duct := x }) hd

@[simp] theorem changeExtraction_ground (new : ExtState) : (changeExtraction new s).ground = s.ground :=
  ground_of_dry s (changeExtraction_dry new s) (by rw [graceAt_duct, enter_duct])

@[simp] theorem fanSync_ground : (fanSync s).ground = s.ground := ground_of_dry s (fanSync_dry s) (fanned_duct _ _ _)

@[simp] theorem extractionTo_ground (new : ExtState) : (extractionTo new s).ground = s.ground := by
  unfold extractionTo
  dsimp only
  rw [warmExtraction_ground]
  split <;> simp

@[simp] theorem waveSync_ground : (waveSync s).ground = s.ground :=
  ground_of_same_core (waveSync_core s) (waveSync_record s).1 (waveSync_record s).2

@[simp] theorem failSearch_ground (c : CalCause) : (failSearch c s).ground = s.ground := by
  refine ground_of_same_core (failSearch_core s c) ?_ ?_
  · rw [failSearch_wave]
  · rw [failSearch_wave]

@[simp] theorem computeDrive_ground (level : Int) : (computeDrive level s).ground = s.ground :=
  ground_of_same_core (computeDrive_core s level) (computeDrive_record s level).1 (computeDrive_record s level).2

@[simp] theorem coldIfWaveOn_ground : (coldIfWaveOn s).ground = s.ground := by
  unfold coldIfWaveOn
  split <;> simp

@[simp] theorem warmMoltenLost_ground : (warmMoltenLost s).ground = s.ground := by
  unfold warmMoltenLost
  split
  · rfl
  · split
    · exact enterMelt_ground s
    · exact enterMelt_ground s
    · rw [settleLoops_ground, unstartZones_ground]
      rfl
    all_goals rfl
  all_goals rfl

theorem moltenLost_ground : (moltenLost s).ground = { s.ground with molten := false } := by
  unfold moltenLost
  dsimp only
  rw [warmMoltenLost_ground, coldIfWaveOn_ground]
  split
  · rw [enterReady_ground, failSearch_ground, waveSync_ground]
    rfl
  · rw [waveSync_ground]
    rfl
  · rw [waveSync_ground]
    rfl

@[simp] theorem potAtMelt_ground : (potAtMelt s).ground = s.ground := rfl

@[simp] theorem soakInterrupted_ground : (soakInterrupted s).ground = s.ground := rfl

theorem judgeFume_ground (hot : Bool) : (judgeFume hot s).ground = { s.ground with fume := (hot, true) } := by
  unfold judgeFume
  rw [fanSync_ground]
  rfl

end

/-! ### Items read from the ground -/

section
variable {s t : State} (h : t.ground = s.ground)
include h

theorem far_of_ground : t.far = s.far := congrArg Ground.far h
theorem activeSet_of_ground : t.modes.activeSet = s.modes.activeSet := congrArg Ground.activeSet h
theorem molten_of_ground : t.pot.molten = s.pot.molten := congrArg Ground.molten h
theorem level_of_ground : t.pot.level = s.pot.level := congrArg Ground.level h
theorem fumeHot_of_ground : t.pot.fumeHot = s.pot.fumeHot := congrArg (fun g : Ground => g.fume.1) h
theorem fumeJudged_of_ground : t.pot.fumeJudged = s.pot.fumeJudged := congrArg (fun g : Ground => g.fume.2) h
theorem potOver_of_ground : t.heat.pot.overMark = s.heat.pot.overMark := congrArg (fun g : Ground => g.loop.overMark) h
theorem tripInput_of_ground : t.heat.pot.tripInput = s.heat.pot.tripInput := congrArg (fun g : Ground => g.loop.tripInput) h
theorem presence_of_ground (k : ZoneId) : (t.zone k).presence = (s.zone k).presence := congrArg (fun g : Ground => (g.zone k).presence) h
theorem last_of_ground (k : ZoneId) : (t.zone k).last = (s.zone k).last := congrArg (fun g : Ground => (g.zone k).last) h
theorem boost_of_ground (k : ZoneId) : (t.zone k).boost = (s.zone k).boost := congrArg (fun g : Ground => (g.zone k).boost) h
theorem record_of_ground : t.wave.cal = s.wave.cal := congrArg Ground.record h
theorem frameSlot_of_ground : t.heat.frameSlot = s.heat.frameSlot := congrArg (fun g : Ground => g.frame.1) h
theorem sensorWaits_of_ground : t.heat.sensorWaits = s.heat.sensorWaits := congrArg (fun g : Ground => g.frame.2.2.2) h
theorem suction_of_ground : t.extr.suction = s.extr.suction := congrArg (fun g : Ground => g.duct.1) h
theorem feedback_of_ground : t.extr.feedback = s.extr.feedback := congrArg (fun g : Ground => g.duct.2) h

end

end Sys2Proof.Machine
end

section
/-! PROOFS. The entry into SAFE at the Spray Controller, the records and the search (R23, R49, R83, R141), and POT_OVERTEMP by its
two parts (R106). -/

namespace Sys2Proof.Machine

/-! ### The spray items -/

section
variable (s : State)

@[simp] theorem waveSync_spray : (waveSync s).spray = s.spray := by
  obtain ⟨p, t, h⟩ := waveSync_eq s
  rw [h]; rfl

@[simp] theorem failSearch_spray (c : CalCause) : (failSearch c s).spray = s.spray := by
  unfold failSearch eventOccurs
  simp

@[simp] theorem searchAtSafe_spray : (searchAtSafe s).spray = s.spray := by
  unfold searchAtSafe
  split <;> simp

@[simp] theorem judgeSide_spray (side : WaveSide) : (judgeSide side s).spray = s.spray := by
  have hlimit : (if side = .none then conditionEnds .waveLimit (s.setWave { s.wave with side := side })
      else conditionAppears .waveLimit (s.setWave { s.wave with side := side })).spray = s.spray := by
    split <;> simp
  unfold judgeSide
  dsimp only
  split <;> simpa using hlimit

@[simp] theorem computeDrive_spray (level : Int) : (computeDrive level s).spray = s.spray := by simp [computeDrive]

@[simp] theorem waveAtMode_spray (old new : Mode) : (waveAtMode old new s).spray = s.spray := by
  unfold waveAtMode
  repeat' split
  all_goals simp

@[simp] theorem conveyorSync_spray : (conveyorSync s).spray = s.spray := by
  unfold conveyorSync
  repeat' split
  all_goals rfl

@[simp] theorem trackAtMode_spray (new : Mode) : (trackAtMode new s).spray = s.spray := by cases new <;> rfl

/-- The spray items after a mode entry are what the Spray Controller and the search have made of them. -/
theorem setMode_spray (new : Mode) : (setMode new s).spray = (sprayAtMode new (modeJudged new s)).spray := by
  rw [setMode_eq, afterLoops_spray, conveyorSync_spray, trackAtMode_spray, waveAtMode_spray]
  split
  · exact searchAtSafe_spray _
  · rfl

@[simp] theorem skipRows_spray (es : List StrokeEntry) (s : State) : (skipRows es s).spray = { s.spray with queue := [] } := by
  induction es generalizing s with
  | nil => rfl
  | cons e rest ih =>
    unfold skipRows
    rw [ih, skipRow_spray]

theorem cutStroke_running (k : ExcKind) : ∀ r, (cutStroke k s).spray.running ≠ .stroke r := by
  intro r
  unfold cutStroke
  split
  next => rw [skipRow_spray]; exact fun h => nomatch (h : Running.idle = .stroke r)
  next h => rw [h]; exact nofun
  next h => rw [h]; exact nofun

theorem cutPurge_running : (cutPurge s).spray.running = match s.spray.running with
    | .purge _ _ => .idle
    | .idle => .idle
    | .stroke r => .stroke r := by
  unfold cutPurge
  cases h : s.spray.running with
  | purge => rfl
  | idle => exact h
  | stroke => exact h

@[simp] theorem cutPurge_queue : (cutPurge s).spray.queue = s.spray.queue := by
  unfold cutPurge
  split <;> rfl

/-- The Spray Controller after its entry into SAFE: at rest, with nothing waiting and both valves closed (R83). -/
theorem spraySafe_spray : (spraySafe s).spray.running = .idle ∧ (spraySafe s).spray.queue = []
    ∧ (spraySafe s).spray.sprayOpen = false ∧ (spraySafe s).spray.purgeOpen = false := by
  let u := skipRows (cutStroke .fluxSkip s).spray.queue (cutStroke .fluxSkip s)
  have hu : u.spray = { (cutStroke .fluxSkip s).spray with queue := [] } := skipRows_spray _ _
  refine ⟨?_, ?_, rfl, rfl⟩
  · show (cutPurge u).spray.running = .idle
    rw [cutPurge_running, hu]
    split
    · rfl
    · rfl
    next r h => exact absurd h (cutStroke_running s .fluxSkip r)
  · show (cutPurge u).spray.queue = []
    rw [cutPurge_queue, hu]

theorem setMode_safe_spray : (setMode .safe s).spray.running = .idle ∧ (setMode .safe s).spray.queue = []
    ∧ (setMode .safe s).spray.sprayOpen = false ∧ (setMode .safe s).spray.purgeOpen = false := by
  rw [setMode_spray]
  exact spraySafe_spray _

/-! ### The records and the search -/

/-- A record that overlaps the wave window at the entry into SAFE bears SAFE_PASS, or its list is full (R49). -/
theorem safePass_marked (r : Record) : r.safePass.exc.has .safePass = true ∨ r.safePass.exc.more = true := by
  unfold Record.safePass
  split
  next h => exact .inl h
  next h =>
    unfold Record.except ExcList.add
    dsimp only
    rw [if_neg (by rw [← ExcList.has]; exact h)]
    split
    · refine .inl ?_
      simp [ExcList.has]
    · exact .inr rfl

theorem safePass_inWave (r : Record) : r.safePass.inWave = r.inWave := by
  unfold Record.safePass
  split <;> rfl

theorem setMode_safe_records : ∀ r ∈ (setMode .safe s).tracker.records, r.inWave = true →
    r.exc.has .safePass = true ∨ r.exc.more = true := by
  intro r hr hin
  rw [setMode_eq, afterLoops_tracker, conveyorSync_records] at hr
  obtain ⟨q, -, rfl⟩ := List.mem_map.mp
    (show r ∈ List.map (fun q : Record => if q.inWave then q.safePass else q) (closeGate _).tracker.records from hr)
  by_cases h : q.inWave = true
  · rw [if_pos h]
    exact safePass_marked q
  · rw [if_neg h] at hin
    exact absurd hin h

/-- A search in progress fails at the entry into SAFE; a write goes on (R141). -/
theorem setMode_safe_search : (∀ d n w, s.wave.phase = .search d n w → (setMode .safe s).wave.phase = .none
      ∧ (setMode .safe s).wave.outcome = .failed ∧ (setMode .safe s).wave.cause = .safeAlarm)
    ∧ (∀ d l, s.wave.phase = .writing d l → (setMode .safe s).wave.phase = .writing d l)
    ∧ ∀ d n w, (setMode .safe s).wave.phase ≠ .search d n w := by
  let u := sprayAtMode .safe (modeJudged .safe s)
  have hu : u.wave = s.wave := by
    show (sprayAtMode .safe (modeJudged .safe s)).wave = _
    rw [sprayAtMode_wave, modeJudged_wave]
  have hwave : (setMode .safe s).wave.phase = (searchAtSafe u).wave.phase
      ∧ (setMode .safe s).wave.outcome = (searchAtSafe u).wave.outcome
      ∧ (setMode .safe s).wave.cause = (searchAtSafe u).wave.cause := by
    rw [setMode_wave, waveAtMode_wave_of_off _ rfl]
    exact ⟨rfl, rfl, rfl⟩
  obtain ⟨hphase, houtcome, hcause⟩ := hwave
  rw [hphase, houtcome, hcause, ← hu]
  unfold searchAtSafe
  cases hp : u.wave.phase with
  | none => exact ⟨nofun, nofun, by rw [hp]; exact nofun⟩
  | writing d l => exact ⟨nofun, fun _ _ h => hp.trans h, by rw [hp]; exact nofun⟩
  | search d n w =>
    dsimp only
    rw [failSearch_wave]
    exact ⟨fun _ _ _ _ => ⟨rfl, rfl, rfl⟩, nofun, nofun⟩

end

/-! ### What follows the pot's results -/

/-- The molten state is lost, before the search, the mode and the warm-up follow (R117). -/
def moltenEnds (s : State) : State := waveSync (stopFeeder (s.setPot { s.pot with molten := false, standing := .invalid, feeder := .off }))

section
variable {s : State}

theorem moltenLost_of_not_search (h : ∀ d n w, s.wave.phase ≠ .search d n w) :
    moltenLost s = warmMoltenLost (coldIfWaveOn (moltenEnds s)) := by
  have hphase : (moltenEnds s).wave.phase = s.wave.phase := by
    unfold moltenEnds
    rw [waveSync_wave]
    rfl
  unfold moltenLost
  show warmMoltenLost (coldIfWaveOn (match (moltenEnds s).wave.phase with
    | .search _ _ _ => enterReady (failSearch .potNotMolten (moltenEnds s))
    | .none => moltenEnds s
    | .writing _ _ => moltenEnds s)) = _
  rw [hphase]
  cases hp : s.wave.phase with
  | search d n w => exact absurd hp (h d n w)
  | none => rfl
  | writing d l => rfl

theorem moltenLost_of_search {d : Direction} {n w : Nat} (h : s.wave.phase = .search d n w) :
    moltenLost s = warmMoltenLost (coldIfWaveOn (enterReady (failSearch .potNotMolten (moltenEnds s)))) := by
  have hphase : (moltenEnds s).wave.phase = s.wave.phase := by
    unfold moltenEnds
    rw [waveSync_wave]
    rfl
  unfold moltenLost
  show warmMoltenLost (coldIfWaveOn (match (moltenEnds s).wave.phase with
    | .search _ _ _ => enterReady (failSearch .potNotMolten (moltenEnds s))
    | .none => moltenEnds s
    | .writing _ _ => moltenEnds s)) = _
  rw [hphase, h]

@[simp] theorem moltenEnds_modes (s : State) : (moltenEnds s).modes = s.modes := waveSync_modes _

theorem moltenEnds_wave (s : State) : (moltenEnds s).wave = { s.wave with output := 0 } := by
  unfold moltenEnds
  rw [waveSync_wave, waveTarget_of_not_molten rfl]
  rfl

/-- What channel 6 does to the molten state and the soak. -/
theorem deliverMelt_cases (x : Slot) (s : State) : deliverMelt x s = s ∨ deliverMelt x s = potAtMelt s
    ∨ deliverMelt x s = soakInterrupted s
    ∨ (s.pot.molten = true ∧ deliverMelt x s = moltenLost (soakInterrupted s)) := by
  unfold deliverMelt
  split
  · split
    · exact .inl rfl
    · split
      · exact .inr (.inl rfl)
      · dsimp only
        split
        next h => exact .inr (.inr (.inr ⟨h.1, rfl⟩))
        next => exact .inr (.inr (.inl rfl))
  · exact .inl rfl
  · dsimp only
    split
    next h => exact .inr (.inr (.inr ⟨h, rfl⟩))
    next => exact .inr (.inr (.inl rfl))
  · exact .inr (.inr (.inl rfl))

/-- The ground after channel 6's result at the molten state. -/
theorem deliverMelt_ground (x : Slot) (s : State) :
    ∃ b, (deliverMelt x s).ground = { s.ground with molten := b } := by
  rcases deliverMelt_cases x s with h | h | h | ⟨-, h⟩ <;> rw [h]
  · exact ⟨_, rfl⟩
  · exact ⟨_, rfl⟩
  · exact ⟨_, rfl⟩
  · exact ⟨false, moltenLost_ground _⟩

theorem deliverMelt_alarm {j : AlarmKind} (h : j ∉ modeKinds) (x : Slot) (s : State) : (deliverMelt x s).alarm j = s.alarm j := by
  have hcold : j ≠ .potCold := fun hj => h (by rw [hj]; decide)
  have hwarm : j ≠ .potWarmFail := fun hj => h (by rw [hj]; decide)
  rcases deliverMelt_cases x s with he | he | he | ⟨-, he⟩ <;> rw [he]
  · have hends : (conditionEnds .potWarmFail (conditionEnds .potCold s)).alarm j = s.alarm j := by
      rw [conditionEnds_alarm_other _ hwarm, conditionEnds_alarm_other _ hcold]
    exact hends
  · rfl
  · exact moltenLost_alarm h _

/-- In SAFE a result of channel 6 moves neither the mode nor the wave. -/
theorem deliverMelt_of_safe (x : Slot) {s : State} (hm : s.modes.mode = .safe) (hp : ∀ d n w, s.wave.phase ≠ .search d n w)
    (ho : s.wave.output = 0) : (deliverMelt x s).modes.mode = .safe ∧ (deliverMelt x s).wave.output = 0 := by
  rcases deliverMelt_cases x s with he | he | he | ⟨-, he⟩ <;> rw [he]
  · exact ⟨hm, ho⟩
  · exact ⟨hm, ho⟩
  · exact ⟨hm, ho⟩
  · let u := moltenEnds (soakInterrupted s)
    have hum : u.modes.mode = .safe := (congrArg ModeCtl.mode (moltenEnds_modes (soakInterrupted s))).trans hm
    have hcold : coldIfWaveOn u = u := by
      unfold coldIfWaveOn
      rw [hum]
      rfl
    have hwarm : warmMoltenLost u = u := by
      unfold warmMoltenLost
      rw [hum]
    have hsearch : ∀ d n w, (soakInterrupted s).wave.phase ≠ .search d n w := hp
    rw [moltenLost_of_not_search hsearch, hcold, hwarm]
    exact ⟨hum, congrArg Wave.output (moltenEnds_wave (soakInterrupted s))⟩

/-- A result of channel 6 at the pot loop, the fume signal and the molten state. -/
theorem deliver_pot (s : State) : deliver 6 s = warmSweep (deliverMelt (s.slot 6)
    (judgeFume (fumeHotBy s.fumeOff (s.slot 6)) (deliverPotLoop (s.slot 6) s))) := rfl

theorem potOvertemp_far : AlarmKind.potOvertemp ∉ modeKinds := by decide

/-- Behind the pot loop no owner of channel 6 changes POT_OVERTEMP or the pot's marks. -/
theorem deliver_pot_kept (s : State) :
    (deliver 6 s).alarm .potOvertemp = (deliverPotLoop (s.slot 6) s).alarm .potOvertemp
    ∧ (deliver 6 s).heat.pot.inactive = (deliverPotLoop (s.slot 6) s).heat.pot.inactive := by
  rw [deliver_pot]
  constructor
  · rw [warmSweep_alarm_other _ (by decide), deliverMelt_alarm potOvertemp_far,
      judgeFume_alarm _ (not_extract_of_far potOvertemp_far)]
  · obtain ⟨b, hb⟩ := deliverMelt_ground (s.slot 6) (judgeFume (fumeHotBy s.fumeOff (s.slot 6)) (deliverPotLoop (s.slot 6) s))
    have hloop := congrArg Ground.loop ((warmSweep_ground _).trans hb)
    rw [judgeFume_ground] at hloop
    exact hloop

/-! ### The pot over mark (R106) -/

/-- The pot loop as a result of channel 6 updates it, its marks untouched. -/
def potLooped (v : Int) (s : State) : State := if s.potActive then updatePotLoop v s else s

theorem deliverPotLoop_fresh {x : Slot} {v : Int} (h : x.standing = .fresh) (hv : x.value = some v) (s : State) :
    deliverPotLoop x s = setPotOver (s.configured && decide ((s.param 74 : Int) < v)) (potLooped v s) := by
  unfold deliverPotLoop
  rw [h, hv]
  rfl

theorem deliverPotLoop_not_fresh {x : Slot} (h : x.standing ≠ .fresh) (s : State) :
    deliverPotLoop x s = if s.potActive then cutPotLoop s else s := by
  unfold deliverPotLoop
  cases hx : x.standing with
  | fresh => exact absurd hx h
  | opened => rfl
  | stale => rfl

/-- The pot loop changes its own demand and integral alone. -/
theorem potLooped_eq (v : Int) (s : State) :
    ∃ d i, potLooped v s = s.setHeat { s.heat with pot := { s.heat.pot with demand := d, integral := i } } := by
  unfold potLooped
  split
  · exact ⟨_, _, rfl⟩
  · exact ⟨s.heat.pot.demand, s.heat.pot.integral, rfl⟩

/-- The state with the over mark judged, before POT_OVERTEMP follows. -/
def potMarked (b : Bool) (s : State) : State := s.setHeat { s.heat with pot := { s.heat.pot with overMark := b } }

theorem setPotOver_eq (b : Bool) (s : State) : setPotOver b s = judge .potOvertemp (s.heat.pot.tripInput || b) (potMarked b s) := rfl

theorem setPotOver_overMark (b : Bool) (s : State) : (setPotOver b s).heat.pot.overMark = b := by
  rw [setPotOver_eq, potOver_of_ground (judge_ground (potMarked b s) _ _)]
  rfl

theorem setPotOver_condition (b : Bool) (s : State) :
    (setPotOver b s).condition .potOvertemp = (s.heat.pot.tripInput || b) := judge_condition potOvertemp_far _ _

/-- POT_OVERTEMP that appears outside SAFE enters SAFE. -/
theorem setPotOver_enters {b : Bool} {s : State} (hb : (s.heat.pot.tripInput || b) = true) (hc : s.condition .potOvertemp = false)
    (hm : s.modes.mode ≠ .safe) :
    setPotOver b s = setMode .safe (occurrence .potOvertemp .active (potMarked b s)) := by
  have hc' : (potMarked b s).condition .potOvertemp = false := hc
  have hm' : (occurrence .potOvertemp .active (potMarked b s)).modes.mode ≠ .safe := hm
  rw [setPotOver_eq, hb]
  show raise .potOvertemp (potMarked b s) = _
  rw [raise_of_absent hc']
  exact react_safe hm'

/-- SAFE entered at the pot loop stays, with every grant at 0 and the wave off, behind the other owners of channel 6. -/
theorem deliver_pot_safe {s u : State} (h : deliverPotLoop (s.slot 6) s = setMode .safe u) :
    (deliver 6 s).modes.mode = .safe ∧ (deliver 6 s).heat.pot.grant = 0 ∧ (deliver 6 s).wave.output = 0 := by
  let a := setMode .safe u
  let b := judgeFume (fumeHotBy s.fumeOff (s.slot 6)) a
  have hd : deliver 6 s = warmSweep (deliverMelt (s.slot 6) b) := by rw [deliver_pot, h]
  have ham : a.modes.mode = .safe := congrArg ModeCtl.mode (setMode_modes .safe u)
  have hbm : b.modes.mode = .safe := (congrArg ModeCtl.mode (judgeFume_modes _ a)).trans ham
  have hbw : b.wave = a.wave := fanSync_wave _
  have hmelt := deliverMelt_of_safe (s.slot 6) hbm (by rw [hbw]; exact (setMode_safe_search u).2.2)
    (by rw [hbw]; exact setMode_output_off u rfl (by decide))
  have hsafe : (deliver 6 s).modes.mode = .safe := by
    rw [hd, mode_of_calm (warmSweep_calm _)]
    exact hmelt.1
  have hheat : (deliver 6 s).heatersSafe := by
    rw [hd]
    refine warmSweep_kept keptByModes_heatersSafe (deliverMelt_kept keptByModes_heatersSafe _
      (keptByModes_heatersSafe.fume a _ fun _ => ?_))
    exact setMode_atRest (.inr rfl) u
  refine ⟨hsafe, (hheat (.inr (.inl hsafe))).1, ?_⟩
  rw [hd, wave_of_calm (warmSweep_calm _)]
  exact hmelt.2

/-- Settles O24: the trip input and the over mark, each as it judges POT_OVERTEMP, and the entry into SAFE block by block. -/
theorem potTripEntersSafe : Obligations.PotTripEntersSafe := by
  intro s
  refine ⟨fun hm hc => ?trip, fun ho => ?ends, fun v hf hv => ?fresh, fun hf => ?other⟩
  case trip =>
    let h : Heaters := { s.heat with pot := { s.heat.pot with tripInput := true } }
    let u := occurrence .potOvertemp .active (s.setHeat h)
    have hedge : tripEdge true s = setMode .safe u := by
      have hc' : (s.setHeat h).condition .potOvertemp = false := hc
      have hm' : u.modes.mode ≠ .safe := hm
      show raise .potOvertemp (s.setHeat h) = _
      rw [raise_of_absent hc']
      exact react_safe hm'
    have hmodes : (setMode .safe u).modes = _ := setMode_modes .safe u
    have hnot : (setMode .safe u).modes.mode ≠ .run := by rw [hmodes]; exact nofun
    obtain ⟨hrun, hqueue, hopen, hpurge⟩ := setMode_safe_spray u
    obtain ⟨hsearch, hwriting, -⟩ := setMode_safe_search u
    refine ⟨setMode .safe u, congrArg Host.Outcome.next ((congrArg admissionTest hedge).trans (admissionTest_of_not_run hnot)),
      sameOutside_of_far (setMode_far _ _), hmodes, ?_, (setMode_atRest (.inr rfl) u).1, fun k => ⟨?_, ?_, ?_⟩,
      setMode_output_off u rfl (by decide), hopen, hpurge, hrun, hqueue, setMode_gate_closed u (.inr (.inr (.inr rfl))),
      setMode_conveyorRun .safe u, hsearch, hwriting, setMode_safe_records u, ?_⟩
    · exact tripInput_of_ground (setMode_ground u .safe)
    · exact (setMode_atRest (.inr rfl) u).2 k
    · exact setMode_warmFail .safe u k
    · exact setMode_trim .safe u k
    · rw [setMode_alarm_far potOvertemp_far]
      exact occurrence_alarm_same (s.setHeat h) _
  case ends =>
    refine congrArg (fun x => Host.Outcome.next (admissionTest x)) ?_
    unfold tripEdge judgePotTrip
    rw [show (s.setHeat { s.heat with pot := { s.heat.pot with tripInput := false } }).heat.pot.overMark = false from ho]
    rfl
  case fresh =>
    obtain ⟨halarm, hloop⟩ := deliver_pot_kept s
    let b := s.configured && decide ((s.param 74 : Int) < v)
    obtain ⟨d, i, hpot⟩ := potLooped_eq v s
    have hdeliver : deliverPotLoop (s.slot 6) s = setPotOver b (potLooped v s) := deliverPotLoop_fresh hf hv s
    have hover : (deliver 6 s).heat.pot.overMark = b := by
      refine (congrArg PotLoop.overMark hloop).trans ?_
      rw [hdeliver]
      exact setPotOver_overMark b _
    have hcond : (deliver 6 s).condition .potOvertemp = (s.heat.pot.tripInput || b) := by
      rw [condition_congr _ halarm, hdeliver, setPotOver_condition, hpot]
      rfl
    refine ⟨hover, by rw [hcond, hover], fun hc ht hm => ?_⟩
    have hc' : (potLooped v s).condition .potOvertemp = false := by rw [hpot]; exact hc
    have hm' : (potLooped v s).modes.mode ≠ .safe := by rw [hpot]; exact hm
    have hb' : ((potLooped v s).heat.pot.tripInput || b) = true := by
      rw [hpot]
      exact hcond.symm.trans ht
    exact deliver_pot_safe (hdeliver.trans (setPotOver_enters hb' hc' hm'))
  case other =>
    obtain ⟨halarm, hloop⟩ := deliver_pot_kept s
    have hpot : (deliverPotLoop (s.slot 6) s).alarms = s.alarms
        ∧ (deliverPotLoop (s.slot 6) s).heat.pot.overMark = s.heat.pot.overMark := by
      rw [deliverPotLoop_not_fresh hf]
      split <;> exact ⟨rfl, rfl⟩
    refine ⟨(congrArg PotLoop.overMark hloop).trans hpot.2, ?_⟩
    rw [condition_congr _ halarm]
    exact condition_congr _ (alarm_of_alarms hpot.1)

end

end Sys2Proof.Machine
end

section
/-! PROOFS. The soak, the settle time and the molten state (R7, R10, R12, R14, R115 to R118, R141). -/

namespace Sys2Proof.Machine

/-! ### The stage that a sweep leaves (R8, R10) -/

section
variable {s : State} {w : WarmUp}

theorem updWarm_stage {f : WarmUp → WarmUp} (hf : ∀ w, (f w).stage = w.stage) : (s.updWarm f).stage? = s.stage? := by
  unfold State.stage?
  rw [updWarm_modes, Option.map_map]
  exact congrArg (Option.map · s.modes.warm) (funext hf)

theorem advanceCursor_stage (ks : List ZoneId) (s : State) : (advanceCursor ks s).stage? = s.stage? := by
  induction ks generalizing s with
  | nil => exact updWarm_stage fun _ => rfl
  | cons k rest ih =>
    have hstart : ((startZone k s).updWarm (fun w => { w with cursor := some k })).stage? = s.stage? := by
      refine (updWarm_stage ?_).trans ((updWarm_stage ?_).trans ?_)
      · exact fun _ => rfl
      · exact fun _ => rfl
      · rfl
    unfold advanceCursor
    dsimp only
    split
    · split
      · rw [ih, hstart]
      · exact hstart
    · exact ih s

theorem moveCursor_stage (s : State) : (moveCursor s).stage? = s.stage? := by
  unfold moveCursor
  repeat' split
  · exact advanceCursor_stage _ _
  all_goals rfl

theorem bandEntries_stage (s : State) : (bandEntries s).stage? = s.stage? := by
  unfold State.stage?
  rw [bandEntries_modes, Option.map_map]
  rfl

theorem afterLoops_stage (s : State) : (afterLoops s).stage? = s.stage? := by
  unfold State.stage?
  rw [afterLoops_modes]

/-- A sweep in stage ZONES leaves the stage or enters SETTLE. -/
theorem warmSweep_stage_of_zones (h : s.stage? = some .zones) :
    (warmSweep s).stage? = some .zones ∨ (warmSweep s).stage? = some .settle := by
  unfold warmSweep
  split
  · have hst : (moveCursor (bandEntries s)).stage? = some .zones := by rw [moveCursor_stage, bandEntries_stage, h]
    rw [afterLoops_stage, settleTest_of_zones hst]
    split
    · right
      unfold State.stage? at hst ⊢
      rw [updWarm_modes]
      cases hw : (moveCursor (bandEntries s)).modes.warm with
      | none => rw [hw] at hst; cases hst
      | some w => rfl
    · exact .inl hst
  · exact .inl h

/-- A sweep in stage MELT or EXTRACTION leaves the stage. -/
theorem warmSweep_stage_of_early {x : WarmStage} (h : s.stage? = some x) (hx : x = .melt ∨ x = .extraction) :
    (warmSweep s).stage? = some x := by
  unfold warmSweep
  split
  · have hst : (moveCursor (bandEntries s)).stage? = some x := by rw [moveCursor_stage, bandEntries_stage, h]
    rw [afterLoops_stage]
    unfold settleTest
    rw [hst]
    rcases hx with rfl | rfl <;> exact hst
  · exact h

theorem moveCursor_keeps_started {k : ZoneId} (h : (s.zone k).started = true) : ((moveCursor s).zone k).started = true := by
  unfold moveCursor
  repeat' split
  · exact advanceCursor_keeps_started h
  all_goals exact h

/-- A sweep leaves the started marks that are set. -/
theorem warmSweep_keeps_started {k : ZoneId} (h : (s.zone k).started = true) : ((warmSweep s).zone k).started = true := by
  unfold warmSweep
  split
  · have hband : ((bandEntries s).zone k).started = true := (congrArg Zone.started (bandEntries_zone s k) :).trans h
    rw [afterLoops_zone_started]
    show ((settleTest (moveCursor (bandEntries s))).heat.zones.get k).started = true
    rw [settleTest_heat]
    exact moveCursor_keeps_started hband
  · exact h

/-- Stage ZONES entered: the stage, and the first zone that takes part started where no cursor stood yet (R8, R12). -/
theorem enterZones_stage (hw : s.modes.warm = some w) :
    (enterZones s).stage? = some .zones ∨ (enterZones s).stage? = some .settle := by
  have hst : (zonesStage s).stage? = some .zones := by
    unfold State.stage? zonesStage
    rw [updWarm_modes, hw]
    rfl
  rw [enterZones_of_warm hw]
  refine warmSweep_stage_of_zones ?_
  split
  · exact hst
  · rw [advanceCursor_stage, hst]

theorem enterZones_starts (hw : s.modes.warm = some w) {k : ZoneId} :
    (w.zonesEntered = false → allZones.find? s.takesPart = some k → ((enterZones s).zone k).started = true)
    ∧ ((s.zone k).started = true → ((enterZones s).zone k).started = true) := by
  rw [enterZones_of_warm hw]
  refine ⟨fun he hk => warmSweep_keeps_started ?_, fun hk => warmSweep_keeps_started ?_⟩
  · rw [if_neg (by rw [he]; decide)]
    have hpart : (zonesStage s).takesPart = s.takesPart := funext fun j => takesPart_of_calm (zonesStage_calm s) j
    exact advanceCursor_starts (by rw [hpart]; exact hk)
  · split
    · exact hk
    · exact advanceCursor_keeps_started hk

end

/-! ### A pot that is not molten any more (R117) -/

/-- The pot is not molten, its level estimate INVALID, the feeder off and the wave at 0. -/
structure State.Drained (s : State) : Prop where
  molten : s.pot.molten = false
  standing : s.pot.standing = .invalid
  feeder : s.pot.feeder = .off
  output : s.wave.output = 0

section
variable {s t : State}

theorem State.Drained.of_eq (h : s.Drained) (hm : t.pot.molten = s.pot.molten) (hs : t.pot.standing = s.pot.standing)
    (hf : t.pot.feeder = s.pot.feeder) (ho : t.wave.output = s.wave.output) : t.Drained :=
  ⟨hm.trans h.molten, hs.trans h.standing, hf.trans h.feeder, ho.trans h.output⟩

theorem waveSync_of_drained (h : s.Drained) : waveSync s = s := by
  unfold waveSync driveWave
  rw [waveTarget_of_not_molten h.molten, if_pos h.output.symm]

theorem failSearch_drained (c : CalCause) (h : s.Drained) : (failSearch c s).Drained := by
  have hw : (s.setWave { s.wave with phase := .none, outcome := .failed, cause := c }).Drained := h.of_eq rfl rfl rfl rfl
  unfold failSearch
  rw [waveSync_of_drained hw]
  exact hw.of_eq rfl rfl rfl rfl

theorem searchAtSafe_drained (h : s.Drained) : (searchAtSafe s).Drained := by
  unfold searchAtSafe
  split
  · exact failSearch_drained _ h
  · exact h
  · exact h

theorem judgeSide_pot (side : WaveSide) (s : State) : (judgeSide side s).pot = s.pot := by
  have hlimit : (if side = .none then conditionEnds .waveLimit (s.setWave { s.wave with side := side })
      else conditionAppears .waveLimit (s.setWave { s.wave with side := side })).pot = s.pot := by
    split <;> simp
  unfold judgeSide
  dsimp only
  split <;> simpa using hlimit

theorem judgeSide_drained (side : WaveSide) (h : s.Drained) : (judgeSide side s).Drained := by
  have hp := judgeSide_pot side s
  refine h.of_eq (congrArg PotCtl.molten hp) (congrArg PotCtl.standing hp) (congrArg PotCtl.feeder hp) ?_
  rw [judgeSide_wave]

theorem computeDrive_drained (level : Int) (h : s.Drained) : (computeDrive level s).Drained := by
  have hset : ∀ u : State, u.Drained → ∀ c, (waveSync (u.setWave { u.wave with computed := c })).Drained := fun u hu c => by
    have hw : (u.setWave { u.wave with computed := c }).Drained := hu.of_eq rfl rfl rfl rfl
    rw [waveSync_of_drained hw]
    exact hw
  exact hset _ (judgeSide_drained _ h) _

theorem waveAtMode_drained (old new : Mode) (h : s.Drained) : (waveAtMode old new s).Drained := by
  unfold waveAtMode
  split
  · exact computeDrive_drained _ h
  · split
    · have hw : (s.setWave { s.wave with computed := none }).Drained := h.of_eq rfl rfl rfl rfl
      rw [waveSync_of_drained hw]
      exact judgeSide_drained _ hw
    · rw [waveSync_of_drained h]
      exact h

theorem feedAtActivity_drained (h : s.Drained) : (feedAtActivity s).Drained := by
  have hnow : feedTestNow s = s := by
    unfold feedTestNow
    rw [h.standing]
  unfold feedAtActivity
  split
  · rw [hnow]
    exact h
  · exact ⟨h.molten, h.standing, rfl, h.output⟩

theorem afterLoops_drained (h : s.Drained) : (afterLoops s).Drained := feedAtActivity_drained (h.of_eq rfl rfl rfl rfl)

theorem trackAtMode_pot (new : Mode) (s : State) : (trackAtMode new s).pot = s.pot := by cases new <;> rfl

theorem conveyorSync_pot (s : State) : (conveyorSync s).pot = s.pot := by
  unfold conveyorSync
  repeat' split
  all_goals rfl

theorem setMode_drained (new : Mode) (h : s.Drained) : (setMode new s).Drained := by
  let u := sprayAtMode new (modeJudged new s)
  have hu : u.Drained := by
    have hp : u.pot = { s.pot with soak := if s.modes.mode = .warmup ∧ new ≠ .warmup then .none else s.pot.soak } := by
      show (sprayAtMode new (modeJudged new s)).pot = _
      rw [sprayAtMode_pot, modeJudged_pot]
    have hw : u.wave = s.wave := by
      show (sprayAtMode new (modeJudged new s)).wave = _
      rw [sprayAtMode_wave, modeJudged_wave]
    exact h.of_eq (by rw [hp]) (by rw [hp]) (by rw [hp]) (by rw [hw])
  have hsearch : (if new = .safe then searchAtSafe u else u).Drained := by
    split
    · exact searchAtSafe_drained hu
    · exact hu
  have hwave := waveAtMode_drained s.modes.mode new hsearch
  rw [setMode_eq]
  refine afterLoops_drained (hwave.of_eq ?_ ?_ ?_ ?_)
  · rw [conveyorSync_pot, trackAtMode_pot]
  · rw [conveyorSync_pot, trackAtMode_pot]
  · rw [conveyorSync_pot, trackAtMode_pot]
  · rw [conveyorSync_wave, trackAtMode_wave]

theorem drainCompletes_drained (h : s.Drained) : (drainCompletes s).Drained := by
  unfold drainCompletes
  split
  · exact setMode_drained _ h
  · exact h

theorem toDrain_drained (t : DrainTarget) (h : s.Drained) : (toDrain t s).Drained := setMode_drained _ (h.of_eq rfl rfl rfl rfl)

theorem forceStandby_drained (h : s.Drained) : (forceStandby s).Drained := by
  unfold forceStandby
  split
  · exact setMode_drained _ h
  · exact drainCompletes_drained (toDrain_drained _ h)
  · split
    · exact h.of_eq rfl rfl rfl rfl
    · exact h
  · exact drainCompletes_drained (toDrain_drained _ h)
  all_goals exact h

theorem enterReady_drained (h : s.Drained) : (enterReady s).Drained := by
  have hr := setMode_drained .ready h
  unfold enterReady forcedTest
  split
  · exact forceStandby_drained (hr.of_eq rfl rfl rfl rfl)
  · exact hr

theorem coldIfWaveOn_drained (h : s.Drained) : (coldIfWaveOn s).Drained := by
  unfold coldIfWaveOn raise
  split
  · split
    · exact h
    · have hc : (conditionAppears .potCold s).Drained := by
        have hp := conditionAppears_pot .potCold s
        exact h.of_eq (by rw [hp]) (by rw [hp]) (by rw [hp]) (by rw [conditionAppears_wave])
      show (react .safe _).Drained
      unfold react
      dsimp only
      split
      · exact hc
      · exact setMode_drained _ hc
  · exact h

theorem warmMoltenLost_drained (h : s.Drained) : (warmMoltenLost s).Drained := by
  have hmelt : (enterMelt s).Drained := afterLoops_drained ⟨h.molten, h.standing, h.feeder, h.output⟩
  unfold warmMoltenLost
  split
  · exact h.of_eq rfl rfl rfl rfl
  · split
    · exact hmelt
    · exact hmelt
    · exact h.of_eq rfl rfl rfl rfl
    all_goals exact h
  all_goals exact h

theorem advanceCursor_feeder (ks : List ZoneId) (s : State) : (advanceCursor ks s).pot = s.pot := by
  induction ks generalizing s with
  | nil => rfl
  | cons k rest ih =>
    unfold advanceCursor
    dsimp only
    split
    · split
      · exact ih _
      · rfl
    · exact ih s

theorem sweep_pot (s : State) : (settleTest (moveCursor (bandEntries s))).pot = s.pot := by
  have hset : ∀ u : State, (settleTest u).pot = u.pot := fun u => by
    unfold settleTest
    repeat' split
    all_goals rfl
  have hmove : ∀ u : State, (moveCursor u).pot = u.pot := fun u => by
    unfold moveCursor
    repeat' split
    · exact advanceCursor_feeder _ _
    all_goals rfl
  rw [hset, hmove]
  unfold bandEntries
  dsimp only
  split <;> rfl

theorem warmSweep_drained (h : s.Drained) : (warmSweep s).Drained := by
  unfold warmSweep
  split
  · have hp := sweep_pot s
    refine afterLoops_drained (h.of_eq (by rw [hp]) (by rw [hp]) (by rw [hp]) ?_)
    rw [wave_of_calm (settleTest_calm _), wave_of_calm (moveCursor_calm _), wave_of_calm (bandEntries_calm _)]
  · exact h

theorem moltenEnds_drained (s : State) : (moltenEnds s).Drained := by
  have hstanding : ∀ n : Nat, ∀ p : PotCtl, p.standing = .invalid → (watchDrive s.driveThreshold n p).standing = .invalid := fun n p hp => by
    unfold watchDrive
    split
    · dsimp only
      rw [hp]
      rfl
    · exact hp
  have hfeeder : ∀ n : Nat, ∀ p : PotCtl, (watchDrive s.driveThreshold n p).feeder = p.feeder := fun n p => by
    unfold watchDrive
    split <;> rfl
  refine ⟨?_, ?_, ?_, congrArg Wave.output (moltenEnds_wave s)⟩
  · exact (congrArg (fun c : Core => c.pot.molten) (waveSync_core _) :)
  · unfold moltenEnds waveSync driveWave
    split
    · rfl
    · exact hstanding _ _ rfl
  · unfold moltenEnds waveSync driveWave
    split
    · rfl
    · exact hfeeder _ _

theorem moltenLost_drained (s : State) : (moltenLost s).Drained := by
  have hends := moltenEnds_drained s
  by_cases h : ∃ d n w, s.wave.phase = .search d n w
  · obtain ⟨d, n, w, hp⟩ := h
    rw [moltenLost_of_search hp]
    exact warmMoltenLost_drained (coldIfWaveOn_drained (enterReady_drained (failSearch_drained _ hends)))
  · rw [moltenLost_of_not_search fun d n w hp => h ⟨d, n, w, hp⟩]
    exact warmMoltenLost_drained (coldIfWaveOn_drained hends)

end

end Sys2Proof.Machine
end

section
/-! PROOFS. The ends of the soak and of the settle time, and the results of channel 6 at the molten state (R7, R10, R12, R115 to
R118, R141; log 32). -/

namespace Sys2Proof.Machine

/-! ### Channel 6 before the molten state takes it -/

/-- What the pot loop and the fume signal leave of a state for the molten state's owner. -/
structure PotTaken (s t : State) : Prop where
  modes : t.modes = s.modes
  wave : t.wave = s.wave
  molten : t.pot.molten = s.pot.molten
  soak : t.pot.soak = s.pot.soak
  level : t.pot.level = s.pot.level
  far : t.far = s.far
  alarm : ∀ j, j ≠ .potOvertemp → j ∉ extractKinds → t.alarm j = s.alarm j
  due : s.extr.forcedDue = false → t.extr.forcedDue = false

section
variable {s : State}

theorem judgeFume_taken {a : State} (hot : Bool) (h : PotTaken s a) : PotTaken s (judgeFume hot a) := by
  have hpot : (judgeFume hot a).pot = { a.pot with fumeHot := hot, fumeJudged := true } := fanSync_pot _
  exact { modes := (judgeFume_modes hot a).trans h.modes
          wave := (fanSync_wave _).trans h.wave
          molten := by rw [hpot]; exact h.molten
          soak := by rw [hpot]; exact h.soak
          level := by rw [hpot]; exact h.level
          far := (far_of_ground (t := judgeFume hot a) (s := a.setPot _) (fanSync_ground _)).trans h.far
          alarm := fun j hj he => (judgeFume_alarm a he hot).trans (h.alarm j hj he)
          due := fun hd => by
            have hextr : (judgeFume hot a).extr = _ := congrArg Dry.extr (fanSync_dry (a.setPot { a.pot with fumeHot := hot, fumeJudged := true }))
            rw [hextr]
            exact fanned_not_due (h.due hd) }

theorem cutPotLoop_taken : PotTaken s (if s.potActive then cutPotLoop s else s) := by
  split <;> exact ⟨rfl, rfl, rfl, rfl, rfl, rfl, fun _ _ _ => rfl, id⟩

/-- A result that sets no over mark ends POT_OVERTEMP, if anything. -/
theorem deliverPotLoop_cool {x : Slot} {v : Int} (hf : x.standing = .fresh) (hv : x.value = some v)
    (ht : s.heat.pot.tripInput = false) (hc : v ≤ (s.param 74 : Int)) :
    deliverPotLoop x s = conditionEnds .potOvertemp (potMarked false (potLooped v s)) := by
  have hb : (s.configured && decide ((s.param 74 : Int) < v)) = false := by
    rw [decide_eq_false (by omega), Bool.and_false]
  obtain ⟨d, i, hp⟩ := potLooped_eq v s
  have htrip : (potLooped v s).heat.pot.tripInput = false := by rw [hp]; exact ht
  rw [deliverPotLoop_fresh hf hv, hb, setPotOver_eq, htrip]
  rfl

theorem deliverPotLoop_cool_taken {x : Slot} {v : Int} (hf : x.standing = .fresh) (hv : x.value = some v)
    (ht : s.heat.pot.tripInput = false) (hc : v ≤ (s.param 74 : Int)) : PotTaken s (deliverPotLoop x s) := by
  obtain ⟨d, i, hp⟩ := potLooped_eq v s
  rw [deliverPotLoop_cool hf hv ht hc, hp]
  exact ⟨rfl, rfl, rfl, rfl, rfl, rfl, fun j hj _ => conditionEnds_alarm_other _ hj, id⟩

/-- The molten state's owner finds what the others have left. -/
theorem deliver_pot_taken (h : PotTaken s (deliverPotLoop (s.slot 6) s)) :
    ∃ b, PotTaken s b ∧ deliver 6 s = warmSweep (deliverMelt (s.slot 6) b) :=
  ⟨_, judgeFume_taken (fumeHotBy s.fumeOff (s.slot 6)) h, deliver_pot s⟩

theorem configured_of_far {t : State} (h : t.far = s.far) : t.configured = s.configured := by
  unfold State.configured State.config?
  rw [show t.store = s.store from congrArg Far.store h]

theorem param_of_far {t : State} (h : t.far = s.far) (i : Nat) : t.param i = s.param i := by
  unfold State.param State.config?
  rw [show t.store = s.store from congrArg Far.store h]

theorem meltSafe_of_far {t : State} (h : t.far = s.far) : t.meltSafe = s.meltSafe := by
  unfold State.meltSafe
  simp only [param_of_far h]

theorem seconds_of_far {t : State} (h : t.far = s.far) : t.seconds = s.seconds := by
  unfold State.seconds
  rw [show t.uptime = s.uptime from congrArg Far.uptime h]

end

/-! ### At melt-safe, below it, and the loss of the molten state -/

section
variable {s b : State} {x : Slot} {v : Int}

theorem deliverMelt_hot (hf : x.standing = .fresh) (hv : x.value = some v) (hc : b.configured = true) (hm : (b.meltSafe : Int) ≤ v) :
    deliverMelt x b = potAtMelt b := by
  unfold deliverMelt
  rw [hf, hv]
  dsimp only
  rw [if_neg (not_not.mpr hc), if_pos hm]

theorem deliverMelt_cold (hf : x.standing = .fresh) (hv : x.value = some v) (hc : b.configured = true) (hm : v < (b.meltSafe : Int))
    (hk : b.pot.molten = false ∨ (b.meltSafe : Int) - 50 ≤ v) : deliverMelt x b = soakInterrupted b := by
  unfold deliverMelt
  rw [hf, hv]
  dsimp only
  rw [if_neg (not_not.mpr hc), if_neg (by omega), if_neg]
  rintro ⟨h1, h2⟩
  have h1' : b.pot.molten = true := h1
  have h2' : v < (b.meltSafe : Int) - 50 := h2
  rcases hk with hk | hk
  · rw [hk] at h1'
    cases h1'
  · omega

theorem deliverMelt_stale (hf : x.standing = .stale) : deliverMelt x b = soakInterrupted b := by
  unfold deliverMelt
  rw [hf]

theorem deliverMelt_lost (hl : x.standing = .opened ∨ (x.standing = .fresh ∧ b.configured = true
    ∧ ∃ v, x.value = some v ∧ v < (b.meltSafe : Int) - 50)) (hm : b.pot.molten = true) :
    deliverMelt x b = moltenLost (soakInterrupted b) := by
  have hm' : (soakInterrupted b).pot.molten = true := hm
  rcases hl with ho | ⟨hf, hc, v, hv, hlow⟩
  · unfold deliverMelt
    rw [ho]
    dsimp only
    rw [if_pos hm']
  · unfold deliverMelt
    rw [hf, hv]
    dsimp only
    rw [if_neg (not_not.mpr hc), if_neg (by omega)]
    exact if_pos ⟨hm', hlow⟩

theorem interrupted_eq (y : Soak) : y.interrupted = match y with
    | .soaking _ => Soak.waiting
    | y => y := by cases y <;> rfl

theorem atMelt_eq (y : Soak) : y.atMelt = if y = .waiting then .soaking 0 else y := by cases y <;> rfl

/-- In a mode other than RUN, DRAIN and HOLD no wave runs cold. -/
theorem coldIfWaveOn_of_off (h : s.modes.mode.waveOn = false) : coldIfWaveOn s = s := by
  unfold coldIfWaveOn
  rw [h]
  rfl

theorem warmSweep_of_not_warmup (h : s.modes.mode ≠ .warmup) : warmSweep s = s := if_neg h

theorem warmMoltenLost_of_other (h : s.modes.mode ≠ .standby) (hw : s.modes.mode ≠ .warmup) : warmMoltenLost s = s := by
  unfold warmMoltenLost
  split
  next hs => exact absurd hs h
  next hm => exact absurd hm hw
  all_goals rfl

/-- A sweep in stage EXTRACTION with no zone started changes no item of the Mode Controller (R8, R9). -/
theorem warmSweep_modes_of_unstarted {w : WarmUp} (hw : s.modes.warm = some w) (hst : w.stage = .extraction)
    (hz : ∀ k, (s.zone k).started = false) : (warmSweep s).modes = s.modes := by
  have hband : s.enteredBand w = w := by
    unfold State.enteredBand
    simp only [hz, Bool.false_and, Bool.false_eq_true, if_false]
    rfl
  have hmodes : (bandEntries s).modes = s.modes := by
    rw [bandEntries_modes, hw]
    show ({ s.modes with warm := some (s.enteredBand w) } : ModeCtl) = _
    rw [hband, ← hw]
  unfold warmSweep
  split
  · have hmove : moveCursor (bandEntries s) = bandEntries s := by
      unfold moveCursor
      rw [hmodes, hw]
      dsimp only
      rw [hst]
    have hset : settleTest (bandEntries s) = bandEntries s := by
      unfold settleTest State.stage?
      rw [hmodes, hw]
      show (match some w.stage with
        | some .zones => _
        | some .settle => _
        | some .extraction => bandEntries s
        | some .melt => _
        | none => _) = _
      rw [hst]
    rw [hmove, hset, afterLoops_modes, hmodes]
  · rfl

theorem warmSweep_unstarted_of_extraction {w : WarmUp} (hw : s.modes.warm = some w) (hst : w.stage = .extraction) (k : ZoneId) :
    ((warmSweep s).zone k).started = (s.zone k).started := by
  unfold warmSweep
  split
  · have hstage : (bandEntries s).stage? = some .extraction := by
      rw [bandEntries_stage]
      unfold State.stage?
      rw [hw, ← hst]
      rfl
    have hmove : moveCursor (bandEntries s) = bandEntries s := by
      unfold moveCursor
      rw [bandEntries_modes, hw]
      show (match (s.enteredBand w).stage, (s.enteredBand w).cursor with
        | .zones, some k => _
        | _, _ => bandEntries s) = _
      rw [show (s.enteredBand w).stage = .extraction from hst]
    rw [hmove, afterLoops_zone_started]
    show ((settleTest (bandEntries s)).heat.zones.get k).started = _
    rw [settleTest_heat]
    exact (congrArg Zone.started (bandEntries_zone s k) :)
  · rfl

end

/-- Settles O28: the settle time enters READY, the soak enters stage ZONES, and channel 6's result at the molten state case by
case. -/
theorem soakAndSettleEnd : Obligations.SoakAndSettleEnd := by
  refine ⟨fun s hm hst hb hl hd => ?settle, fun w n s hm hw hst hsoak hl => ?soak, fun s => ?pot⟩
  case settle =>
    have hends : settleEnds s = setMode .ready s := by
      unfold settleEnds
      rw [if_pos ⟨hst, hb, hl⟩, enterReady, forcedTest_of_not_due _ (setMode_not_due .ready hd)]
    exact ⟨_, congrArg Host.Outcome.next hends, sameOutside_of_far (setMode_far _ _), setMode_modes .ready s,
      fun k => setMode_started .ready s k, setMode_conveyorRun .ready s, setMode_output_off s rfl (by decide)⟩
  case soak =>
    let u := conditionEnds .potWarmFail (s.setPot { s.pot with molten := true, soak := .none })
    have hstage : s.stage? = some .melt := by
      unfold State.stage?
      rw [hw, ← hst]
      rfl
    have hends : soakCompletes s = enterZones u := by
      unfold soakCompletes
      rw [hsoak]
      dsimp only
      rw [hl]
      exact if_pos hstage
    have huw : u.modes.warm = some w := hw
    have hcalm := enterZones_calm u
    refine ⟨enterZones u, congrArg Host.Outcome.next hends, sameOutside_of_far (enterZones_far u), molten_of_calm hcalm,
      soak_of_calm hcalm, ?_, (mode_of_calm hcalm).trans hm, enterZones_stage huw, fun he k hk => (enterZones_starts huw).1 he hk,
      fun _ k hk => (enterZones_starts huw).2 hk⟩
    rw [condition_congr _ (enterZones_alarm_other u (by decide))]
    exact conditionEnds_condition _
  case pot =>
    intro x t cool interrupted lost
    have hinterrupted : s.pot.soak.interrupted = interrupted := interrupted_eq _
    have htaken : ∀ v, x.standing = .fresh → x.value = some v → cool → PotTaken s (deliverPotLoop x s) := fun v hf hv hc =>
      deliverPotLoop_cool_taken hf hv hc.1 (hc.2 v hv)
    have htaken' : x.standing ≠ .fresh → PotTaken s (deliverPotLoop x s) := fun hf => by
      rw [deliverPotLoop_not_fresh hf]
      exact cutPotLoop_taken
    -- an interrupted soak, and nothing else of the molten state
    have hsoaks : ∀ b, PotTaken s b → t = warmSweep (soakInterrupted b) →
        t.pot.soak = interrupted ∧ t.pot.molten = s.pot.molten ∧ t.modes.mode = s.modes.mode := fun b hb ht => by
      have hcalm : t.calm = (soakInterrupted b).calm := by rw [ht]; exact warmSweep_calm _
      refine ⟨(soak_of_calm hcalm).trans ?_, (molten_of_calm hcalm).trans hb.molten,
        (mode_of_calm hcalm).trans (congrArg ModeCtl.mode hb.modes)⟩
      show b.pot.soak.interrupted = interrupted
      rw [hb.soak, hinterrupted]
    refine ⟨fun v hf hv hc hcool hm => ?hot, fun v hf hv hc hcool hm hk => ?cold, fun hst => ?stale, fun hl hm => ?lost⟩
    case hot =>
      obtain ⟨b, hb, ht⟩ := deliver_pot_taken (htaken v hf hv hcool)
      rw [deliverMelt_hot hf hv ((configured_of_far hb.far).trans hc) (by rw [meltSafe_of_far hb.far]; exact hm)] at ht
      have hcalm : t.calm = (potAtMelt b).calm := by rw [show t = _ from ht]; exact warmSweep_calm _
      have hsoak : (potAtMelt b).pot.soak = b.pot.soak.atMelt := rfl
      refine ⟨?_, (molten_of_calm hcalm).trans hb.molten, ?_, ?_, (mode_of_calm hcalm).trans (congrArg ModeCtl.mode hb.modes :), ?_⟩
      · rw [soak_of_calm hcalm, hsoak, hb.soak, atMelt_eq]
      · rw [condition_congr (potAtMelt b) (alarm_of_calm hcalm (by decide))]
        have hother : (conditionEnds .potWarmFail (conditionEnds .potCold b)).alarm .potCold = (conditionEnds .potCold b).alarm .potCold :=
          conditionEnds_alarm_other _ (by decide)
        exact (condition_congr (conditionEnds .potCold b) hother).trans (conditionEnds_condition b)
      · rw [condition_congr (potAtMelt b) (alarm_of_calm hcalm (by decide))]
        exact conditionEnds_condition (k := .potWarmFail) (conditionEnds .potCold b)
      · have hwarm : t.modes.warm.map WarmUp.steady = (potAtMelt b).modes.warm.map WarmUp.steady :=
          congrArg (fun c : Calm => c.modes.warm) hcalm
        have hread : ∀ o : Option WarmUp, o.map (·.meltReached) = (o.map WarmUp.steady).map (·.meltReached) := fun o => by
          cases o <;> rfl
        have hmelt : (potAtMelt b).modes.warm = s.modes.warm.map (fun w => { w with meltReached := true }) := by
          show (b.modes.warm.map _) = _
          rw [hb.modes]
        rw [hread, hwarm, ← hread, hmelt, Option.map_map]
        rfl
    case cold =>
      obtain ⟨b, hb, ht⟩ := deliver_pot_taken (htaken v hf hv hcool)
      rw [deliverMelt_cold hf hv ((configured_of_far hb.far).trans hc) (by rw [meltSafe_of_far hb.far]; exact hm)
        (by rw [meltSafe_of_far hb.far, hb.molten]; exact hk)] at ht
      exact hsoaks b hb ht
    case stale =>
      obtain ⟨b, hb, ht⟩ := deliver_pot_taken (htaken' (by rw [hst]; decide))
      rw [deliverMelt_stale hst] at ht
      exact hsoaks b hb ht
    case lost =>
      have hpot : PotTaken s (deliverPotLoop x s) := by
        rcases hl with ho | ⟨hf, hc, hcool, v, hv, -⟩
        · exact htaken' (by rw [ho]; decide)
        · exact htaken v hf hv hcool
      obtain ⟨b, hb, ht⟩ := deliver_pot_taken hpot
      have hlost : deliverMelt x b = moltenLost (soakInterrupted b) := by
        refine deliverMelt_lost ?_ (hb.molten.trans hm)
        rcases hl with ho | ⟨hf, hc, hcool, v, hv, hlow⟩
        · exact .inl ho
        · exact .inr ⟨hf, (configured_of_far hb.far).trans hc, v, hv, by rw [meltSafe_of_far hb.far]; exact hlow⟩
      rw [hlost] at ht
      let c := soakInterrupted b
      let m := moltenEnds c
      have hdrained : t.Drained := by rw [show t = _ from ht]; exact warmSweep_drained (moltenLost_drained _)
      have hmm : m.modes = s.modes := (moltenEnds_modes c).trans hb.modes
      have hma : ∀ j, j ≠ .potOvertemp → j ∉ extractKinds → m.alarm j = s.alarm j := fun j hj he =>
        (alarm_of_alarms (waveSync_alarms _)).trans (hb.alarm j hj he)
      have hmf : m.far = s.far := (far_of_ground (waveSync_ground _)).trans hb.far
      have hphase : c.wave.phase = s.wave.phase := congrArg Wave.phase hb.wave
      have hnot : (∀ d n w, s.wave.phase ≠ .search d n w) → t = warmSweep (warmMoltenLost (coldIfWaveOn m)) := fun hp => by
        rw [show t = _ from ht, moltenLost_of_not_search (s := c) (by rw [hphase]; exact hp)]
      refine ⟨hdrained.molten, hdrained.standing, ?_, hdrained.feeder, hdrained.output, fun hwave hp hcold => ?wave,
        fun d n w hp hcal hdue => ?search, fun hwm hst hp => ?warmMelt, fun hwm hst hp => ?extraction, fun hsb hp => ?standby,
        fun hother hp => ?other⟩
      · have hg : t.ground = { c.ground with molten := false } := by
          rw [show t = _ from ht, warmSweep_ground]
          exact moltenLost_ground c
        exact (congrArg Ground.level hg).trans hb.level
      case wave =>
        have hmwave : m.modes.mode.waveOn = true := by
          rw [hmm]
          rcases hwave with h | h | h <;> rw [h] <;> rfl
        have hmsafe : (occurrence .potCold .active m).modes.mode ≠ .safe := by
          show m.modes.mode ≠ .safe
          rw [hmm]
          rcases hwave with h | h | h <;> rw [h] <;> decide
        have hmcold : m.condition .potCold = false := (condition_congr s (hma _ (by decide) (by decide))).trans hcold
        let z := setMode .safe (occurrence .potCold .active m)
        have hcoldif : coldIfWaveOn m = z := by
          unfold coldIfWaveOn
          rw [hmwave]
          show raise .potCold m = _
          rw [raise_of_absent hmcold]
          exact react_safe hmsafe
        have hz : z.modes.mode = .safe := congrArg ModeCtl.mode (setMode_modes .safe _)
        have htz : t = z := by
          rw [hnot hp, hcoldif, warmMoltenLost_of_other (by rw [hz]; decide) (by rw [hz]; decide),
            warmSweep_of_not_warmup (by rw [hz]; decide)]
        refine ⟨by rw [htz]; exact hz, ?_⟩
        rw [htz, setMode_alarm (by decide) (by decide), occurrence_alarm_same, hma _ (by decide) (by decide), seconds_of_far hmf]
      case search =>
        let f := failSearch .potNotMolten m
        have hfm : f.modes = s.modes := (congrArg Quiet.modes (failSearch_quiet .potNotMolten m)).trans hmm
        have hfd : f.extr.forcedDue = false := by
          have hfe : f.extr = b.extr := congrArg Core.extr ((failSearch_core m .potNotMolten).trans (waveSync_core _))
          rw [hfe]
          exact hb.due hdue
        have hready : enterReady f = setMode .ready f := by
          rw [enterReady, forcedTest_of_not_due _ (setMode_not_due .ready hfd)]
        have hz : (setMode .ready f).modes.mode = .ready := congrArg ModeCtl.mode (setMode_modes .ready f)
        have htz : t = setMode .ready f := by
          rw [show t = _ from ht, moltenLost_of_search (s := c) (hphase.trans hp)]
          show warmSweep (warmMoltenLost (coldIfWaveOn (enterReady f))) = _
          rw [hready, coldIfWaveOn_of_off (by rw [hz]; rfl), warmMoltenLost_of_other (by rw [hz]; decide) (by rw [hz]; decide),
            warmSweep_of_not_warmup (by rw [hz]; decide)]
        have hspray : (waveMode .ready f).wave = f.wave := by
          show (sprayAtMode .ready (modeJudged .ready f)).wave = _
          rw [sprayAtMode_wave, modeJudged_wave]
        have hw : (setMode .ready f).wave.phase = f.wave.phase ∧ (setMode .ready f).wave.outcome = f.wave.outcome
            ∧ (setMode .ready f).wave.cause = f.wave.cause := by
          rw [setMode_wave, waveAtMode_wave_of_off _ rfl, hspray]
          exact ⟨rfl, rfl, rfl⟩
        obtain ⟨hwp, hwo, hwc⟩ := hw
        have hfw : f.wave.phase = .none ∧ f.wave.outcome = .failed ∧ f.wave.cause = .potNotMolten := by
          rw [show f.wave = _ from failSearch_wave m .potNotMolten]
          exact ⟨rfl, rfl, rfl⟩
        rw [htz]
        refine ⟨hz, hwp.trans hfw.1, hwo.trans hfw.2.1, hwc.trans hfw.2.2, ?_⟩
        rw [setMode_alarm (by decide) (by decide)]
        show (eventOccurs .calFail (waveSync _)).alarm .calFail = _
        unfold eventOccurs
        rw [occurrence_alarm_same, alarm_of_alarms (waveSync_alarms _)]
        have hcal' : m.alarm .calFail = s.alarm .calFail := hma _ (by decide) (by decide)
        have hsec : (waveSync (m.setWave { m.wave with phase := .none, outcome := .failed, cause := .potNotMolten })).seconds
            = s.seconds := seconds_of_far ((far_of_ground (waveSync_ground _)).trans hmf)
        rw [hsec]
        exact congrArg (fun e : AlarmEntry => ({ state := .latched, count := min 255 (e.count + 1), time := some (s.seconds, .current) } : AlarmEntry)) hcal'
      case warmMelt =>
        have hmode : m.modes.mode = .warmup := by rw [hmm]; exact hwm
        have hstage : m.stage? = s.stage? := by unfold State.stage?; rw [hmm]
        obtain ⟨w, hw⟩ : ∃ w, m.modes.warm = some w := by
          unfold State.stage? at hstage hst
          cases hw : m.modes.warm with
          | none =>
            rw [hw] at hstage
            rcases hst with h | h <;> rw [h] at hstage <;> cases hstage
          | some w => exact ⟨w, rfl⟩
        have htz : t = warmSweep (enterMelt m) := by
          have hmelt : warmMoltenLost m = enterMelt m := by
            unfold warmMoltenLost
            rw [hmode, hstage]
            rcases hst with h | h <;> rw [h]
          rw [hnot hp, coldIfWaveOn_of_off (by rw [hmode]; rfl), hmelt]
        rw [htz]
        exact ⟨warmSweep_stage_of_early (enterMelt_stage hw) (.inl rfl), (soak_of_calm (warmSweep_calm _)).trans enterMelt_soak⟩
      case extraction =>
        have hmode : m.modes.mode = .warmup := by rw [hmm]; exact hwm
        have hstage : m.stage? = some .extraction := by unfold State.stage? at hst ⊢; rw [hmm]; exact hst
        let z := settleLoops (unstartZones (m.setModes { m.modes with meltKept := false }))
        have htz : t = warmSweep z := by
          have hmelt : warmMoltenLost m = z := by
            unfold warmMoltenLost
            rw [hmode, hstage]
          rw [hnot hp, coldIfWaveOn_of_off (by rw [hmode]; rfl), hmelt]
        obtain ⟨w, hw, hwst⟩ : ∃ w, z.modes.warm = some w ∧ w.stage = .extraction := by
          unfold State.stage? at hstage
          cases hw : m.modes.warm with
          | none => rw [hw] at hstage; cases hstage
          | some w =>
            rw [hw] at hstage
            exact ⟨w, hw, Option.some.inj hstage⟩
        have hz : ∀ k, (z.zone k).started = false := fun k => by
          show ((settleLoops _).zone k).started = false
          rw [settleLoops_zone]
          have hunstarted : ((unstartZones (m.setModes { m.modes with meltKept := false })).zone k).started = false :=
            congrArg Zone.started (zone_mapZones _ (fun _ z => { z with started := false }) k)
          split <;> exact hunstarted
        rw [htz]
        refine ⟨(warmSweep_modes_of_unstarted hw hwst hz).trans ?_, fun k => (warmSweep_unstarted_of_extraction hw hwst k).trans (hz k)⟩
        show ({ m.modes with meltKept := false } : ModeCtl) = _
        rw [hmm]
      case standby =>
        have hmode : m.modes.mode = .standby := by rw [hmm]; exact hsb
        let z := m.setModes { m.modes with meltKept := false }
        have htz : t = z := by
          have hmelt : warmMoltenLost m = z := by
            unfold warmMoltenLost
            rw [hmode]
          rw [hnot hp, coldIfWaveOn_of_off (by rw [hmode]; rfl), hmelt]
          exact warmSweep_of_not_warmup (show m.modes.mode ≠ .warmup by rw [hmode]; decide)
        rw [htz]
        show ({ m.modes with meltKept := false } : ModeCtl) = _
        rw [hmm]
      case other =>
        have hne : m.modes.mode ≠ .standby ∧ m.modes.mode ≠ .warmup ∧ m.modes.mode.waveOn = false := by
          rw [hmm]
          rcases hother with h | h | h <;> rw [h] <;> exact ⟨by decide, by decide, rfl⟩
        have htz : t = m := by
          rw [hnot hp, coldIfWaveOn_of_off hne.2.2, warmMoltenLost_of_other hne.1 hne.2.1, warmSweep_of_not_warmup hne.2.1]
        rw [htz]
        exact hmm

end Sys2Proof.Machine
end

section
/-! PROOFS. The events of one block (R120, R124, R146, R147, R152, R175, R177) and the owners of the channels 8, 9 and 11. -/

namespace Sys2Proof.Machine

variable {s : State}

theorem runWhile_runs (b : Bool) (t : Option Nat) :
    (b = true → runWhile b t = some (t.getD 0)) ∧ (¬ b = true → runWhile b t = none) := by
  cases b <;> simp [runWhile]

theorem runWhile_iff {b : Bool} {test : Prop} (h : b = true ↔ test) (t : Option Nat) :
    (test → runWhile b t = some (t.getD 0)) ∧ (¬ test → runWhile b t = none) :=
  ⟨fun ht => (runWhile_runs b t).1 (h.2 ht), fun ht => (runWhile_runs b t).2 (fun hb => ht (h.1 hb))⟩

/-! ### The timers after a change of the duct or of the feedback (R147) -/

/-- The items of the monitor that are no timer of a state's set. -/
def Extraction.untimed (e : Extraction) : Extraction :=
  { e with prove := none, qualify := none, recover := none, warn := none, fail := none, feedbackTimer := none }

@[simp] theorem retime_untimed (e : Extraction) : e.retime.untimed = e.untimed := by
  unfold Extraction.retime
  split <;> rfl

theorem retime_qualify {e : Extraction} (h : e.state = .proving ∨ e.state = .failed) :
    e.retime.qualify = runWhile e.qualifying e.qualify := by
  unfold Extraction.retime
  obtain h | h := h <;> rw [h]

theorem retime_warn {e : Extraction} (h : e.state = .proven) : e.retime.warn = runWhile e.belowWarn e.warn := by
  unfold Extraction.retime
  rw [h]

theorem retime_recover {e : Extraction} (h : e.state = .warn) : e.retime.recover = runWhile (!e.belowWarn) e.recover := by
  unfold Extraction.retime
  rw [h]

theorem retime_fail {e : Extraction} (h : e.state = .proven ∨ e.state = .warn) :
    e.retime.fail = runWhile e.belowFail e.fail := by
  unfold Extraction.retime
  obtain h | h := h <;> rw [h]

theorem retime_feedbackTimer {e : Extraction} (h : e.state = .proven ∨ e.state = .warn) :
    e.retime.feedbackTimer = runWhile e.feedbackLost e.feedbackTimer := by
  unfold Extraction.retime
  obtain h | h := h <;> rw [h]

section Untimed
variable {a b : Extraction} (h : a.untimed = b.untimed)
include h
theorem state_of_untimed : a.state = b.state := (congrArg Extraction.state h :)
theorem fan_of_untimed : a.fan = b.fan := (congrArg Extraction.fan h :)
theorem suction_of_untimed : a.suction = b.suction := (congrArg Extraction.suction h :)
theorem feedback_of_untimed : a.feedback = b.feedback := (congrArg Extraction.feedback h :)
theorem grace_of_untimed : a.grace = b.grace := (congrArg Extraction.grace h :)
theorem forcedDue_of_untimed : a.forcedDue = b.forcedDue := (congrArg Extraction.forcedDue h :)
theorem clog_of_untimed : a.clog = b.clog := (congrArg Extraction.clog h :)
end Untimed

theorem qualifying_iff {e : Extraction} : e.qualifying = true ↔ e.suction = .strong ∧ e.feedback = true := by
  simp [Extraction.qualifying]

theorem belowWarn_iff {e : Extraction} : e.belowWarn = true ↔ e.suction = .weak ∨ e.suction = .lost := by
  simp [Extraction.belowWarn]

theorem not_belowWarn_iff {e : Extraction} : (!e.belowWarn) = true ↔ e.suction = .strong ∨ e.suction = .adequate := by
  unfold Extraction.belowWarn
  cases e.suction <;> decide

theorem belowFail_iff {e : Extraction} : e.belowFail = true ↔ e.suction = .lost := by simp [Extraction.belowFail]

/-! ### The filter watch -/

theorem watchFilter_clear {v : Int} (hf : s.extr.fan = true) (hc : s.configured = true) (hv : v ≤ (s.param 95 : Int)) :
    watchFilter v s = { s with extr := { s.extr with clog := none }
                               alarms := s.alarms.set .filterClog (s.alarm .filterClog).disappear } := by
  simp only [watchFilter, hf, hc, Bool.and_self, if_true, if_neg (not_lt.2 hv)]
  rfl

theorem watchFilter_clogged {v : Int} (hf : s.extr.fan = true) (hc : s.configured = true) (hv : ¬ v ≤ (s.param 95 : Int)) :
    watchFilter v s = if s.condition .filterClog = true then s
      else { s with extr := { s.extr with clog := some (s.extr.clog.getD 0) } } := by
  simp only [watchFilter, hf, hc, Bool.and_self, if_true, if_pos (not_le.1 hv)]
  rfl

theorem watchFilter_unjudged {v : Int} (h : ¬ (s.extr.fan = true ∧ s.configured = true)) : watchFilter v s = s := by
  simp [watchFilter, h]

/-! ### The ALERT pulse -/

theorem pulseEnds_eq (a : Alert) : pulseEnds a = { a with phase := if a.phase = .low then .recovery else a.phase } := by
  obtain ⟨attention, mode, phase, pending⟩ := a
  cases phase <;> rfl

theorem recoveryEnds_eq (a : Alert) : recoveryEnds a = if a.phase ≠ .recovery then a
    else if a.pending = 0 then { a with phase := .rest } else { a with phase := .low, pending := a.pending - 1 } := by
  obtain ⟨attention, mode, phase, pending⟩ := a
  cases phase <;> rfl

/-! ### The feeder's proving, the clog timer -/

theorem feedProveExpires_live {b : Int} {n : Nat} (hr : s.pot.feeder = .running b n) (hl : s.pot.standing = .live) :
    feedProveExpires s = eventOccurs .feedFault (stopFeeder s) := by
  simp only [feedProveExpires, hr, hl, if_true]
  rfl

theorem feedProveExpires_still (h : s.pot.feeder = .off ∨ s.pot.standing ≠ .live) : feedProveExpires s = s := by
  unfold feedProveExpires
  split
  next b n hr => exact if_neg (h.resolve_left (by rw [hr]; nofun))
  next hr => rfl

theorem clogExpires_runs {n : Nat} (hn : s.extr.clog = some n) (hc : s.condition .filterClog = false) :
    clogExpires s = occurrence .filterClog .active (s.setExtr { s.extr with clog := none }) := by
  simp only [clogExpires, hn]
  exact conditionAppears_of_absent (s := s.setExtr { s.extr with clog := none }) hc

theorem clogExpires_still (h : s.extr.clog = none) : clogExpires s = s := by simp only [clogExpires, h]

theorem deliver_of_no_owner {ch : Nat} (h : 12 ≤ ch) : deliver ch s = s := by
  obtain ⟨n, rfl⟩ : ∃ n, ch = n + 12 := ⟨ch - 12, by omega⟩
  rfl

/-- Settles O54: each event by the block that it changes, the owners of the channels by what they read of their slots. -/
theorem eventsOfOneBlock : Obligations.EventsOfOneBlock := by
  intro s
  refine ⟨rfl, fun b n hr hl => ?feed, fun h => congrArg Host.Outcome.next (feedProveExpires_still h), fun n hn hc => ?clog,
    fun h => congrArg Host.Outcome.next (clogExpires_still h), fun on => rfl, ?pulse, ?recovery, ?duct, ?filter, ?flux,
    fun ch h => deliver_of_no_owner h, fun b => ?feedback⟩
  case feed => exact congrArg Host.Outcome.next (feedProveExpires_live hr hl)
  case clog => exact congrArg Host.Outcome.next (clogExpires_runs hn hc)
  case pulse => exact congrArg (fun a => Host.Outcome.next { s with alert := a }) (pulseEnds_eq s.alert)
  case recovery => exact congrArg (fun a => Host.Outcome.next { s with alert := a }) (recoveryEnds_eq s.alert)
  case duct =>
    intro t class_ runs
    let e : Extraction := { s.extr with suction := class_ }
    have ht : t = { s with extr := e.retime } := by
      show takeSuction _ s = takeSuction class_ s
      refine congrArg (takeSuction · s) ?_
      show _ = match (s.slot 8).freshValue with | some v => _ | none => _
      cases (s.slot 8).freshValue <;> rfl
    have hx : t.extr = e.retime := congrArg State.extr ht
    have hu : t.extr.untimed = e.untimed := (congrArg Extraction.untimed hx).trans (retime_untimed e)
    have hsuction : e.suction = class_ := rfl
    have hstate : e.state = s.extr.state := rfl
    have hfeedback : e.feedback = s.extr.feedback := rfl
    have hqualify : e.qualify = s.extr.qualify := rfl
    have hwarn : e.warn = s.extr.warn := rfl
    have hrecover : e.recover = s.extr.recover := rfl
    have hfail : e.fail = s.extr.fail := rfl
    refine ⟨by rw [hx]; exact ht, (suction_of_untimed hu).trans hsuction, (state_of_untimed hu).trans hstate,
      (fan_of_untimed hu :), (feedback_of_untimed hu).trans hfeedback,
      (grace_of_untimed hu :), (forcedDue_of_untimed hu :),
      (clog_of_untimed hu :), fun h => ?_, fun h => ?_, fun h => ?_, fun h => ?_⟩
    · rw [hx, retime_qualify (by rwa [hstate]), hqualify]
      exact runWhile_iff (qualifying_iff.trans (by rw [hsuction, hfeedback])) _
    · rw [hx, retime_warn (by rwa [hstate]), hwarn]
      exact runWhile_iff (belowWarn_iff.trans (by rw [hsuction])) _
    · rw [hx, retime_recover (by rwa [hstate]), hrecover]
      exact runWhile_iff (not_belowWarn_iff.trans (by rw [hsuction])) _
    · rw [hx, retime_fail (by rwa [hstate]), hfail]
      exact runWhile_iff (belowFail_iff.trans (by rw [hsuction])) _
  case filter =>
    have hdeliver : deliver 9 s = match (s.slot 9).freshValue with
      | some v => watchFilter v s
      | none => s.setExtr { s.extr with clog := none } := rfl
    split
    next v hv =>
      simp only [hdeliver, hv]
      split
      next h =>
        split
        next hle => exact watchFilter_clear h.1 h.2 hle
        next hle => exact watchFilter_clogged h.1 h.2 hle
      next h => exact watchFilter_unjudged h
    next hv =>
      rw [hdeliver, hv]
      rfl
  case flux =>
    have hdeliver : deliver 11 s = match (s.slot 11).freshValue with
      | some v => if s.configured && decide ((s.minFluxPressure : Int) ≤ v) then conditionEnds .fluxPressLow s else s
      | none => s := rfl
    rw [hdeliver]
    cases (s.slot 11).freshValue with
    | none => rfl
    | some v => simp [conditionEnds]
  case feedback =>
    let e : Extraction := { s.extr with feedback := b }
    have hu : e.retime.untimed = e.untimed := retime_untimed e
    have hstate : e.state = s.extr.state := rfl
    have hsuction : e.suction = s.extr.suction := rfl
    have hfeedback : e.feedback = b := rfl
    have hfan : e.fan = s.extr.fan := rfl
    have hqualify : e.qualify = s.extr.qualify := rfl
    have htimer : e.feedbackTimer = s.extr.feedbackTimer := rfl
    refine ⟨{ s with extr := e.retime }, rfl, rfl, (feedback_of_untimed hu).trans hfeedback,
      (state_of_untimed hu).trans hstate, (fan_of_untimed hu :).trans hfan, (suction_of_untimed hu).trans hsuction,
      (grace_of_untimed hu :), (clog_of_untimed hu :),
      fun h => ?_, fun h => ?_⟩
    · refine (retime_qualify (by rwa [hstate])).trans ?_
      simp [runWhile, Extraction.qualifying, hsuction, hfeedback, hqualify]
    · refine (retime_feedbackTimer (by rwa [hstate])).trans ?_
      simp [runWhile, Extraction.feedbackLost, hfan, hfeedback, htimer]

end Sys2Proof.Machine

end

section
/-! PROOFS. MEASURE and its single-shot conversions (R163, R164), and what a conversion makes of a reading (R156, R158, R159). -/

namespace Sys2Proof.Machine

variable {s : State}

/-! ### What a reading gives -/

theorem spanValue_eq (ch : Nat) (r : Reading) :
    spanValue ch r = r.value.filter (fun v => decide (ch < 14 ∨ (0 < v ∧ v < 65535))) := by
  simp only [spanValue, Bool.decide_or, Bool.decide_and]

/-- A thermocouple channel reads in degrees: every reading is in its span. -/
theorem spanValue_of_low {ch : Nat} (h : ch < 14) (r : Reading) : spanValue ch r = r.value := by
  rw [spanValue_eq]
  cases r.value <;> simp [h]

section
variable {ch : Nat} {r : Reading}

theorem resultOf_open (h : ch ≤ 6) (ho : r.circuitOpen = true) : s.resultOf ch r = some (none, .opened) := by
  simp [State.resultOf, h, ho]

theorem resultOf_out_of_span (h : 6 < ch ∨ r.circuitOpen = false) (hv : spanValue ch r = none) : s.resultOf ch r = none := by
  unfold State.resultOf
  rw [hv]
  split
  next hle => rw [h.resolve_left (by omega)]; rfl
  next => rfl

theorem resultOf_plain {v : Int} (h : 6 < ch) (hv : spanValue ch r = some v) : s.resultOf ch r = some (some v, .fresh) := by
  simp [State.resultOf, show ¬ ch ≤ 6 by omega, hv]

theorem resultOf_compensated {v c : Int} (h : ch ≤ 6) (ho : r.circuitOpen = false) (hv : spanValue ch r = some v)
    (hc : (s.slot 13).freshValue = some c) : s.resultOf ch r = some (some (v + c), .fresh) := by
  simp [State.resultOf, h, ho, hv, hc]

theorem resultOf_uncompensated (h : ch ≤ 6) (ho : r.circuitOpen = false) (hc : (s.slot 13).freshValue = none) :
    s.resultOf ch r = none := by
  unfold State.resultOf
  rw [if_pos h, ho, hc]
  cases spanValue ch r <;> rfl

end

/-- An answer while any reply is owed sends it and changes nothing else. -/
theorem answer_of_owed {kind tag : Byte} (payload : Bytes) (h : s.link.owed = some (kind, tag)) :
    answer payload s = s.setLink { s.link with
      receiver := .hunt, tx := .sending (frameBytes (replyKind kind) tag payload) } := by
  unfold answer
  split
  next k t heq =>
    cases h.symm.trans heq
    rfl
  next heq => exact nomatch h.symm.trans heq

/-! ### The single shot -/

theorem shotOf_some {ch : Nat} {r : Reading} {v : Option Int} {st : Standing} (h : s.resultOf ch r = some (v, st)) :
    s.shotOf ch r = { channel := ch, value := v, standing := st } := by simp only [State.shotOf, h]

theorem shotOf_none {ch : Nat} {r : Reading} (h : s.resultOf ch r = none) :
    s.shotOf ch r = { channel := ch, value := none, standing := .stale } := by simp only [State.shotOf, h]

theorem singleConversion_of_other {r : Reading} (h : s.scan.activity ≠ .single) : singleConversion r s = s := by
  unfold singleConversion
  split
  next hs _ => exact absurd hs h
  next => rfl

theorem singleConversion_goes_on {r : Reading} {q : SingleShot} (ha : s.scan.activity = .single) (hq : s.scan.single = some q)
    (h : q.cursor ≠ q.last) : singleConversion r s = s.setScan { s.scan with
      single := some { q with cursor := (q.cursor + 1) % 16, taken := q.taken ++ [s.shotOf q.cursor r] } } := by
  simp only [singleConversion, ha, hq, if_neg h, nextChannel]

theorem singleConversion_ends {r : Reading} {q : SingleShot} (ha : s.scan.activity = .single) (hq : s.scan.single = some q)
    (h : q.cursor = q.last) : singleConversion r s = finishSingle (q.taken ++ [s.shotOf q.cursor r]) s := by
  simp only [singleConversion, ha, hq, if_pos h]

/-- Settles O41: the range's check of MEASURE; a single shot's reading by channel, by circuit and by span. -/
theorem measureConverts : Obligations.MeasureConverts := by
  refine ⟨fun tag a b s hs => ?_, fun r s => ⟨fun h => congrArg Host.Outcome.next (singleConversion_of_other h), fun q ha hq => ?_⟩⟩
  · have hexec : exec (.measure tag a b) s = .next (if ¬ (a.toNat ≤ 15 ∧ b.toNat ≤ 15)
        then s.replying .measure tag (refusalPayload .badValue 0 (requestFields (.measure a b) s))
        else beginSingle a.toNat b.toNat (s.owing .measure tag)) := by
      refine (exec_act tag false (.measure a b) s hs rfl rfl).trans (congrArg Host.Outcome.next ?_)
      refine checked_step ?_ checked_none
      rw [Bool.and_eq_true, decide_eq_true_iff, decide_eq_true_iff, not_not]
      show a.toNat < 16 ∧ b.toNat < 16 ↔ _
      omega
    refine ⟨fun h => ?_, fun h => ?_⟩
    · rw [hexec, if_neg (not_not.2 h)]
      rfl
    · rw [hexec, if_pos h]
      rfl
  · intro shot
    have hshot : s.shotOf q.cursor r = shot := by
      show _ = if _ then _ else _
      rw [← spanValue_eq]
      by_cases hopen : q.cursor ≤ 6 ∧ r.circuitOpen = true
      · rw [if_pos hopen]
        exact shotOf_some (resultOf_open hopen.1 hopen.2)
      · rw [if_neg hopen]
        have hclosed : 6 < q.cursor ∨ r.circuitOpen = false := by
          rw [not_and, Bool.not_eq_true] at hopen
          exact (Nat.lt_or_ge 6 q.cursor).imp_right hopen
        cases hv : spanValue q.cursor r with
        | none => exact shotOf_none (resultOf_out_of_span hclosed hv)
        | some v =>
          by_cases hle : q.cursor ≤ 6
          · have ho := hclosed.resolve_left (by omega)
            dsimp only
            rw [if_pos hle]
            cases hc : (s.slot 13).freshValue with
            | none => exact shotOf_none (resultOf_uncompensated hle ho hc)
            | some c => exact shotOf_some (resultOf_compensated hle ho hv hc)
          · dsimp only
            rw [if_neg hle]
            exact shotOf_some (resultOf_plain (by omega) hv)
    rw [← hshot]
    refine ⟨fun h => congrArg Host.Outcome.next (singleConversion_goes_on ha hq h), fun h k tag ho => ?_⟩
    refine (congrArg Host.Outcome.next (singleConversion_ends ha hq h)).trans (congrArg Host.Outcome.next ?_)
    have hown : (s.setScan { s.scan with single := none, activity := .control }).link.owed = some (k, tag) := ho
    exact answer_of_owed _ hown

end Sys2Proof.Machine

end

section
/-! PROOFS. Stale markings (R159 to R161) and the burnout tests of the start-up pass (R102, R103, R156). -/

namespace Sys2Proof.Machine

variable (s : State)

/-! ### What the admission test leaves alone -/

theorem admissionTest_heat : (admissionTest s).heat = s.heat := by
  obtain ⟨t, m, h⟩ := admissionTest_eq s
  rw [h]

theorem admissionTest_zone (k : ZoneId) : (admissionTest s).zone k = s.zone k :=
  congrArg (fun x : Heaters => x.zones.get k) (admissionTest_heat s)

theorem admissionTest_pot : (admissionTest s).pot = s.pot := by
  obtain ⟨t, m, h⟩ := admissionTest_eq s
  rw [h]

theorem admissionTest_extr : (admissionTest s).extr = s.extr := by
  obtain ⟨t, m, h⟩ := admissionTest_eq s
  rw [h]

theorem admissionTest_spray : (admissionTest s).spray = s.spray := by
  obtain ⟨t, m, h⟩ := admissionTest_eq s
  rw [h]

theorem admissionTest_scan : (admissionTest s).scan = s.scan := congrArg Far.scan (admissionTest_far s)

theorem admissionTest_condition (k : AlarmKind) : (admissionTest s).condition k = s.condition k :=
  condition_congr s (admissionTest_alarm s k)

variable {s}

/-! ### Marking slots (R160) -/

theorem slot_setSlot_same {ch : Nat} {x : Slot} (h : ch < s.scan.slots.length) : (s.setSlot ch x).slot ch = x := by
  simp [State.slot, State.setSlot, List.getD, h]

theorem slot_of_beyond {ch : Nat} (h : s.scan.slots.length ≤ ch) : s.slot ch = Slot.afterReset := by
  simp [State.slot, List.getD, h]

/-- A marked slot is STALE, and its value is kept; a slot beyond the list counts as STALE already. -/
theorem slot_markSlot (ch c : Nat) : (s.setSlot ch { s.slot ch with standing := .stale }).slot c
    = if c = ch then { s.slot c with standing := .stale } else s.slot c := by
  split
  next h =>
    subst h
    obtain hlt | hle := Nat.lt_or_ge c s.scan.slots.length
    · exact slot_setSlot_same hlt
    · rw [slot_of_beyond hle, slot_of_beyond (by simpa [State.setSlot] using hle)]
  next h => exact slot_setSlot_other _ _ _ _ h

theorem slot_markSlots (chs : List Nat) (s : State) (c : Nat) :
    (markSlots chs s).slot c = if c ∈ chs then { s.slot c with standing := .stale } else s.slot c := by
  induction chs generalizing s with
  | nil => rfl
  | cons ch rest ih =>
    show (markSlots rest _).slot c = _
    rw [ih, slot_markSlot]
    by_cases hr : c ∈ rest
    · rw [if_pos hr, if_pos (List.mem_cons_of_mem _ hr)]
      split <;> rfl
    · rw [if_neg hr]
      by_cases hc : c = ch
      · rw [if_pos hc, if_pos (by simp [hc])]
      · rw [if_neg hc, if_neg (by simp [hc, hr])]

/-- Marking writes the slots of the scanner alone. -/
theorem markSlots_eq (chs : List Nat) (s : State) :
    markSlots chs s = { s with scan := { s.scan with slots := (markSlots chs s).scan.slots } } := by
  induction chs generalizing s with
  | nil => rfl
  | cons ch rest ih => exact (ih _).trans rfl

theorem deliverAll_far (chs : List Nat) (s : State) : (deliverAll chs s).far = s.far := by
  induction chs generalizing s with
  | nil => rfl
  | cons ch rest ih => exact (ih _).trans (deliver_far ch s)

/-- What a stale marking keeps of the blocks outside, and of the scanner. -/
theorem markStale_far (p : Nat → Slot → Bool) : (markStale p s).far = (markSlots (s.staleMarked p) s).far := deliverAll_far _ _

/-- The slots that the marking of one channel reaches. -/
theorem staleMarked_channel (ch : Fin 16) : s.staleMarked (fun c _ => c = ch.val)
    = (List.range 16).filter (fun c => decide ((s.slot c).standing ≠ .stale)
        && (c == ch.val || decide (ch.val = 13 ∧ (s.slot 13).standing ≠ .stale ∧ c ≤ 6 ∧ (s.slot c).standing = .fresh))) := by
  refine List.filter_congr fun c hc => ?_
  rw [Bool.eq_iff_iff]
  simp only [Bool.or_eq_true, Bool.and_eq_true, decide_eq_true_iff, beq_iff_eq, bne_iff_ne]
  constructor
  · rintro (⟨hst, hch⟩ | ⟨⟨⟨h13, hch⟩, hle⟩, hfr⟩)
    · exact ⟨hst, .inl hch⟩
    · exact ⟨by rw [hfr]; decide, .inr ⟨hch.symm, h13, hle, hfr⟩⟩
  · rintro ⟨hst, hch | ⟨hch, h13, hle, hfr⟩⟩
    · exact .inl ⟨hst, hch⟩
    · exact .inr ⟨⟨⟨h13, hch.symm⟩, hle⟩, hfr⟩

theorem mem_staleMarked_channel {ch : Fin 16} {c : Nat} (hs : (s.slot ch.val).standing ≠ .stale) :
    c ∈ s.staleMarked (fun c _ => c = ch.val) ↔ c = ch.val ∨ (ch.val = 13 ∧ c ≤ 6 ∧ (s.slot c).standing = .fresh) := by
  rw [staleMarked_channel]
  simp only [List.mem_filter, List.mem_range, Bool.or_eq_true, Bool.and_eq_true, decide_eq_true_iff, beq_iff_eq]
  constructor
  · rintro ⟨-, -, h | ⟨h13, -, hle, hfr⟩⟩
    · exact .inl h
    · exact .inr ⟨h13, hle, hfr⟩
  · rintro (rfl | ⟨h13, hle, hfr⟩)
    · exact ⟨ch.isLt, hs, .inl rfl⟩
    · exact ⟨by omega, by rw [hfr]; decide, .inr ⟨h13, h13 ▸ hs, hle, hfr⟩⟩

/-- The marking of a channel whose slot is STALE changes nothing. -/
theorem staleChannel_of_stale {ch : Fin 16} (hs : (s.slot ch.val).standing = .stale) : staleChannel ch.val s = s := by
  have hmarked : s.staleMarked (fun c _ => c = ch.val) = [] := by
    rw [staleMarked_channel, List.filter_eq_nil_iff]
    intro c _ h
    simp only [Bool.or_eq_true, Bool.and_eq_true, decide_eq_true_iff, beq_iff_eq] at h
    obtain ⟨hst, hch | ⟨hch, h13, -, -⟩⟩ := h
    · exact hst (hch ▸ hs)
    · exact h13 (hch ▸ hs)
  show deliverAll (s.staleMarked _) (markSlots (s.staleMarked _) s) = s
  rw [hmarked]
  rfl

/-! ### A burnout test (R102, R103) -/

/-- The presence that a test's outcome gives. -/
def presenceOf (isOpen : Bool) : Presence := if isOpen then .absent else .present

/-- The test's outcome at the zone's loop: its presence. -/
def presenceTaken (k : ZoneId) (x : Presence) (s : State) : State := settleLoops (s.updZone k (fun z => { z with presence := x }))

section
variable (k : ZoneId) (o : Bool)

theorem takePresence_eq : takePresence k o s =
    if (presenceTaken k (presenceOf o) s).anyMissing then raise .zoneMissing (presenceTaken k (presenceOf o) s)
    else if k = .z6 then conditionEnds .zoneMissing (presenceTaken k (presenceOf o) s) else presenceTaken k (presenceOf o) s := rfl

theorem presenceTaken_presence (x : Presence) (j : ZoneId) : ((presenceTaken k x s).zone j).presence
    = if j = k then x else (s.zone j).presence := by
  have h : ((presenceTaken k x s).zone j).presence = ((s.updZone k (fun z => { z with presence := x })).zone j).presence := by
    rw [presenceTaken, settleLoops_zone]
    exact (apply_ite Zone.presence _ _ _).trans (ite_self _)
  rw [h]
  split
  next hj =>
    subst hj
    rw [zone_updZone_same]
  next hj => rw [zone_updZone_other _ _ hj]

theorem presenceTaken_far (x : Presence) : (presenceTaken k x s).far = s.far := by
  rw [presenceTaken, settleLoops_far]
  exact updZone_far _ _ _

theorem presenceTaken_anyMissing (x : Presence) : (presenceTaken k x s).anyMissing
    = allZones.any (fun j => s.zoneRating j != 0 && (if j = k then x else (s.zone j).presence) == .absent) := by
  unfold State.anyMissing
  refine congrArg allZones.any (funext fun j => ?_)
  rw [presenceTaken_presence, show (presenceTaken k x s).zoneRating j = s.zoneRating j from param_of_far (presenceTaken_far k x) _]

theorem takePresence_ground : (takePresence k o s).ground = (presenceTaken k (presenceOf o) s).ground := by
  rw [takePresence_eq]
  split
  · exact raise_ground _ _
  · split
    · exact conditionEnds_ground _ _
    · rfl

theorem takePresence_condition : (takePresence k o s).condition .zoneMissing
    = if (presenceTaken k (presenceOf o) s).anyMissing then true else if k = .z6 then false else s.condition .zoneMissing := by
  rw [takePresence_eq]
  split
  · exact raise_condition (j := .zoneMissing) (by decide) _
  · split
    · exact conditionEnds_condition _
    · rfl

/-- Outside RUN the alarm of a missing thermocouple has no effect on the other blocks. -/
theorem takePresence_rest (h : s.modes.mode ≠ .run) : (takePresence k o s).modes = s.modes
    ∧ (takePresence k o s).tracker = s.tracker ∧ (takePresence k o s).spray = s.spray ∧ (takePresence k o s).wave = s.wave
    ∧ (takePresence k o s).pot = s.pot ∧ (takePresence k o s).extr = s.extr := by
  have hkept : ∀ u : State, (u.modes = s.modes ∧ u.tracker = s.tracker ∧ u.spray = s.spray ∧ u.wave = s.wave
      ∧ u.pot = s.pot ∧ u.extr = s.extr) → (raise .zoneMissing u).modes = s.modes
      ∧ (raise .zoneMissing u).tracker = s.tracker ∧ (raise .zoneMissing u).spray = s.spray
      ∧ (raise .zoneMissing u).wave = s.wave ∧ (raise .zoneMissing u).pot = s.pot ∧ (raise .zoneMissing u).extr = s.extr := by
    intro u hu
    cases hc : u.condition .zoneMissing with
    | true => rwa [raise_of_present hc]
    | false =>
      rw [raise_of_absent hc, show severity .zoneMissing = .stop from rfl, react_stop_of_not_run]
      · exact hu
      · show u.modes.mode ≠ .run
        rwa [hu.1]
  rw [takePresence_eq]
  split
  · exact hkept _ ⟨rfl, rfl, rfl, rfl, rfl, rfl⟩
  · split <;> exact ⟨rfl, rfl, rfl, rfl, rfl, rfl⟩

end

theorem zoneAt_zoneIndex (k : ZoneId) : zoneAt (zoneIndex k) = some k := by cases k <;> rfl

theorem burnoutEnds_taken {k : ZoneId} {o : Bool} (ha : s.scan.activity = .startUp) (hc : s.store.checking = false)
    (hk : s.scan.burnout = zoneIndex k) : burnoutEnds o s = (takePresence k o s).setScan { (takePresence k o s).scan with
      burnout := (takePresence k o s).scan.burnout + 1
      activity := if k = .z6 then (takePresence k o s).scan.nextActivity else .startUp } := by
  unfold burnoutEnds
  rw [if_pos ⟨ha, hc⟩, hk, zoneAt_zoneIndex]

/-- Settles O43: the channels that a marking reaches; the presence, the condition and the pass after a burnout test. -/
theorem staleMarkingsAndBurnoutTests : Obligations.StaleMarkingsAndBurnoutTests := by
  refine ⟨fun ch s => ⟨fun h => ?_, fun h => ?_, ?_⟩, fun o s => ⟨fun h => ?_, fun k ha hc hk => ?_⟩⟩
  · exact congrArg (fun u => Host.Outcome.next (admissionTest u)) (staleChannel_of_stale h)
  · obtain ⟨m, hm⟩ : ∃ m, m = markSlots (s.staleMarked (fun c _ => c = ch.val)) s := ⟨_, rfl⟩
    have hfar : (admissionTest (staleChannel ch.val s)).far = m.far := by
      rw [admissionTest_far, hm]
      exact markStale_far _
    have hscan : (admissionTest (staleChannel ch.val s)).scan = m.scan := congrArg Far.scan hfar
    have hmarked : m = { s with scan := { s.scan with slots := m.scan.slots } } := by
      rw [hm]
      exact markSlots_eq _ s
    have hkept : ∀ {α : Type} (f : Far → α), f (admissionTest (staleChannel ch.val s)).far
        = f { s.far with scan := { s.scan with slots := m.scan.slots } } := fun f =>
      congrArg f (hfar.trans (congrArg State.far hmarked))
    refine ⟨_, rfl, hkept Far.store, hkept Far.link, hkept Far.reports, hkept Far.uptime, hkept Far.freeIndex, ?_, fun c => ?_⟩
    · rw [hscan]
      exact congrArg State.scan hmarked
    · have hslot : (admissionTest (staleChannel ch.val s)).slot c = m.slot c :=
        congrArg (fun x : Scanner => x.slots.getD c Slot.afterReset) hscan
      rw [hslot, hm, slot_markSlots]
      simp only [mem_staleMarked_channel h]
  · intro marked
    show Host.Outcome.next (admissionTest (deliverAll (s.staleMarked _) (markSlots (s.staleMarked _) s))) = _
    rw [staleMarked_channel]
  · refine congrArg (fun u => Host.Outcome.next (admissionTest u)) (if_neg ?_)
    rintro ⟨ha, hc⟩
    rcases h with h | h
    · exact h ha
    · rw [hc] at h
      exact nomatch h
  · intro seen missing
    obtain ⟨p, hp⟩ : ∃ p, takePresence k o s = p := ⟨_, rfl⟩
    have hfar : p.far = s.far := by
      rw [← hp]
      exact (far_of_ground (takePresence_ground k o)).trans (presenceTaken_far k _)
    have hscan : p.scan = s.scan := congrArg Far.scan hfar
    obtain ⟨t, ht⟩ : ∃ t, t = p.setScan { p.scan with
      burnout := p.scan.burnout + 1, activity := if k = .z6 then p.scan.nextActivity else .startUp } := ⟨_, rfl⟩
    have hexec : exec (.burnoutTestEnd o) s = .next (admissionTest t) := by
      rw [ht, ← hp]
      exact congrArg (fun u => Host.Outcome.next (admissionTest u)) (burnoutEnds_taken ha hc hk)
    have hkept : ∀ {α : Type} (f : Far → α), (∀ x y : Far, (x = { y with scan := x.scan }) → f x = f y) →
        f (admissionTest t).far = f s.far := fun f hf => by
      rw [admissionTest_far, ← hfar, ht]
      exact hf _ _ rfl
    refine ⟨_, hexec, hkept Far.store fun _ _ h => (congrArg Far.store h :), hkept Far.link fun _ _ h => (congrArg Far.link h :),
      hkept Far.reports fun _ _ h => (congrArg Far.reports h :), hkept Far.uptime fun _ _ h => (congrArg Far.uptime h :),
      hkept Far.freeIndex fun _ _ h => (congrArg Far.freeIndex h :), ?_, fun j => ?_, ?_, fun hm => ?_⟩
    · rw [admissionTest_scan, ht]
      show ({ p.scan with burnout := _, activity := _ } : Scanner) = _
      rw [hscan, hk]
      rfl
    · rw [admissionTest_zone, ht]
      show (p.zone j).presence = _
      rw [← hp, presence_of_ground (takePresence_ground k o), presenceTaken_presence]
      rfl
    · rw [admissionTest_condition, ht]
      show p.condition .zoneMissing = _
      rw [← hp, takePresence_condition, presenceTaken_anyMissing]
      rfl
    · have hmt : t.modes = p.modes := by rw [ht]; rfl
      obtain ⟨hmodes, htracker, hspray, hwave, hpot, hextr⟩ := takePresence_rest k o hm
      rw [admissionTest_of_not_run (by rw [hmt, ← hp, hmodes]; exact hm), ht, ← hp]
      exact ⟨hmodes, htracker, hspray, hwave, hpot, hextr⟩

end Sys2Proof.Machine

end

section
/-! PROOFS. The extraction timers and the fume signal (R113, R114, R145 to R150): what a change of the extraction state leaves of
the monitor and of its two conditions, in each mode. -/

namespace Sys2Proof.Machine

variable {s : State} {k : AlarmKind}

/-! ### A change of the extraction state (R148, R149) -/

theorem changeExtraction_extr (new : ExtState) :
    (changeExtraction new s).extr = (s.extr.enter new).graceAt (new == .failed) s.configured :=
  congrArg Dry.extr (changeExtraction_dry new s)

theorem changeExtraction_state (new : ExtState) : (changeExtraction new s).extr.state = new := by
  rw [changeExtraction_extr, graceAt_state, enter_extState]

theorem changeExtraction_fan (new : ExtState) : (changeExtraction new s).extr.fan = s.extr.fan := by
  rw [changeExtraction_extr, graceAt_fan]
  exact (fan_of_untimed (retime_untimed _) :)

theorem changeExtraction_modes (new : ExtState) : (changeExtraction new s).modes = s.modes :=
  congrArg Quiet.modes (changeExtraction_quiet new s)

theorem changeExtraction_heat (new : ExtState) : (changeExtraction new s).heat = s.heat :=
  congrArg Dry.heat (changeExtraction_dry new s)

theorem changeExtraction_pot (new : ExtState) : (changeExtraction new s).pot = s.pot :=
  congrArg Dry.pot (changeExtraction_dry new s)

theorem changeExtraction_not_due (new : ExtState) (h : s.extr.forcedDue = false) :
    (changeExtraction new s).extr.forcedDue = false := by
  rw [changeExtraction_extr, Bool.eq_false_iff]
  intro hd
  have hkept : (s.extr.enter new).forcedDue = s.extr.forcedDue := (forcedDue_of_untimed (retime_untimed _) :)
  have hdue := hkept.symm.trans (graceAt_forcedDue hd)
  rw [h] at hdue
  exact nomatch hdue

theorem judgeQuiet_condition (b : Bool) : (judgeQuiet k b s).condition k = b := by
  unfold judgeQuiet
  split
  next hb => rw [conditionAppears_condition, hb]
  next hb => rw [conditionEnds_condition, Bool.eq_false_iff.mpr hb]

/-- Both conditions are what the new state makes them (R149). -/
theorem changeExtraction_conditions (new : ExtState) : (changeExtraction new s).condition .extractFail = (new == .failed)
    ∧ (changeExtraction new s).condition .extractWarn = (new == .warn) := by
  obtain ⟨t, ht⟩ : ∃ t, t = s.setExtr ((s.extr.enter new).graceAt (new == .failed) s.configured) := ⟨_, rfl⟩
  have hdry : ∀ j, j ≠ .fluxPressLow → (changeExtraction new s).alarm j
      = (judgeQuiet .extractFail (new == .failed) (judgeQuiet .extractWarn (new == .warn) t)).alarm j := fun j hj => by
    rw [ht]
    unfold changeExtraction
    dsimp only
    split
    · exact sprayExtractionLost_alarm _ hj
    · rfl
  constructor
  · rw [condition_congr _ (hdry .extractFail (by decide)), judgeQuiet_condition]
  · rw [condition_congr _ (hdry .extractWarn (by decide)), condition_congr _ (judgeQuiet_alarm_other _ _ (by decide)),
      judgeQuiet_condition]

/-! ### The fan and a mode entry at the two conditions -/

/-- The conditions that follow the extraction state. -/
def AlarmKind.ofExtraction (k : AlarmKind) : Prop := k = .extractWarn ∨ k = .extractFail

/-- A fan command that changes leads to a state in which neither condition is present. -/
theorem fanSync_condition (hk : k.ofExtraction) :
    (fanSync s).condition k = if s.fanWanted = s.extr.fan then s.condition k else false := by
  have hgone : ∀ (new : ExtState) (t : State), new ≠ .failed → new ≠ .warn → (changeExtraction new t).condition k = false :=
    fun new t hf hw => by
      rcases hk with rfl | rfl
      · rw [(changeExtraction_conditions new).2]
        exact beq_eq_false_iff_ne.mpr hw
      · rw [(changeExtraction_conditions new).1]
        exact beq_eq_false_iff_ne.mpr hf
  unfold fanSync
  split
  · rfl
  · split
    · exact hgone _ _ (by decide) (by decide)
    · exact hgone _ _ (by decide) (by decide)

/-- The state in which an entry into a mode sets the fan command. -/
def modeFanning (new : Mode) (s : State) : State := supplyAtMode s.modes.mode new (entryMarks new (modeSet new s))

section
variable (new : Mode)

theorem modeFanning_core : (modeFanning new s).core = (entryMarks new (modeSet new s)).core := supplyAtMode_core _ _ _

theorem modeFanning_extr : (modeFanning new s).extr = s.extr := by
  refine (congrArg Core.extr (modeFanning_core new)).trans ?_
  exact (entryMarks_extr _ _).trans (modeSet_extr _ _)

theorem modeFanning_fanWanted : (modeFanning new s).fanWanted = new.fanWanted s.pot.fumeHot := by
  refine (congrArg (fun c : Core => c.quiet.modes.mode.fanWanted c.pot.fumeHot) (modeFanning_core new)).trans ?_
  show (entryMarks new (modeSet new s)).modes.mode.fanWanted (entryMarks new (modeSet new s)).pot.fumeHot = _
  rw [entryMarks_modes, entryMarks_pot, modeSet_modes, modeSet_pot, enter_mode]

theorem modeFanning_alarm (hk : k.ofExtraction) : (modeFanning new s).alarm k = s.alarm k := by
  have hmark : k ∉ new.markKinds := by rcases hk with rfl | rfl <;> cases new <;> decide
  rw [modeFanning, supplyAtMode_alarm _ (by rcases hk with rfl | rfl <;> decide), entryMarks_alarm _ hmark]
  unfold modeSet
  dsimp only
  split
  · exact conditionEnds_alarm_other _ (by rcases hk with rfl | rfl <;> decide)
  · rfl

/-- Behind the fan command an entry into a mode leaves the two conditions alone. -/
theorem setMode_alarm_of_fan (hk : k.ofExtraction) : (setMode new s).alarm k = (fanSync (modeFanning new s)).alarm k := by
  have hdev : k ≠ .conveyorDev := by rcases hk with rfl | rfl <;> decide
  have hlimit : k ≠ .waveLimit := by rcases hk with rfl | rfl <;> decide
  have hcal : k ≠ .calFail := by rcases hk with rfl | rfl <;> decide
  have hflux : k ≠ .fluxPressLow := by rcases hk with rfl | rfl <;> decide
  rw [setMode_eq, alarm_of_alarms (afterLoops_alarms _), conveyorSync_alarm _ hdev, alarm_of_alarms (trackAtMode_alarms _ _),
    waveAtMode_alarm _ hlimit]
  split
  · rw [searchAtSafe_alarm _ hcal, sprayAtMode_alarm _ new hflux]
    rfl
  · exact sprayAtMode_alarm _ new hflux

/-- The two conditions after an entry into a mode: kept while the fan goes on, absent behind a change of it (R149). -/
theorem setMode_condition (hk : k.ofExtraction) : (setMode new s).condition k
    = if new.fanWanted s.pot.fumeHot = s.extr.fan then s.condition k else false := by
  rw [condition_congr _ (setMode_alarm_of_fan new hk), fanSync_condition hk, modeFanning_fanWanted, modeFanning_extr,
    condition_congr _ (modeFanning_alarm new hk)]

theorem setMode_condition_of_running (hk : k.ofExtraction) (hf : s.extr.fan = true) (hn : new ≠ .idle) :
    (setMode new s).condition k = s.condition k := by
  rw [setMode_condition new hk, Mode.fanWanted_of_ne_idle hn, if_pos hf.symm]

end

/-! ### A failure in RUN (R22) -/

section
variable (hd : s.extr.forcedDue = false) (hf : s.extr.fan = true)
include hd hf

/-- A drain to READY leaves the monitor and its conditions alone, and ends in DRAIN or in READY. -/
theorem enterDrain_ready_kept : (enterDrain .ready s).extr = s.extr
    ∧ (∀ j : AlarmKind, j.ofExtraction → (enterDrain .ready s).condition j = s.condition j)
    ∧ ((enterDrain .ready s).modes.mode = .drain ∨ (enterDrain .ready s).modes.mode = .ready) := by
  have hextr : (toDrain .ready s).extr = s.extr := toDrain_extr_of_running .ready hf
  have hcond : ∀ j : AlarmKind, j.ofExtraction → (toDrain .ready s).condition j = s.condition j := fun j hj =>
    setMode_condition_of_running (s := s.setModes { s.modes with drain := .ready }) .drain hj hf (by decide)
  by_cases hr : s.tracker.records = []
  · rw [enterDrain_of_empty _ hd hr]
    have hfan : (toDrain .ready s).extr.fan = true := by rw [hextr, hf]
    refine ⟨(setMode_extr_of_running hfan (by decide)).trans hextr, fun j hj => ?_, .inr ?_⟩
    · exact (setMode_condition_of_running _ hj hfan (by decide)).trans (hcond j hj)
    · rw [setMode_modes]
      rfl
  · rw [enterDrain_of_boards _ hd hr]
    refine ⟨hextr, hcond, .inl ?_⟩
    rw [toDrain_items]

end

/-! ### A change of state with all that it reaches (R148, R150) -/

theorem warmExtraction_of_other (h : s.modes.mode ≠ .warmup) : warmExtraction s = s := if_neg h

/-- Outside WARMUP a change of the state is the monitor's, and its failure in RUN drains. -/
theorem extractionTo_of_other (new : ExtState) (h : s.modes.mode ≠ .warmup) (hfan : s.fanFollows) (hforced : s.forcedSettled) :
    (extractionTo new s).extr = (changeExtraction new s).extr
    ∧ (∀ j : AlarmKind, j.ofExtraction → (extractionTo new s).condition j = (changeExtraction new s).condition j)
    ∧ (new = .failed → s.modes.mode = .run → s.condition .extractFail = false → (extractionTo new s).modes.mode ≠ .run)
    ∧ (new ≠ .failed → (extractionTo new s).modes = s.modes) := by
  obtain ⟨c, hc⟩ : ∃ c, changeExtraction new s = c := ⟨_, rfl⟩
  have hmodes : c.modes = s.modes := hc ▸ changeExtraction_modes new
  by_cases hrun : (new = .failed ∧ s.condition .extractFail = false) ∧ s.modes.mode = .run
  · obtain ⟨hreact, hrun⟩ := hrun
    have hd : c.extr.forcedDue = false := by
      rw [← hc]
      refine changeExtraction_not_due new (Bool.eq_false_iff.mpr fun hdue => ?_)
      have := hforced hdue
      rw [hrun] at this
      exact nomatch this
    have hf : c.extr.fan = true := by
      rw [← hc, changeExtraction_fan, hfan]
      show s.modes.mode.fanWanted s.pot.fumeHot = true
      rw [hrun]
      rfl
    obtain ⟨hextr, hcond, hmode⟩ := enterDrain_ready_kept hd hf
    have hled : extractionTo new s = enterDrain .ready c := by
      have hwarm : (enterDrain .ready c).modes.mode ≠ .warmup := by rcases hmode with hm | hm <;> rw [hm] <;> decide
      refine Eq.trans ?_ (warmExtraction_of_other hwarm)
      show warmExtraction (if _ then react .stop (changeExtraction new s) else _) = _
      rw [if_pos hreact, hc, react_stop_of_run (by rw [hmodes]; exact hrun)]
    rw [hled, hc]
    refine ⟨hextr, hcond, fun _ _ _ => ?_, fun hn => absurd hreact.1 hn⟩
    rcases hmode with hm | hm <;> rw [hm] <;> decide
  · have hled : extractionTo new s = c := by
      refine Eq.trans ?_ (warmExtraction_of_other (by rwa [hmodes]))
      show warmExtraction (if _ then react .stop (changeExtraction new s) else changeExtraction new s) = _
      rw [hc]
      split
      next hreact => rw [react_stop_of_not_run (by rw [hmodes]; exact fun hm => hrun ⟨hreact, hm⟩)]
      next => rfl
    rw [hled, hc]
    exact ⟨rfl, fun _ _ => rfl, fun hn hm ha => absurd ⟨⟨hn, ha⟩, hm⟩ hrun, fun _ => hmodes⟩

section
variable (hm : s.modes.mode = .warmup)
include hm

/-- The state at which a warm-up looks at its extraction. -/
theorem extractionTo_of_warmup (new : ExtState) : extractionTo new s = warmExtraction (changeExtraction new s) := by
  have hmode : (changeExtraction new s).modes.mode ≠ .run := by rw [changeExtraction_modes, hm]; decide
  show warmExtraction (if _ then react .stop (changeExtraction new s) else _) = _
  rw [react_stop_of_not_run hmode, ite_self]

/-- A failure aborts the warm-up (R6). -/
theorem extractionTo_aborts : extractionTo .failed s = setMode .idle (changeExtraction .failed s) := by
  rw [extractionTo_of_warmup hm, warmExtraction, if_pos (by rw [changeExtraction_modes, hm]), if_pos (changeExtraction_state _)]

/-- A sound state ends stage EXTRACTION, and no other stage (R5, R13). -/
theorem extractionTo_goes_on {new : ExtState} (hn : new.sound = true) : extractionTo new s
    = if s.stage? = some .extraction then endExtraction (changeExtraction new s) else changeExtraction new s := by
  have hstage : (changeExtraction new s).stage? = s.stage? := by
    unfold State.stage?
    rw [changeExtraction_modes]
  rw [extractionTo_of_warmup hm, warmExtraction, if_pos (by rw [changeExtraction_modes, hm]), changeExtraction_state, hn, hstage,
    if_neg (by rintro rfl; exact nomatch hn)]
  simp

end

theorem enterMelt_extr : (enterMelt s).extr = s.extr := (congrArg Core.extr (afterLoops_core _) :)

theorem enterZonesTogether_extr : (enterZonesTogether s).extr = s.extr := (extr_of_calm (warmSweep_calm _) :)

theorem endExtraction_extr : (endExtraction s).extr = s.extr := by
  unfold endExtraction
  split
  · exact enterZonesTogether_extr
  · exact enterMelt_extr

theorem endExtraction_mode : (endExtraction s).modes.mode = s.modes.mode := by
  unfold endExtraction
  split
  · exact (mode_of_calm (warmSweep_calm _) :)
  · rw [enterMelt_modes]

/-! ### The expiries (R147, R148) -/

theorem valves_shut (hv : s.valvesSafe) (h : s.extr.state = .failed ∨ s.extr.state = .off) :
    s.spray.sprayOpen = false ∧ s.spray.purgeOpen = false := by
  have hshut : ¬ (s.spray.sprayOpen = true ∨ s.spray.purgeOpen = true) := fun ho => by
    rcases hv ho with hs | hs <;> rcases h with h | h <;> exact nomatch h.symm.trans hs
  simpa only [not_or, Bool.not_eq_true] using hshut

/-- The monitor after a warm-up that a failure aborts: FAILED while the fume signal keeps the fan on, else OFF (R6, R145). -/
theorem aborted_extr (hfan : s.extr.fan = true) (hst : s.extr.state = .failed) :
    (setMode .idle s).extr.fan = s.pot.fumeHot
    ∧ (setMode .idle s).extr.state = (if s.pot.fumeHot = true then .failed else .off) := by
  rw [setMode_extr]
  refine ⟨fanned_fan _ _ _, ?_⟩
  show (s.extr.fanned s.pot.fumeHot _).state = _
  cases hhot : s.pot.fumeHot with
  | true => rw [fanned_of_eq hfan.symm, hst, if_pos rfl]
  | false =>
    rw [Extraction.fanned, if_neg (by rw [hfan]; decide), if_neg (by decide), graceAt_state, enter_extState]
    rfl

theorem aborted_condition (hk : k.ofExtraction) (hfan : s.extr.fan = true) :
    (setMode .idle s).condition k = (s.pot.fumeHot && s.condition k) := by
  rw [setMode_condition .idle hk, hfan]
  show (if s.pot.fumeHot = true then _ else _) = _
  cases s.pot.fumeHot <;> rfl

theorem admissionTest_stage : (admissionTest s).stage? = s.stage? := by
  unfold State.stage?
  rw [admissionTest_modes]

theorem takesPart_of_ground {t : State} (h : t.ground = s.ground) (k : ZoneId) : t.takesPart k = s.takesPart k := by
  have hfar := far_of_ground h
  unfold State.takesPart
  rw [activeField_congr (activeSet_of_ground h) (congrArg Far.store hfar) (congrArg Far.freeIndex hfar)]

theorem warm_of_stage {st : WarmStage} (h : s.stage? = some st) : ∃ w, s.modes.warm = some w := by
  obtain ⟨w, hw, -⟩ := Option.map_eq_some_iff.mp h
  exact ⟨w, hw⟩

/-- Where stage EXTRACTION goes (R5, R13). -/
theorem endExtraction_goes (hm : s.modes.mode = .warmup) (hst : s.stage? = some .extraction) :
    (s.modes.meltKept = false → (endExtraction s).stage? = some .melt ∧ (endExtraction s).pot.soak = .waiting)
    ∧ (s.modes.meltKept = true → ((endExtraction s).stage? = some .zones ∨ (endExtraction s).stage? = some .settle)
      ∧ ∀ k, ((endExtraction s).zone k).started = s.takesPart k) := by
  obtain ⟨w, hw⟩ := warm_of_stage hst
  refine ⟨fun hk => ?_, fun hk => ?_⟩
  · rw [endExtraction, if_neg (by rw [hk]; decide)]
    exact ⟨enterMelt_stage hw, enterMelt_soak⟩
  · rw [endExtraction, if_pos hk]
    obtain ⟨-, hstage, -, hzones⟩ := enterZonesTogether_warm hm hw
    exact ⟨hstage, fun k => (hzones k).1⟩

/-- Every slot of channel 6 that its owners take judges the fume signal (R113, R114). -/
theorem deliver_pot_fume (s : State) :
    ((deliver 6 s).pot.fumeHot, (deliver 6 s).pot.fumeJudged) = (fumeHotBy s.fumeOff (s.slot 6), true) := by
  show (deliver 6 s).ground.fume = _
  obtain ⟨b, hb⟩ := deliverMelt_ground (s.slot 6) (judgeFume (fumeHotBy s.fumeOff (s.slot 6)) (deliverPotLoop (s.slot 6) s))
  rw [deliver_pot, warmSweep_ground, hb, judgeFume_ground]

/-- Settles O53: the change of state that an expiry makes, by the mode and in WARMUP by the stage; the judgements of the fume
signal. -/
theorem extractionTimersExpire : Obligations.ExtractionTimersExpire := by
  refine ⟨?timers, fun s => ⟨fun h => ?judged, fun h => ?unjudged, ?taken, ?hot⟩⟩
  case timers =>
    intro s expires hfan hforced hvalves
    have hall : ∀ c olds timer new, exec c s = .next (admissionTest (extractionExpiry olds timer new s)) →
        (new ≠ .failed → new.sound = true) → expires c olds timer new := by
      intro c olds timer new hexec hnew
      refine ⟨fun h => ?_, fun hst ht => ?_⟩
      · refine hexec.trans (congrArg (fun u => Host.Outcome.next (admissionTest u)) (if_neg ?_))
        rintro ⟨hst, ht⟩
        rcases h with h | h
        · exact h hst
        · rw [h] at ht
          exact nomatch ht
      · replace hexec : exec c s = .next (admissionTest (extractionTo new s)) :=
          hexec.trans (congrArg (fun u => Host.Outcome.next (admissionTest u)) (if_pos ⟨hst, ht⟩))
        have hsafe : (admissionTest (extractionTo new s)).valvesSafe :=
          admissionTest_kept keptByModes_valvesSafe (extractionTo_kept keptByModes_valvesSafe new hvalves)
        have hground : (extractionTo new s).ground = s.ground := extractionTo_ground s new
        obtain ⟨t, hled⟩ : ∃ t, extractionTo new s = t := ⟨_, rfl⟩
        rw [hled] at hexec hsafe hground
        have hduct : t.extr.suction = s.extr.suction ∧ t.extr.feedback = s.extr.feedback :=
          ⟨suction_of_ground hground, feedback_of_ground hground⟩
        have hfanOn : s.modes.mode = .warmup → s.extr.fan = true := fun hm => hfan.trans <| by
          show s.modes.mode.fanWanted _ = true
          rw [hm]
          rfl
        have hother : s.modes.mode ≠ .warmup → t.extr.state = new ∧ t.condition .extractFail = (new == .failed)
            ∧ t.condition .extractWarn = (new == .warn) := fun hm => by
          obtain ⟨hextr, hcond, -, -⟩ := extractionTo_of_other new hm hfan hforced
          obtain ⟨hfail, hwarn⟩ := changeExtraction_conditions (s := s) new
          rw [hled] at hextr hcond
          exact ⟨by rw [hextr, changeExtraction_state], (hcond _ (.inr rfl)).trans hfail, (hcond _ (.inl rfl)).trans hwarn⟩
        have habort : new = .failed → s.modes.mode = .warmup → t = setMode .idle (changeExtraction .failed s) := fun hn hm => by
          rw [← hled, hn, extractionTo_aborts hm]
        have habortExtr : new = .failed → s.modes.mode = .warmup → t.extr.fan = s.pot.fumeHot
            ∧ t.extr.state = (if s.pot.fumeHot = true then .failed else .off) := fun hn hm => by
          have h := aborted_extr ((changeExtraction_fan .failed).trans (hfanOn hm)) (changeExtraction_state .failed)
          rw [changeExtraction_pot] at h
          rw [habort hn hm]
          exact h
        refine ⟨admissionTest t, hexec, sameOutside_of_far ((admissionTest_far t).trans (far_of_ground hground)), fun hm => ?other,
          fun hn => ?valves, fun hn hm => ?idle, fun hn hm => ?aborted, fun hn hm => ?warm, fun hn hm ha => ?run, fun hn hm => ?rest⟩
        case other =>
          rw [admissionTest_extr, admissionTest_condition, admissionTest_condition]
          obtain ⟨hstate, hfail, hwarn⟩ := hother hm
          exact ⟨hstate, hfail, hwarn, hduct⟩
        case valves =>
          refine valves_shut hsafe ?_
          rw [admissionTest_extr]
          by_cases hm : s.modes.mode = .warmup
          · rw [(habortExtr hn hm).2]
            cases s.pot.fumeHot
            · exact .inr rfl
            · exact .inl rfl
          · exact .inl ((hother hm).1.trans hn)
        case idle =>
          rw [admissionTest_modes, habort hn hm, setMode_modes]
          rfl
        case aborted =>
          rw [admissionTest_extr, admissionTest_condition, admissionTest_condition]
          have hf : (changeExtraction .failed s).extr.fan = true := (changeExtraction_fan .failed).trans (hfanOn hm)
          obtain ⟨hfail, hwarn⟩ := changeExtraction_conditions (s := s) .failed
          refine ⟨(habortExtr hn hm).1, (habortExtr hn hm).2, ?_, ?_⟩
          · rw [habort hn hm, aborted_condition (.inr rfl) hf, hfail, changeExtraction_pot]
            exact Bool.and_true _
          · rw [habort hn hm, aborted_condition (.inl rfl) hf, hwarn]
            exact Bool.and_false _
        case warm =>
          obtain ⟨c, hc⟩ : ∃ c, changeExtraction new s = c := ⟨_, rfl⟩
          have hmodes : c.modes = s.modes := hc ▸ changeExtraction_modes new
          have hcground : c.ground = s.ground := hc ▸ changeExtraction_ground s new
          have hcstage : c.stage? = s.stage? := by
            unfold State.stage?
            rw [hmodes]
          have hstate : c.extr.state = new := hc ▸ changeExtraction_state new
          obtain ⟨hfail, hwarn⟩ := changeExtraction_conditions (s := s) new
          have hgoes := extractionTo_goes_on hm (hnew hn)
          rw [hled, hc] at hgoes
          have hkept : t.extr = c.extr ∧ (∀ j, j ≠ .zoneWarmFail → t.alarm j = c.alarm j) ∧ t.modes.mode = c.modes.mode := by
            rw [hgoes]
            split
            · exact ⟨endExtraction_extr, fun j hj => endExtraction_alarm_other c hj, endExtraction_mode⟩
            · exact ⟨rfl, fun _ _ => rfl, rfl⟩
          obtain ⟨hextr, halarm, hmode⟩ := hkept
          have hcm : c.modes.mode = .warmup := by rw [hmodes, hm]
          have hends : s.stage? = some .extraction → t = endExtraction c := fun hst => by rw [hgoes, if_pos hst]
          rw [hc] at hfail hwarn
          refine ⟨?_, ?_, ?_, ?_, ?_, ?_, fun hst => ?_, fun hst hk => ?_, fun hst hk => ?_⟩
          · rw [admissionTest_extr, hextr, hstate]
          · rw [admissionTest_condition, condition_congr _ (halarm _ (by decide)), hfail]
            exact beq_eq_false_iff_ne.mpr hn
          · rw [admissionTest_condition, condition_congr _ (halarm _ (by decide)), hwarn]
          · rw [admissionTest_extr]; exact hduct.1
          · rw [admissionTest_extr]; exact hduct.2
          · rw [admissionTest_modes, hmode, hcm]
          · rw [admissionTest_modes, hgoes, if_neg hst, hmodes]
          · rw [admissionTest_stage, admissionTest_pot, hends hst]
            exact (endExtraction_goes hcm (hcstage.trans hst)).1 (by rw [hmodes, hk])
          · obtain ⟨hstage, hzones⟩ := (endExtraction_goes hcm (hcstage.trans hst)).2 (by rw [hmodes, hk])
            rw [← hends hst] at hstage hzones
            refine ⟨by rwa [admissionTest_stage], fun k => ?_⟩
            rw [admissionTest_zone, hzones k, takesPart_of_ground hcground]
        case run =>
          rw [admissionTest_modes, ← hled]
          exact (extractionTo_of_other new (by rw [hm]; decide) hfan hforced).2.2.1 hn hm ha
        case rest =>
          rw [admissionTest_modes, ← hled]
          exact (extractionTo_of_other new hm hfan hforced).2.2.2 hn
    refine ⟨hall _ _ _ _ rfl (fun h => absurd rfl h), hall _ _ _ _ rfl (fun _ => rfl), hall _ _ _ _ rfl (fun _ => rfl),
      hall _ _ _ _ rfl (fun h => absurd rfl h), hall _ _ _ _ rfl (fun h => absurd rfl h), hall _ _ _ _ rfl (fun _ => rfl)⟩
  case judged =>
    exact congrArg (fun u => Host.Outcome.next (admissionTest u)) (if_pos h)
  case unjudged =>
    obtain ⟨x, hx⟩ : ∃ x, x = s.setPot { s.pot with fumeHot := true, fumeJudged := true } := ⟨_, rfl⟩
    have hexec : exec .fumeFirstJudgementTimeout s = .next (admissionTest (fanSync x)) := by
      rw [hx]
      exact congrArg (fun u => Host.Outcome.next (admissionTest u)) (if_neg (by rw [h]; decide))
    have hwanted : x.fanWanted = true := by
      rw [hx]
      show s.modes.mode.fanWanted true = true
      cases s.modes.mode <;> rfl
    have hextr : (admissionTest (fanSync x)).extr = s.extr.fanned true s.configured := by
      have hsync : (fanSync x).extr = x.extr.fanned x.fanWanted x.configured := congrArg Dry.extr (fanSync_dry x)
      rw [admissionTest_extr, hsync, hwanted, hx]
      rfl
    have hquiet : (admissionTest (fanSync x)).quiet = s.quiet := by
      rw [admissionTest_quiet, fanSync_quiet, hx]
      rfl
    refine ⟨_, hexec, sameOutside_of_far (far_of_quiet hquiet), ?_, congrArg Quiet.modes hquiet, ?_, fun hf => ?_, fun hf => ?_⟩
    · rw [admissionTest_pot, fanSync_pot, hx]
      rfl
    · rw [hextr, fanned_fan]
    · rw [hextr, fanned_on _ hf]
      exact ⟨by rw [graceAt_state, enter_extState], rfl⟩
    · rw [hextr, fanned_of_eq hf.symm]
  case taken =>
    exact congrArg Prod.snd (deliver_pot_fume s)
  case hot =>
    refine (congrArg Prod.fst (deliver_pot_fume s)).trans ?_
    show fumeHotBy s.fumeOff _ = _
    unfold fumeHotBy
    cases (s.slot 6).freshValue <;> rfl

end Sys2Proof.Machine

end

section
/-! PROOFS. WAVE_CAL and the search by its dwells (R137 to R139, R141). -/

namespace Sys2Proof.Machine

variable {s : State}

/-! ### The wave output in CALIBRATING (R131) -/

theorem waveTarget_of_search {d : Direction} {n w : Nat} (hm : s.modes.mode = .calibrating) (hmolten : s.pot.molten = true)
    (hp : s.wave.phase = .search d n w) : s.waveTarget = n := by
  unfold State.waveTarget
  rw [hmolten, hm, hp]
  rfl

theorem waveTarget_of_writing {d : Nat} {l : Int} (hm : s.modes.mode = .calibrating) (hp : s.wave.phase = .writing d l) :
    s.waveTarget = 0 := by
  unfold State.waveTarget
  rw [hm, hp]
  cases s.pot.molten <;> rfl

/-! ### The search begins (R137) -/

/-- The search as WAVE_CAL begins it. -/
def searchBegun (s : State) : State :=
  s.setWave { s.wave with phase := .search .down (s.param 79) 0, outcome := .running, cause := .none }

theorem beginSearch_eq : beginSearch s = setMode .calibrating (searchBegun s) := rfl

theorem beginSearch_wave (hm : s.modes.mode = .ready) (hmolten : s.pot.molten = true) :
    (beginSearch s).wave = { (searchBegun s).wave with output := s.param 79 } := by
  let u := waveMode .calibrating (searchBegun s)
  have hwave : u.wave = (searchBegun s).wave := by
    show (sprayAtMode .calibrating (modeJudged .calibrating (searchBegun s))).wave = _
    simp
  have hpot : u.pot.molten = true := by
    have hspray : u.pot = (modeJudged .calibrating (searchBegun s)).pot := congrArg Dry.pot (sprayAtMode_dry _ Mode.calibrating)
    rw [hspray, modeJudged_pot]
    exact hmolten
  have htarget : u.waveTarget = s.param 79 :=
    waveTarget_of_search (waveMode_mode Mode.calibrating _) hpot (by rw [hwave]; rfl)
  have hold : (searchBegun s).modes.mode.waveOn = false := by
    show s.modes.mode.waveOn = false
    rw [hm]
    rfl
  rw [beginSearch_eq, setMode_wave, waveAtMode_wave_of_off _ rfl, hold]
  show { u.wave with output := u.waveTarget } = _
  rw [hwave, htarget]

/-! ### A dwell ends (R138, R139, R141) -/

theorem dwellEnds_down_wet {n w : Nat} (hp : s.wave.phase = .search .down n w) : dwellEnds true s
    = if s.minDrive < n then stepSearch .down (max (n - s.param 80) s.minDrive) (readFinger true s)
      else searchFails .wetAtMin (readFinger true s) := by
  have hphase : (readFinger true s).wave.phase = .search .down n w := hp
  simp only [dwellEnds, hphase]
  rfl

theorem dwellEnds_up_wet {n w : Nat} (hp : s.wave.phase = .search .up n w) :
    dwellEnds true s = candidateFound n (readFinger true s) := by
  have hphase : (readFinger true s).wave.phase = .search .up n w := hp
  simp only [dwellEnds, hphase]
  rfl

theorem dwellEnds_dry {d : Direction} {n w : Nat} (hp : s.wave.phase = .search d n w) :
    dwellEnds false s = climb n (readFinger false s) := by
  have hphase : (readFinger false s).wave.phase = .search d n w := hp
  simp only [dwellEnds, hphase]
  cases d <;> rfl

section
variable (hm : s.modes.mode = .calibrating) (hmolten : s.pot.molten = true)
include hm

include hmolten in
theorem stepSearch_wave (d : Direction) (n : Nat) :
    (stepSearch d n s).wave = { s.wave with phase := .search d n 0, output := n } := by
  obtain ⟨u, hu⟩ : ∃ u, u = s.setWave { s.wave with phase := .search d n 0 } := ⟨_, rfl⟩
  have htarget : u.waveTarget = n :=
    waveTarget_of_search (d := d) (w := 0) (by rw [hu]; exact hm) (by rw [hu]; exact hmolten) (by rw [hu]; rfl)
  rw [stepSearch, ← hu, waveSync_wave, htarget, hu]
  rfl

theorem searchFails_wave (hd : s.extr.forcedDue = false) (c : CalCause) : (searchFails c s).wave.phase = .none
    ∧ (searchFails c s).wave.outcome = .failed ∧ (searchFails c s).wave.cause = c ∧ (searchFails c s).wave.output = 0
    ∧ (searchFails c s).wave.cal = s.wave.cal ∧ (searchFails c s).modes.mode = .ready := by
  have hdue : (failSearch c s).extr.forcedDue = false := (congrArg (fun x : Core => x.extr.forcedDue) (failSearch_core s c)).trans hd
  have hold : (failSearch c s).modes.mode.waveOn = false := by
    rw [show (failSearch c s).modes.mode = s.modes.mode from congrArg (fun x : Core => x.quiet.modes.mode) (failSearch_core s c), hm]
    rfl
  have hready : searchFails c s = setMode .ready (failSearch c s) := forcedTest_of_not_due _ (setMode_not_due _ hdue)
  have hwave : (waveMode .ready (failSearch c s)).wave = (failSearch c s).wave := by
    show (sprayAtMode .ready (modeJudged .ready (failSearch c s))).wave = _
    simp
  have hset : (setMode .ready (failSearch c s)).wave
      = { (failSearch c s).wave with output := (waveMode .ready (failSearch c s)).waveTarget } := by
    rw [setMode_wave, waveAtMode_wave_of_off _ rfl, hold, hwave]
    rfl
  rw [hready]
  refine ⟨?_, ?_, ?_, setMode_output_off _ rfl (by decide), ?_, ?_⟩
  · rw [hset, failSearch_wave]
  · rw [hset, failSearch_wave]
  · rw [hset, failSearch_wave]
  · rw [hset, failSearch_wave]
  · rw [setMode_modes]
    rfl

omit hm in
theorem searchFails_alarm (hd : s.extr.forcedDue = false) (c : CalCause) : (searchFails c s).alarm .calFail
    = { state := .latched, count := min 255 ((s.alarm .calFail).count + 1), time := some (s.seconds, .current) } := by
  have hdue : (failSearch c s).extr.forcedDue = false := (congrArg (fun x : Core => x.extr.forcedDue) (failSearch_core s c)).trans hd
  have hready : searchFails c s = setMode .ready (failSearch c s) := forcedTest_of_not_due _ (setMode_not_due _ hdue)
  obtain ⟨u, hu⟩ : ∃ u, u = waveSync (s.setWave { s.wave with phase := .none, outcome := .failed, cause := c }) := ⟨_, rfl⟩
  have halarm : u.alarm .calFail = s.alarm .calFail := by
    rw [hu]
    exact alarm_of_alarms (waveSync_alarms _)
  have hup : u.seconds = s.seconds := by
    rw [hu]
    exact congrArg (fun x : Core => x.quiet.uptime / Config.ticksPerSecond) (waveSync_core _)
  rw [hready, setMode_alarm (by decide) (by decide), failSearch, ← hu]
  refine (occurrence_alarm_same _ _).trans ?_
  rw [halarm, hup]

end

theorem searchFails_far (c : CalCause) : (searchFails c s).far = s.far := by
  rw [searchFails, enterReady_far, failSearch_far]

theorem dwellEnds_fails {wet : Bool} {c : CalCause} (hm : s.modes.mode = .calibrating) (hd : s.extr.forcedDue = false)
    (h : dwellEnds wet s = searchFails c (readFinger wet s)) : ∃ t, exec (.dwellEnd wet) s = .next t ∧ SameOutside s t
      ∧ t.wave.phase = .none ∧ t.wave.outcome = .failed ∧ t.wave.cause = c ∧ t.wave.output = 0 ∧ t.wave.cal = s.wave.cal
      ∧ t.modes.mode = .ready ∧ t.alarm .calFail = { state := .latched, count := min 255 ((s.alarm .calFail).count + 1),
                                                      time := some (s.seconds, .current) } := by
  obtain ⟨hphase, houtcome, hcause, houtput, hcal, hmode⟩ := searchFails_wave (s := readFinger wet s) hm hd c
  exact ⟨_, congrArg Host.Outcome.next h, sameOutside_of_far (searchFails_far c), hphase, houtcome, hcause, houtput, hcal, hmode,
    searchFails_alarm (s := readFinger wet s) hd c⟩

theorem dwellEnds_goes {wet : Bool} {d : Direction} {n : Nat} (hm : s.modes.mode = .calibrating) (hmolten : s.pot.molten = true)
    (h : dwellEnds wet s = stepSearch d n (readFinger wet s)) : ∃ t, exec (.dwellEnd wet) s = .next t ∧ SameOutside s t
      ∧ t.wave.phase = .search d n 0 ∧ t.wave.output = n ∧ t.modes = s.modes ∧ t.alarms = s.alarms
      ∧ t.wave.cal = s.wave.cal ∧ t.wave.outcome = s.wave.outcome := by
  have hwave := stepSearch_wave (s := readFinger wet s) hm hmolten d n
  refine ⟨_, congrArg Host.Outcome.next h, sameOutside_of_far ((waveSync_far _).trans rfl), ?_, ?_, ?_, ?_, ?_, ?_⟩
  · rw [hwave]
  · rw [hwave]
  · exact congrArg Quiet.modes (waveSync_quiet _)
  · exact waveSync_alarms _
  · rw [hwave]; rfl
  · rw [hwave]; rfl

/-- Settles O51: WAVE_CAL's checks and the search that it begins; the end of a dwell by direction, finger and drive. -/
theorem calibrationSearch : Obligations.CalibrationSearch := by
  refine ⟨fun tag s hs hm => ?begins, fun wet dir n w s hm hmolten hd hp => ?dwell⟩
  case begins =>
    have hact : exec (.waveCal tag) s = .next (actWaveCal (s.owing .waveCal tag)) :=
      exec_act tag false .waveCal s hs (beq_iff_eq.mpr hm) rfl
    refine ⟨fun hk => ?_, fun hk hmolten => ?_, fun hk hmolten => ?_⟩
    · have hk' : (s.owing .waveCal tag).store.key = false := hk
      refine hact.trans (congrArg Host.Outcome.next ((checked_refused s .waveCal tag (c := .keyOff) (i := 0) ?_).trans rfl))
      simp only [firstRefusal, hk']
      rfl
    · have hk' : (s.owing .waveCal tag).store.key = true := hk
      have hmolten' : (s.owing .waveCal tag).pot.molten = false := hmolten
      refine hact.trans (congrArg Host.Outcome.next ((checked_refused s .waveCal tag (c := .wrongMode) (i := 0) ?_).trans rfl))
      simp only [firstRefusal, hk', hmolten']
      rfl
    · have hk' : (s.owing .waveCal tag).store.key = true := hk
      have hmolten' : (s.owing .waveCal tag).pot.molten = true := hmolten
      have hexec : exec (.waveCal tag) s = .next (accept State.outcomeField (beginSearch (s.owing .waveCal tag))) := by
        refine hact.trans (congrArg Host.Outcome.next (checked_taken ?_))
        simp only [firstRefusal, hk', hmolten']
        rfl
      have hwave := beginSearch_wave (s := s.owing .waveCal tag) hm hmolten
      obtain ⟨g, hg⟩ : ∃ g, beginSearch (s.owing .waveCal tag) = g := ⟨_, rfl⟩
      have hfar : g.far = (s.owing .waveCal tag).far := by
        rw [← hg, beginSearch_eq, setMode_far]
        rfl
      have hmodes : g.modes = { s.modes with
          mode := .calibrating, drain := .none, holdPending := false, ret := .none, holdTimer := 0, warm := none } := by
        rw [← hg]
        exact setMode_modes .calibrating _
      have hrun : g.tracker.conveyorRun = false := by
        rw [← hg]
        exact setMode_conveyorRun .calibrating _
      have hstarted : ∀ k, (g.zone k).started = (s.zone k).started := fun k => by
        rw [← hg]
        exact setMode_started .calibrating _ k
      rw [hg] at hexec hwave
      have hfield : g.outcomeField = [1#8] := by
        rw [State.outcomeField, hwave]
        rfl
      obtain ⟨heq, hans⟩ := answer_far (codeByte .ok ++ g.outcomeField) hfar
      rw [hfield] at heq hans
      refine ⟨_, hexec.trans (congrArg Host.Outcome.next ?_), hans, hmodes, ?_, ?_, ?_, ?_, ?_, hrun, hstarted⟩
      · rw [accept, hfield]
        exact heq
      · exact (congrArg Wave.phase hwave :)
      · exact (congrArg Wave.outcome hwave :)
      · exact (congrArg Wave.cause hwave :)
      · exact (congrArg Wave.output hwave :)
      · exact (congrArg Wave.cal hwave :)
  case dwell =>
    intro goes fails
    refine ⟨?_, ?_, ?_, ?_, ?_, ?_⟩
    · rintro rfl rfl hlt
      exact dwellEnds_goes hm hmolten ((dwellEnds_down_wet hp).trans (if_pos hlt))
    · rintro rfl rfl hle
      exact dwellEnds_fails hm hd ((dwellEnds_down_wet hp).trans (if_neg (not_lt.2 hle)))
    · rintro rfl hle
      exact dwellEnds_goes hm hmolten ((dwellEnds_dry hp).trans (if_pos hle))
    · rintro rfl hlt
      exact dwellEnds_fails hm hd ((dwellEnds_dry hp).trans (if_neg (not_le.2 hlt)))
    · rintro rfl rfl l hst hl
      obtain ⟨u, hu⟩ : ∃ u, u = (readFinger true s).setWave { (readFinger true s).wave with phase := .writing n l } := ⟨_, rfl⟩
      have hst' : (readFinger true s).pot.standing = .live := hst
      have hl' : (readFinger true s).pot.level = some l := hl
      have hfound : dwellEnds true s = beginOp (.writeCal n l) (waveSync u) := by
        rw [dwellEnds_up_wet hp, hu]
        simp only [candidateFound, hst', hl']
      have hfar : (waveSync u).far = s.far := by
        rw [waveSync_far, hu]
        rfl
      have htarget : u.waveTarget = 0 := waveTarget_of_writing (by rw [hu]; exact hm) (by rw [hu]; rfl)
      have hwave : (beginOp (.writeCal n l) (waveSync u)).wave = { u.wave with output := 0 } := by
        rw [← htarget]
        exact waveSync_wave u
      refine ⟨_, congrArg Host.Outcome.next hfound, congrArg Far.scan hfar, congrArg Far.link hfar, congrArg Far.reports hfar,
        ?_, ?_, ?_, ?_, ?_⟩
      · rw [hwave, hu]; rfl
      · rw [hwave]
      · rw [hwave, hu]; rfl
      · refine (congrArg Quiet.modes (waveSync_quiet u)).trans ?_
        rw [hu]; rfl
      · exact congrArg (fun x : Store => { x with op := some (.writeCal n l) }) (congrArg Far.store hfar)
    · rintro rfl rfl hst
      refine dwellEnds_fails hm hd ((dwellEnds_up_wet hp).trans ?_)
      unfold candidateFound
      split
      next h _ => exact absurd h hst
      next => rfl

end Sys2Proof.Machine

end

section
/-! PROOFS. The owners of the channels (R161): what a delivery leaves of the burst frame, of the pot over mark and of the Alarm
Table. -/

namespace Sys2Proof.Machine

/-! ### The burst frame and the pot over mark -/

/-- The slot of the burst frame, and the pot over mark. -/
def State.hearth (s : State) : Nat × Bool := (s.heat.frameSlot, s.heat.pot.overMark)

section
variable {s t : State}

theorem hearth_of_ground (h : t.ground = s.ground) : t.hearth = s.hearth :=
  Prod.ext (frameSlot_of_ground h) (potOver_of_ground h)

variable (s)

theorem judgeSensor_hearth : (judgeSensor s).hearth = s.hearth := by
  unfold judgeSensor
  dsimp only
  split
  · rfl
  · exact (hearth_of_ground (judge_ground _ _ _)).trans rfl

theorem judgeOver_hearth (k : ZoneId) (v : Int) : (judgeOver k v s).hearth = s.hearth := by
  unfold judgeOver
  split
  · split
    · exact (hearth_of_ground (judge_ground _ _ _)).trans rfl
    · rfl
  · rfl

theorem warmSweep_hearth : (warmSweep s).hearth = s.hearth := hearth_of_ground (warmSweep_ground s)

theorem deliverZone_hearth (k : ZoneId) : (deliverZone k s).hearth = s.hearth := by
  have hupdate : ∀ v, (if s.zoneActive k then updateZoneLoop k v s else s).hearth = s.hearth := fun v => by split <;> rfl
  have hcut : (if s.zoneActive k then cutZoneLoop k s else s).hearth = s.hearth := by split <;> rfl
  unfold deliverZone
  dsimp only
  split
  · rw [warmSweep_hearth, judgeSensor_hearth, judgeOver_hearth]
    exact hupdate _
  · rfl
  · rw [warmSweep_hearth, judgeSensor_hearth]
    exact hcut
  · rw [warmSweep_hearth, hcut]

theorem judgeLevel_hearth (v : Int) : (judgeLevel v s).hearth = s.hearth := by
  unfold judgeLevel
  split
  · rfl
  · split
    · split <;> rfl
    · split
      · exact hearth_of_ground (raise_ground _ _)
      · rfl

theorem feedUpdate_heat (v : Int) : (feedUpdate v s).heat = s.heat := by
  unfold feedUpdate feedTest
  repeat' split
  all_goals rfl

theorem feedUpdate_alarms (v : Int) : (feedUpdate v s).alarms = s.alarms := by
  unfold feedUpdate feedTest
  repeat' split
  all_goals rfl

theorem waveAtLevel_ground (v : Int) : (waveAtLevel v s).ground = s.ground := by
  unfold waveAtLevel
  split
  · exact computeDrive_ground _ _
  · rfl

theorem deliverLevel_hearth : (deliverLevel s).hearth = s.hearth := by
  unfold deliverLevel
  dsimp only
  split
  · split
    · rw [State.hearth, feedUpdate_heat]
      exact (judgeLevel_hearth _ _).trans ((hearth_of_ground (waveAtLevel_ground _ _)).trans rfl)
    · rfl
  · rfl
  · rfl

theorem watchFilter_heat (v : Int) : (watchFilter v s).heat = s.heat := by
  unfold watchFilter
  repeat' split
  all_goals rfl

theorem deliverFilter_heat : (deliverFilter s).heat = s.heat := by
  unfold deliverFilter
  split
  · exact watchFilter_heat _ _
  · rfl

theorem deliverSupply_hearth : (deliverSupply s).hearth = s.hearth := by
  unfold deliverSupply
  split
  · split
    · rfl
    · exact (hearth_of_ground (raise_ground _ _)).trans rfl
  · rfl

theorem deliverFluxPressure_heat : (deliverFluxPressure s).heat = s.heat := by
  unfold deliverFluxPressure
  split
  · split <;> rfl
  · rfl

/-- No owner but the pot's changes the over mark, and none the burst frame. -/
theorem deliver_hearth {ch : Nat} (h : ch ≠ 6) : (deliver ch s).hearth = s.hearth := by
  unfold deliver
  split
  · exact deliverZone_hearth s _
  · split
    · exact absurd rfl h
    · exact deliverLevel_hearth s
    · rfl
    · exact congrArg (fun x : Heaters => (x.frameSlot, x.pot.overMark)) (deliverFilter_heat s)
    · exact deliverSupply_hearth s
    · exact congrArg (fun x : Heaters => (x.frameSlot, x.pot.overMark)) (deliverFluxPressure_heat s)
    · rfl

theorem deliverPotLoop_frameSlot (x : Slot) : (deliverPotLoop x s).heat.frameSlot = s.heat.frameSlot := by
  unfold deliverPotLoop
  split
  · rw [setPotOver_eq, frameSlot_of_ground (judge_ground _ _ _)]
    split <;> rfl
  · rfl
  · split <;> rfl
  · split <;> rfl

theorem deliver_pot_frameSlot : (deliver 6 s).heat.frameSlot = s.heat.frameSlot := by
  obtain ⟨b, hb⟩ := deliverMelt_ground (s.slot 6) (judgeFume (fumeHotBy s.fumeOff (s.slot 6)) (deliverPotLoop (s.slot 6) s))
  have hframe := congrArg Ground.frame ((warmSweep_ground _).trans hb)
  rw [judgeFume_ground] at hframe
  rw [deliver_pot]
  exact (congrArg Prod.fst hframe).trans (deliverPotLoop_frameSlot s _)

theorem deliver_frameSlot (ch : Nat) : (deliver ch s).heat.frameSlot = s.heat.frameSlot := by
  by_cases h : ch = 6
  · rw [h]
    exact deliver_pot_frameSlot s
  · exact congrArg Prod.fst (deliver_hearth s h)

variable {s}

/-- With no configuration record no result sets the pot over mark (R106). -/
theorem deliver_pot_unmarked (hc : s.configured = false) (ho : s.heat.pot.overMark = false) :
    (deliver 6 s).heat.pot.overMark = false := by
  have hloop : (deliverPotLoop (s.slot 6) s).heat.pot.overMark = false := by
    unfold deliverPotLoop
    split
    · rw [setPotOver_overMark, hc]
      rfl
    · exact ho
    · split <;> exact ho
    · split <;> exact ho
  exact (congrArg PotLoop.overMark (deliver_pot_kept s).2 :).trans hloop

theorem deliver_unmarked (ch : Nat) (hc : s.configured = false) (ho : s.heat.pot.overMark = false) :
    (deliver ch s).heat.pot.overMark = false := by
  by_cases h : ch = 6
  · rw [h]
    exact deliver_pot_unmarked hc ho
  · exact (congrArg Prod.snd (deliver_hearth s h)).trans ho

end

theorem deliverAll_frameSlot (chs : List Nat) (s : State) : (deliverAll chs s).heat.frameSlot = s.heat.frameSlot := by
  induction chs generalizing s with
  | nil => rfl
  | cons ch rest ih => exact (ih _).trans (deliver_frameSlot s ch)

theorem deliverAll_unmarked (chs : List Nat) {s : State} (hc : s.configured = false) (ho : s.heat.pot.overMark = false) :
    (deliverAll chs s).heat.pot.overMark = false := by
  induction chs generalizing s with
  | nil => exact ho
  | cons ch rest ih => exact ih ((configured_of_far (deliver_far ch s)).trans hc) (deliver_unmarked ch hc ho)

/-! ### The Alarm Table -/

/-- The entries that a delivery can change of its own. -/
def deliverKinds : List AlarmKind := [.zoneSensor, .potOvertemp, .levelLow, .filterClog]

section
variable {j : AlarmKind} (h : j ∉ modeKinds) (hd : j ∉ deliverKinds) (s : State)
include h hd

theorem judgeSensor_alarm : (judgeSensor s).alarm j = s.alarm j := by
  have hj : j ≠ .zoneSensor := fun hj => hd (by rw [hj]; decide)
  unfold judgeSensor
  dsimp only
  split
  · rfl
  · exact (judge_alarm_other h _ hj _).trans rfl

omit hd in
theorem judgeOver_alarm (k : ZoneId) (v : Int) : (judgeOver k v s).alarm j = s.alarm j := by
  have hj : j ≠ .zoneOvertemp := fun hj => h (by rw [hj]; decide)
  unfold judgeOver
  split
  · split
    · exact (judge_alarm_other h _ hj _).trans rfl
    · rfl
  · rfl

omit hd in
theorem warmSweep_alarm : (warmSweep s).alarm j = s.alarm j := warmSweep_alarm_other s (not_zoneWarmFail_of_far h)

theorem deliverZone_alarm (k : ZoneId) : (deliverZone k s).alarm j = s.alarm j := by
  have hupdate : ∀ v, (if s.zoneActive k then updateZoneLoop k v s else s).alarm j = s.alarm j := fun v => by split <;> rfl
  have hcut : (if s.zoneActive k then cutZoneLoop k s else s).alarm j = s.alarm j := by split <;> rfl
  unfold deliverZone
  dsimp only
  split
  · rw [warmSweep_alarm h, judgeSensor_alarm h hd, judgeOver_alarm h]
    exact hupdate _
  · rfl
  · rw [warmSweep_alarm h, judgeSensor_alarm h hd]
    exact hcut
  · rw [warmSweep_alarm h, hcut]

theorem deliverPotLoop_alarm (x : Slot) : (deliverPotLoop x s).alarm j = s.alarm j := by
  have hj : j ≠ .potOvertemp := fun hj => hd (by rw [hj]; decide)
  unfold deliverPotLoop
  split
  · rw [setPotOver_eq, judge_alarm_other h _ hj _]
    split <;> rfl
  · rfl
  · split <;> rfl
  · split <;> rfl

theorem deliver_pot_alarm : (deliver 6 s).alarm j = s.alarm j := by
  rw [deliver_pot, warmSweep_alarm h, deliverMelt_alarm h, judgeFume_alarm _ (not_extract_of_far h), deliverPotLoop_alarm h hd]

theorem judgeLevel_alarm (v : Int) : (judgeLevel v s).alarm j = s.alarm j := by
  have hj : j ≠ .levelLow := fun hj => hd (by rw [hj]; decide)
  unfold judgeLevel
  split
  · rfl
  · split
    · split
      · exact conditionEnds_alarm_other _ hj
      · rfl
    · split
      · exact raise_alarm_other h _ hj
      · rfl

theorem deliverLevel_alarm : (deliverLevel s).alarm j = s.alarm j := by
  have hj : j ≠ .waveLimit := fun hj => h (by rw [hj]; decide)
  have hwave : ∀ v u, (waveAtLevel v u).alarm j = u.alarm j := fun v u => by
    unfold waveAtLevel
    split
    · exact computeDrive_alarm _ hj _
    · rfl
  unfold deliverLevel
  dsimp only
  split
  · split
    · rw [alarm_of_alarms (feedUpdate_alarms _ _), judgeLevel_alarm h hd, hwave]
      rfl
    · rfl
  · rfl
  · rfl

omit h in
theorem deliverFilter_alarm : (deliverFilter s).alarm j = s.alarm j := by
  have hj : j ≠ .filterClog := fun hj => hd (by rw [hj]; decide)
  unfold deliverFilter
  split
  · unfold watchFilter
    split
    · split
      · split <;> rfl
      · exact (conditionEnds_alarm_other _ hj).trans rfl
    · rfl
  · rfl

omit hd in
theorem deliverSupply_alarm : (deliverSupply s).alarm j = s.alarm j := by
  have hj : j ≠ .supplyLow := fun hj => h (by rw [hj]; decide)
  unfold deliverSupply
  split
  · split
    · rfl
    · exact (raise_alarm_other h _ hj).trans rfl
  · exact conditionEnds_alarm_other _ hj

omit hd in
theorem deliverFluxPressure_alarm : (deliverFluxPressure s).alarm j = s.alarm j := by
  have hj : j ≠ .fluxPressLow := fun hj => h (by rw [hj]; decide)
  unfold deliverFluxPressure
  split
  · split
    · exact conditionEnds_alarm_other _ hj
    · rfl
  · rfl

theorem deliver_alarm (ch : Nat) : (deliver ch s).alarm j = s.alarm j := by
  unfold deliver
  split
  · exact deliverZone_alarm h hd s _
  · split
    · exact deliver_pot_alarm h hd s
    · exact deliverLevel_alarm h hd s
    · rfl
    · exact deliverFilter_alarm hd s
    · exact deliverSupply_alarm h s
    · exact deliverFluxPressure_alarm h s
    · rfl

theorem deliverAll_alarm (chs : List Nat) : (deliverAll chs s).alarm j = s.alarm j := by
  induction chs generalizing s with
  | nil => rfl
  | cons ch rest ih => exact (ih _).trans (deliver_alarm h hd s ch)

end

end Sys2Proof.Machine

end

section
/-! PROOFS. The completion of a store operation (R140, R177, R180, R183). -/

namespace Sys2Proof.Machine

/-! ### The items of an image (R177, R183) -/

section
variable {m : StoreImage} {n : Nat}

theorem setRecipe_items (x : Stored Recipe) (h : n < m.recipes.length) : (m.setRecipe n x).recipe n = x
    ∧ (∀ k, some k ≠ some n → (m.setRecipe n x).recipe k = m.recipe k) := by
  refine ⟨by simp [StoreImage.recipe, StoreImage.setRecipe, List.getD, h], fun k hk => ?_⟩
  have hk' : n ≠ k := fun hn => hk (by rw [hn])
  simp [StoreImage.recipe, StoreImage.setRecipe, List.getD, hk']

theorem setSet_items (x : Stored ThermalSet) (h : n < m.sets.length) : (m.setSet n x).set n = x
    ∧ (∀ k, some k ≠ some n → (m.setSet n x).set k = m.set k) := by
  refine ⟨by simp [StoreImage.set, StoreImage.setSet, List.getD, h], fun k hk => ?_⟩
  have hk' : n ≠ k := fun hn => hk (by rw [hn])
  simp [StoreImage.set, StoreImage.setSet, List.getD, hk']

/-- An image of which one recipe slot is replaced. -/
theorem recipe_replaced {m' : StoreImage} {x : Stored Recipe} (he : m' = m.setRecipe n x) (h : n < m.recipes.length) :
    m'.recipe n = x ∧ (∀ k, some k ≠ some n → m'.recipe k = m.recipe k) ∧ (∀ k, some k ≠ none → m'.set k = m.set k)
      ∧ m'.config = m.config ∧ m'.cal = m.cal := by
  subst he
  obtain ⟨hsame, hother⟩ := setRecipe_items x h
  exact ⟨hsame, hother, fun _ _ => rfl, rfl, rfl⟩

/-- An image of which one thermal set is replaced. -/
theorem set_replaced {m' : StoreImage} {x : Stored ThermalSet} (he : m' = m.setSet n x) (h : n < m.sets.length) :
    m'.set n = x ∧ (∀ k, some k ≠ none → m'.recipe k = m.recipe k) ∧ (∀ k, some k ≠ some n → m'.set k = m.set k)
      ∧ m'.config = m.config ∧ m'.cal = m.cal := by
  subst he
  obtain ⟨hsame, hother⟩ := setSet_items x h
  exact ⟨hsame, fun _ _ => rfl, hother, rfl, rfl⟩

variable (ok : Bool)

theorem finish_writeRecipe (r : Recipe) :
    m.finish (.writeRecipe n r) ok = m.setRecipe n (if ok then (m.recipe n).write r else .corrupted) := by cases ok <;> rfl

theorem finish_writeSet (x : ThermalSet) :
    m.finish (.writeSet n x) ok = m.setSet n (if ok then (m.set n).write x else .corrupted) := by cases ok <;> rfl

theorem finish_eraseRecipe : m.finish (.eraseRecipe n) ok = m.setRecipe n (if ok then .blank else .corrupted) := by
  cases ok <;> rfl

theorem finish_lockRecipe (b : Bool) :
    m.finish (.setLock (.recipe n) b) ok = m.setRecipe n (if ok then { m.recipe n with lock := b } else .corrupted) := by
  cases ok <;> rfl

theorem finish_lockSet (b : Bool) :
    m.finish (.setLock (.thermal n) b) ok = m.setSet n (if ok then { m.set n with lock := b } else .corrupted) := by
  cases ok <;> rfl

theorem finish_writeConfig (c : ConfigRecord) :
    m.finish (.writeConfig c) ok = { m with config := if ok then .valid c else .corrupt } := by cases ok <;> rfl

theorem finish_writeCal (d : Nat) (l : Int) :
    m.finish (.writeCal d l) ok = { m with cal := if ok then .valid (d, l) else .corrupt } := by cases ok <;> rfl

end

/-! ### The blocks take a changed configuration record (R97, R103, R104, R106) -/

section
variable (s : State)

@[simp] theorem markSlots_heat (chs : List Nat) : (markSlots chs s).heat = s.heat := by rw [markSlots_eq]

@[simp] theorem markSlots_alarms (chs : List Nat) : (markSlots chs s).alarms = s.alarms := by rw [markSlots_eq]

theorem markSlots_store (chs : List Nat) : (markSlots chs s).store = s.store := by rw [markSlots_eq]

/-- The blocks of the loops as they take a record, before the scanner does. -/
def loopsReconfigured (s : State) : State :=
  let a := startFrame s
  let b := judge .zoneMissing a.anyMissing a
  let c := judgeSensor (b.setHeat { b.heat with sensorWaits := false })
  if c.configured then c else configLost c

theorem configChanged_eq : configChanged s = scanReconfigured (loopsReconfigured s) := rfl

theorem configLost_frameSlot : (configLost s).heat.frameSlot = s.heat.frameSlot := by
  rw [configLost, clearPotOver, setPotOver_eq, frameSlot_of_ground (judge_ground _ _ _)]
  rfl

theorem loopsReconfigured_frameSlot : (loopsReconfigured s).heat.frameSlot = 0 := by
  obtain ⟨a, ha⟩ : ∃ a, a = startFrame s := ⟨_, rfl⟩
  obtain ⟨b, hb⟩ : ∃ b, b = judge .zoneMissing a.anyMissing a := ⟨_, rfl⟩
  obtain ⟨c, hc⟩ : ∃ c, c = judgeSensor (b.setHeat { b.heat with sensorWaits := false }) := ⟨_, rfl⟩
  have ha0 : a.heat.frameSlot = 0 := by
    rw [ha]
    unfold startFrame shareGrants
    split <;> rfl
  have hb0 : b.heat.frameSlot = 0 := by rw [hb, frameSlot_of_ground (judge_ground _ _ _), ha0]
  have hc0 : c.heat.frameSlot = 0 := by
    rw [hc]
    exact (congrArg Prod.fst (judgeSensor_hearth _)).trans hb0
  have hloops : loopsReconfigured s = if c.configured then c else configLost c := by rw [hc, hb, ha]; rfl
  rw [hloops]
  split
  · exact hc0
  · rw [configLost_frameSlot, hc0]

theorem loopsReconfigured_far : (loopsReconfigured s).far = s.far := by
  have hlost : ∀ c : State, (configLost c).far = c.far := fun c => by
    rw [configLost, clearPotOver, setPotOver_eq, far_of_ground (judge_ground _ _ _)]
    rfl
  unfold loopsReconfigured
  dsimp only
  split
  · rw [judgeSensor_far]
    exact (judge_far _ _ _).trans (startFrame_far s)
  · rw [hlost, judgeSensor_far]
    exact (judge_far _ _ _).trans (startFrame_far s)

theorem loopsReconfigured_unmarked (h : s.configured = false) : (loopsReconfigured s).heat.pot.overMark = false := by
  unfold loopsReconfigured
  dsimp only
  rw [if_neg]
  · exact setPotOver_overMark _ _
  · rw [configured_of_far (judgeSensor_far _)]
    rw [show (State.setHeat _ _).configured = s.configured from
      configured_of_far (s := s) ((setHeat_far _ _).trans ((judge_far _ _ _).trans (startFrame_far s))), h]
    decide

theorem startFrame_alarms : (startFrame s).alarms = s.alarms := by
  unfold startFrame shareGrants
  split <;> rfl

theorem loopsReconfigured_alarm {j : AlarmKind} (h : j ∉ modeKinds) (hd : j ∉ deliverKinds) (hj : j ≠ .zoneMissing) :
    (loopsReconfigured s).alarm j = s.alarm j := by
  have hpot : j ≠ .potOvertemp := fun hp => hd (by rw [hp]; decide)
  have hlost : ∀ c : State, (configLost c).alarm j = c.alarm j := fun c => by
    rw [configLost, clearPotOver, setPotOver_eq, judge_alarm_other h _ hpot]
    rfl
  unfold loopsReconfigured
  dsimp only
  split
  · rw [judgeSensor_alarm h hd]
    exact (judge_alarm_other h _ hj _).trans (alarm_of_alarms (startFrame_alarms s))
  · rw [hlost, judgeSensor_alarm h hd]
    exact (judge_alarm_other h _ hj _).trans (alarm_of_alarms (startFrame_alarms s))

/-- The scanner takes a changed record: it marks slots, and tells their owners. -/
theorem scanReconfigured_eq : ∃ chs x, scanReconfigured s = deliverAll chs (markSlots chs (s.setScan x)) := by
  unfold scanReconfigured
  dsimp only
  split
  · exact ⟨_, _, rfl⟩
  · exact ⟨_, _, rfl⟩

theorem configChanged_frameSlot : (configChanged s).heat.frameSlot = 0 := by
  obtain ⟨chs, x, h⟩ := scanReconfigured_eq (loopsReconfigured s)
  rw [configChanged_eq, h, deliverAll_frameSlot, markSlots_heat]
  exact loopsReconfigured_frameSlot s

theorem configChanged_unmarked (hc : s.configured = false) : (configChanged s).heat.pot.overMark = false := by
  obtain ⟨chs, x, h⟩ := scanReconfigured_eq (loopsReconfigured s)
  rw [configChanged_eq, h]
  refine deliverAll_unmarked chs ?_ ?_
  · have hstore : (markSlots chs ((loopsReconfigured s).setScan x)).store = s.store :=
      (markSlots_store _ _).trans (congrArg Far.store (loopsReconfigured_far s))
    rw [← hc]
    unfold State.configured State.config?
    rw [hstore]
  · rw [markSlots_heat]
    exact loopsReconfigured_unmarked s hc

theorem configChanged_still : (configChanged s).still = s.still := by
  rw [configChanged_eq, scanReconfigured_still]
  exact still_of_far (loopsReconfigured_far s)

theorem configChanged_alarm {j : AlarmKind} (h : j ∉ modeKinds) (hd : j ∉ deliverKinds) (hj : j ≠ .zoneMissing) :
    (configChanged s).alarm j = s.alarm j := by
  obtain ⟨chs, x, he⟩ := scanReconfigured_eq (loopsReconfigured s)
  rw [configChanged_eq, he, deliverAll_alarm h hd, alarm_of_alarms (markSlots_alarms _ _)]
  exact loopsReconfigured_alarm s h hd hj

/-! ### What the search keeps at a mode entry (R141) -/

/-- The phase and the outcome of a calibration. -/
def Wave.course (w : Wave) : CalPhase × CalOutcome := (w.phase, w.outcome)

theorem waveAtMode_course (old new : Mode) : (waveAtMode old new s).wave.course = s.wave.course := by
  have hcompute : ∀ level, (computeDrive level s).wave.course = s.wave.course := fun level => by
    unfold computeDrive
    dsimp only
    rw [waveSync_wave, judgeSide_wave]
    rfl
  unfold waveAtMode
  split
  · exact hcompute _
  · split
    · rw [judgeSide_wave, waveSync_wave]
      rfl
    · rw [waveSync_wave]
      rfl

theorem setMode_course {new : Mode} (h : new ≠ .safe) : (setMode new s).wave.course = s.wave.course := by
  rw [setMode_wave, waveAtMode_course, waveMode, if_neg h, sprayAtMode_wave, modeJudged_wave]

theorem drainCompletes_course : (drainCompletes s).wave.course = s.wave.course := by
  unfold drainCompletes
  split
  · refine setMode_course s ?_
    cases s.modes.drain <;> decide
  · rfl

theorem toDrain_course (t : DrainTarget) : (toDrain t s).wave.course = s.wave.course := setMode_course (s.setModes _) (by decide)

theorem forceStandby_course : (forceStandby s).wave.course = s.wave.course := by
  unfold forceStandby
  split
  · exact setMode_course s (by decide)
  · rw [drainCompletes_course, toDrain_course]
  · split <;> rfl
  · rw [drainCompletes_course, toDrain_course]
  all_goals rfl

theorem enterReady_course : (enterReady s).wave.course = s.wave.course := by
  unfold enterReady forcedTest
  split
  · exact (forceStandby_course _).trans (setMode_course s (by decide))
  · exact setMode_course s (by decide)

end

/-! ### The calibration write (R140) -/

section
variable (d : Nat) (l : Int) (ok : Bool) (s : State)

/-- The Pot Controller's copy after the write. -/
def calTaken (d : Nat) (l : Int) (ok : Bool) (s : State) : State :=
  s.setWave { s.wave with
    cal := { pair := some (d, l), valid := ok }, phase := .none, outcome := if ok then .ok else .storeFault }

theorem calWritten_eq : calWritten d l ok s
    = if s.modes.mode = .calibrating then enterReady (calTaken d l ok s) else calTaken d l ok s := rfl

theorem calWritten_ground : (calWritten d l ok s).ground = (calTaken d l ok s).ground := by
  rw [calWritten_eq]
  split
  · exact enterReady_ground _
  · rfl

theorem calWritten_course : (calWritten d l ok s).wave.course = (.none, if ok then .ok else .storeFault) := by
  rw [calWritten_eq]
  split
  · exact enterReady_course _
  · rfl

theorem calWritten_far : (calWritten d l ok s).far = s.far := (far_of_ground (calWritten_ground d l ok s)).trans rfl

theorem calWritten_alarm {j : AlarmKind} (h : j ∉ modeKinds) : (calWritten d l ok s).alarm j = s.alarm j := by
  rw [calWritten_eq]
  split
  · exact enterReady_alarm h _
  · rfl

end

/-! ### The completion (R183) -/

section
variable (op : StoreOp) (ok : Bool) (s : State)

/-- The images as the operation leaves them, with STORE_FAULT where the verify failed. -/
def opFinished (op : StoreOp) (ok : Bool) (s : State) : State :=
  let a := { s with
    store := { s.store with work := s.store.work.finish op ok, array := s.store.array.finish op ok, op := none }
    freeIndex := s.freeIndex + 1 }
  if ok then a else eventOccurs .storeFault a

/-- The store as the operation leaves it. -/
def Store.finished (op : StoreOp) (ok : Bool) (x : Store) : Store :=
  { x with work := x.work.finish op ok, array := x.array.finish op ok, op := none }

theorem completeOp_eq : completeOp op ok s = warmSweep (settleLoops (handCompletion op ok (compositionTest (opFinished op ok s)))) := by
  cases ok <;> rfl

theorem opFinished_still : (opFinished op ok s).still
    = { s.still with store := s.store.finished op ok, freeIndex := s.freeIndex + 1 } := by cases ok <;> rfl

theorem handCompletion_still (t : State) : (handCompletion op ok t).still = t.still := by
  cases op with
  | writeConfig c => exact configChanged_still t
  | writeCal d l => exact still_of_far (calWritten_far d l ok t)
  | writeRecipe | writeSet | eraseRecipe | setLock => rfl

theorem handCompletion_alarm (t : State) : (handCompletion op ok t).alarm .storeFault = t.alarm .storeFault := by
  cases op with
  | writeConfig c => exact configChanged_alarm t (by decide) (by decide) (by decide)
  | writeCal d l => exact calWritten_alarm d l ok t (by decide)
  | writeRecipe | writeSet | eraseRecipe | setLock => rfl

/-- The completion but its reply. -/
def opCompleted (op : StoreOp) (ok : Bool) (s : State) : State := admissionTest (completeOp op ok s)

theorem opCompleted_still : (opCompleted op ok s).still
    = { s.still with store := s.store.finished op ok, freeIndex := s.freeIndex + 1 } := by
  rw [opCompleted, still_of_far (admissionTest_far _), completeOp_eq, still_of_far (warmSweep_far _),
    still_of_far (settleLoops_far _), handCompletion_still, still_of_far (compositionTest_far _), opFinished_still]

theorem opCompleted_alarm : (opCompleted op ok s).alarm .storeFault = if ok then s.alarm .storeFault
    else { state := .latched, count := min 255 ((s.alarm .storeFault).count + 1), time := some (s.seconds, .current) } := by
  obtain ⟨m, hm⟩ := compositionTest_eq (opFinished op ok s)
  have hcomposed : (compositionTest (opFinished op ok s)).alarm .storeFault = (opFinished op ok s).alarm .storeFault := by
    rw [hm]
    rfl
  rw [opCompleted, admissionTest_alarm, completeOp_eq, warmSweep_alarm_other _ (by decide)]
  refine (handCompletion_alarm op ok _).trans (hcomposed.trans ?_)
  cases ok with
  | true => rfl
  | false => exact occurrence_alarm_same _ _

/-- What the end of a completion leaves of the parts that the blocks have taken. -/
theorem opCompleted_ground : (opCompleted op ok s).heat.frameSlot
      = (handCompletion op ok (compositionTest (opFinished op ok s))).heat.frameSlot
    ∧ (opCompleted op ok s).heat.pot.overMark
      = (handCompletion op ok (compositionTest (opFinished op ok s))).heat.pot.overMark
    ∧ (opCompleted op ok s).wave = (handCompletion op ok (compositionTest (opFinished op ok s))).wave := by
  obtain ⟨c, hc⟩ : ∃ c, c = handCompletion op ok (compositionTest (opFinished op ok s)) := ⟨_, rfl⟩
  have hswept : (completeOp op ok s).calm = c.calm := by
    rw [completeOp_eq, ← hc, warmSweep_calm, settleLoops_calm]
  have hground := ground_of_calm hswept
  rw [opCompleted, admissionTest_heat, admissionTest_wave, ← hc]
  exact ⟨frameSlot_of_ground hground, potOver_of_ground hground, wave_of_calm hswept⟩

theorem opCompleted_modes_of_quiet (h : (handCompletion op ok (compositionTest (opFinished op ok s))).modes = s.modes)
    (hm : s.modes.mode ≠ .warmup) : (opCompleted op ok s).modes = s.modes := by
  obtain ⟨c, hc⟩ : ∃ c, c = handCompletion op ok (compositionTest (opFinished op ok s)) := ⟨_, rfl⟩
  rw [← hc] at h
  have hsettled : (settleLoops c).modes = s.modes := h
  rw [opCompleted, admissionTest_modes, completeOp_eq, ← hc, warmSweep_of_not_warmup (by rw [hsettled]; exact hm), hsettled]

theorem opFinished_modes : (compositionTest (opFinished op ok s)).modes = s.modes :=
  (congrArg Quiet.modes (compositionTest_quiet _)).trans (by cases ok <;> rfl)

theorem opFinished_extr : (compositionTest (opFinished op ok s)).extr = s.extr := by
  obtain ⟨m, hm⟩ := compositionTest_eq (opFinished op ok s)
  rw [hm]
  cases ok <;> rfl

end

theorem storeCompletes_idle {ok : Bool} {s : State} (h : s.store.op = none) : storeCompletes ok s = s := by
  unfold storeCompletes
  rw [h]

/-- The completion with its reply: the reply is all that the line takes of it. -/
theorem storeCompletes_eq {op : StoreOp} {ok : Bool} {s : State} (h : s.store.op = some op) :
    ∃ x, storeCompletes ok s = (opCompleted op ok s).setLink x ∧ (op.isCalibration = true → x = s.link)
      ∧ (op.isCalibration = false → ∀ kind tag, s.link.owed = some (kind, tag) → x = { s.link with
        receiver := .hunt
        tx := .sending (frameBytes (kind + 0x80#8) tag (completionPayload op ok (opCompleted op ok s))) }) := by
  have hlink : (opCompleted op ok s).link = s.link := congrArg Still.link (opCompleted_still op ok s)
  have hcompletes : storeCompletes ok s = if op.isCalibration then opCompleted op ok s
      else answer (completionPayload op ok (opCompleted op ok s)) (opCompleted op ok s) := by
    unfold storeCompletes
    rw [h]
    rfl
  rw [hcompletes]
  cases hcal : op.isCalibration with
  | true => exact ⟨s.link, by rw [← hlink]; rfl, fun _ => rfl, nofun⟩
  | false =>
    cases ho : s.link.owed with
    | none =>
      refine ⟨s.link, ?_, nofun, nofun⟩
      unfold answer
      rw [hlink, ho, ← hlink]
      rfl
    | some r =>
      refine ⟨_, answer_of_owed (kind := r.1) (tag := r.2) _ (by rw [hlink, ho]), nofun, fun _ kind tag he => ?_⟩
      cases he
      rw [hlink]
      rfl

/-- Settles O59: the images by the operation, the blocks that take the configuration and the calibration record, STORE_FAULT and
the reply. -/
theorem storeOperationCompletes : Obligations.StoreOperationCompletes := by
  intro ok s
  refine ⟨fun h => congrArg Host.Outcome.next (storeCompletes_idle h), fun op hop => ?_⟩
  obtain ⟨x, heq, hcalLink, hreply⟩ := storeCompletes_eq (ok := ok) hop
  have hstill := opCompleted_still op ok s
  have hstore : (opCompleted op ok s).store = s.store.finished op ok := congrArg Still.store hstill
  have halarm := opCompleted_alarm op ok s
  obtain ⟨hframe, hover, hwave⟩ := opCompleted_ground op ok s
  have hmodes := fun h hm => opCompleted_modes_of_quiet op ok s h hm
  have hmode : (opCompleted op ok s).modes.mode
      = (handCompletion op ok (compositionTest (opFinished op ok s))).modes.mode := by
    rw [opCompleted, admissionTest_modes, completeOp_eq]
    exact mode_of_calm ((warmSweep_calm _).trans (settleLoops_calm _))
  obtain ⟨t, ht⟩ : ∃ t, t = opCompleted op ok s := ⟨_, rfl⟩
  rw [← ht] at heq hstill hstore halarm hframe hover hwave hmodes hmode hreply
  refine ⟨t.setLink x, congrArg Host.Outcome.next heq, ?_, ?_, ?_, congrArg Still.uptime hstill, ?items, ?cal,
    ?array, fun hok => ?fault, fun hok => ?kept, fun kind tag hno howed => ?reply⟩
  · exact (congrArg Store.op hstore :)
  · exact (congrArg Store.key hstore :)
  · exact (congrArg Store.checking hstore :)
  case items =>
    have hwork : (t.setLink x).store.work = s.store.work.finish op ok := (congrArg Store.work hstore :)
    intro sameRecipes sameSets sameConfig sameCal
    refine ⟨?_, ?_, ?_, ?_, ?_, ?_, ?_⟩
    · rintro n r rfl hn
      obtain ⟨hitem, hrecipes, hsets, hconfig, hcal⟩ := recipe_replaced (hwork.trans (finish_writeRecipe ok r)) hn
      exact ⟨by rw [hitem]; cases ok <;> rfl, by rw [hitem]; cases ok <;> rfl, hrecipes, hsets, hconfig, hcal⟩
    · rintro n y rfl hn
      obtain ⟨hitem, hrecipes, hsets, hconfig, hcal⟩ := set_replaced (hwork.trans (finish_writeSet ok y)) hn
      exact ⟨by rw [hitem]; cases ok <;> rfl, by rw [hitem]; cases ok <;> rfl, hrecipes, hsets, hconfig, hcal⟩
    · rintro c rfl
      rw [finish_writeConfig] at hwork
      refine ⟨by rw [hwork], hframe.trans (configChanged_frameSlot _), fun hok => hover.trans (configChanged_unmarked _ ?_),
        fun k _ => by rw [hwork]; rfl, fun k _ => by rw [hwork]; rfl, (congrArg StoreImage.cal hwork :)⟩
      have hcorrupt : (compositionTest (opFinished (.writeConfig c) ok s)).store.work.config = .corrupt := by
        have hkept := congrArg Still.store (still_of_far (compositionTest_far (opFinished (.writeConfig c) ok s)))
        rw [show (compositionTest (opFinished (.writeConfig c) ok s)).store = s.store.finished (.writeConfig c) ok from
          hkept.trans (congrArg Still.store (opFinished_still _ ok s)), hok]
        rfl
      unfold State.configured State.config?
      rw [hcorrupt]
      rfl
    · rintro n rfl hn
      obtain ⟨hitem, hrecipes, hsets, hconfig, hcal⟩ := recipe_replaced (hwork.trans (finish_eraseRecipe ok)) hn
      exact ⟨by rw [hitem]; cases ok <;> rfl, by rw [hitem]; cases ok <;> rfl, hrecipes, hsets, hconfig, hcal⟩
    · rintro n b rfl hn
      obtain ⟨hitem, hrecipes, hsets, hconfig, hcal⟩ := recipe_replaced (hwork.trans (finish_lockRecipe ok b)) hn
      exact ⟨by rw [hitem]; cases ok <;> rfl, by rw [hitem]; cases ok <;> rfl, hrecipes, hsets, hconfig, hcal⟩
    · rintro n b rfl hn
      obtain ⟨hitem, hrecipes, hsets, hconfig, hcal⟩ := set_replaced (hwork.trans (finish_lockSet ok b)) hn
      exact ⟨by rw [hitem]; cases ok <;> rfl, by rw [hitem]; cases ok <;> rfl, hrecipes, hsets, hconfig, hcal⟩
    · rintro d l rfl
      rw [finish_writeCal] at hwork
      exact ⟨fun k _ => by rw [hwork]; rfl, fun k _ => by rw [hwork]; rfl, (congrArg StoreImage.config hwork :)⟩
  case cal =>
    rintro d l rfl
    obtain ⟨y, hy⟩ : ∃ y, y = compositionTest (opFinished (.writeCal d l) ok s) := ⟨_, rfl⟩
    have hym : y.modes = s.modes := hy ▸ opFinished_modes _ ok s
    have hye : y.extr = s.extr := hy ▸ opFinished_extr _ ok s
    have hhand : handCompletion (.writeCal d l) ok (compositionTest (opFinished (.writeCal d l) ok s)) = calWritten d l ok y := by
      rw [hy]
      rfl
    rw [hhand] at hwave
    have hcourse := calWritten_course d l ok y
    refine ⟨?_, ?_, ?_, hcalLink rfl, ?_, fun hm hd => ?_, fun hm hw => ?_⟩
    · show t.wave.cal = _
      rw [hwave]
      exact (record_of_ground (calWritten_ground d l ok y)).trans rfl
    · show t.wave.phase = _
      rw [hwave]
      exact congrArg Prod.fst hcourse
    · show t.wave.outcome = _
      rw [hwave]
      exact congrArg Prod.snd hcourse
    · show t.store.work.cal = _
      rw [hstore]
      exact congrArg StoreImage.cal (finish_writeCal ok d l)
    · have hready : (calWritten d l ok y).modes.mode = .ready := by
        have hdue : (setMode .ready (calTaken d l ok y)).extr.forcedDue = false :=
          setMode_not_due _ (show y.extr.forcedDue = false by rw [hye]; exact hd)
        rw [calWritten_eq, if_pos (by rw [hym]; exact hm), enterReady, forcedTest_of_not_due _ hdue, setMode_modes]
        rfl
      exact hmode.trans (by rw [hhand, hready])
    · have hquiet : (calWritten d l ok y).modes = s.modes := by
        rw [calWritten_eq, if_neg (by rw [hym]; exact hm)]
        exact hym
      exact hmodes (by rw [hhand, hquiet]) hw
  case array =>
    intro he
    show t.store.array = t.store.work
    rw [hstore]
    exact congrArg (StoreImage.finish · op ok) he
  case fault =>
    rw [hok] at halarm
    exact halarm
  case kept =>
    rw [hok] at halarm
    exact halarm
  case reply =>
    refine hreply ?_ kind tag howed
    cases op with
    | writeCal d l => exact absurd rfl (hno d l)
    | writeConfig | writeRecipe | writeSet | eraseRecipe | setLock => rfl

end Sys2Proof.Machine

end

section
/-! PROOFS. The heater records at the operations of the Mode Controller: a demand or a grant is kept or falls to 0 (R93, R96, R98,
R107), and the over marks and the supply's condition are changed by an entry into IDLE, or out of it, alone (R3, R105, R107). -/

namespace Sys2Proof.Machine

/-! ### What leaves the heater records alone -/

section
variable (s : State)

theorem fanSync_heat : (fanSync s).heat = s.heat := congrArg Dry.heat (fanSync_dry s)

theorem sprayAtMode_heat (new : Mode) : (sprayAtMode new s).heat = s.heat := congrArg Dry.heat (sprayAtMode_dry s new)

theorem judgeSide_heat (side : WaveSide) : (judgeSide side s).heat = s.heat := by
  have hlimit : (if side = .none then conditionEnds .waveLimit (s.setWave { s.wave with side := side })
      else conditionAppears .waveLimit (s.setWave { s.wave with side := side })).heat = s.heat := by
    split
    · rfl
    · rw [conditionAppears_heat]
      rfl
  unfold judgeSide
  dsimp only
  split
  · exact hlimit
  · exact hlimit

theorem computeDrive_heat (level : Int) : (computeDrive level s).heat = s.heat := by
  unfold computeDrive
  dsimp only
  rw [waveSync_heat]
  exact judgeSide_heat s _

theorem waveAtMode_heat (old new : Mode) : (waveAtMode old new s).heat = s.heat := by
  unfold waveAtMode
  split
  · exact computeDrive_heat s _
  · split
    · rw [judgeSide_heat, waveSync_heat]
      rfl
    · exact waveSync_heat s

theorem failSearch_heat (c : CalCause) : (failSearch c s).heat = s.heat := by
  unfold failSearch eventOccurs
  rw [occurrence_heat, waveSync_heat]
  rfl

theorem searchAtSafe_heat : (searchAtSafe s).heat = s.heat := by
  unfold searchAtSafe
  split
  · exact failSearch_heat s _
  · rfl
  · rfl

theorem trackAtMode_heat (new : Mode) : (trackAtMode new s).heat = s.heat := by cases new <;> rfl

theorem conveyorSync_heat : (conveyorSync s).heat = s.heat := by
  unfold conveyorSync
  split
  · rfl
  · split <;> rfl

end

/-! ### Demands and grants fall to 0 or stay -/

/-- No demand and no grant that was 0 has risen. -/
structure Heaters.Eased (x y : Heaters) : Prop where
  zoneDemand : ∀ k, (x.zones.get k).demand = 0 → (y.zones.get k).demand = 0
  zoneGrant : ∀ k, (x.zones.get k).grant = 0 → (y.zones.get k).grant = 0
  potDemand : x.pot.demand = 0 → y.pot.demand = 0
  potGrant : x.pot.grant = 0 → y.pot.grant = 0

theorem Heaters.Eased.refl (x : Heaters) : x.Eased x := ⟨fun _ h => h, fun _ h => h, fun h => h, fun h => h⟩

theorem Heaters.Eased.trans {x y z : Heaters} (h : x.Eased y) (h' : y.Eased z) : x.Eased z :=
  ⟨fun k hk => h'.zoneDemand k (h.zoneDemand k hk), fun k hk => h'.zoneGrant k (h.zoneGrant k hk),
    fun hp => h'.potDemand (h.potDemand hp), fun hp => h'.potGrant (h.potGrant hp)⟩

theorem eased_of_heat {s t : State} (h : t.heat = s.heat) : s.heat.Eased t.heat := h ▸ Heaters.Eased.refl _

/-- A change of each zone record that only lowers demands and grants. -/
theorem mapZones_eased (x : Heaters) {f : ZoneId → Zone → Zone} (hd : ∀ k z, z.demand = 0 → (f k z).demand = 0)
    (hg : ∀ k z, z.grant = 0 → (f k z).grant = 0) : x.Eased { x with zones := x.zones.mapZones f } where
  zoneDemand := fun k h => by
    show ((x.zones.mapZones f).get k).demand = 0
    rw [six_get_mapZones]
    exact hd k _ h
  zoneGrant := fun k h => by
    show ((x.zones.mapZones f).get k).grant = 0
    rw [six_get_mapZones]
    exact hg k _ h
  potDemand := fun h => h
  potGrant := fun h => h

section
variable (s : State)

theorem settleLoops_eased : s.heat.Eased (settleLoops s).heat := by
  refine (mapZones_eased s.heat (f := fun k z => if s.zoneActive k then z else z.inactive)
    (fun k z h => ?_) (fun k z h => ?_)).trans ⟨fun _ h => h, fun _ h => h, fun h => ?_, fun h => ?_⟩
  · split
    · exact h
    · rfl
  · split
    · exact h
    · rfl
  · show (if s.potActive then s.heat.pot else s.heat.pot.inactive).demand = 0
    split
    · exact h
    · rfl
  · show (if s.potActive then s.heat.pot else s.heat.pot.inactive).grant = 0
    split
    · exact h
    · rfl

theorem afterLoops_eased : s.heat.Eased (afterLoops s).heat := by
  rw [afterLoops_heat]
  exact settleLoops_eased s

theorem zeroGrants_eased : s.heat.Eased (zeroGrants s).heat :=
  (mapZones_eased s.heat (f := fun _ (z : Zone) => { z with grant := 0 }) (fun _ _ h => h) (fun _ _ _ => rfl)).trans
    ⟨fun _ h => h, fun _ h => h, fun h => h, fun _ => rfl⟩

theorem supplyAtMode_eased (old new : Mode) : s.heat.Eased (supplyAtMode old new s).heat := by
  unfold supplyAtMode
  split
  · exact .refl _
  · unfold judgeSupply
    split
    · refine Heaters.Eased.trans ?_ (zeroGrants_eased _)
      rw [conditionAppears_heat]
      exact .refl _
    · exact .refl _

theorem marksAt_loop (new : Mode) (k : ZoneId) (z : Zone) :
    (s.marksAt new k z).demand = z.demand ∧ (s.marksAt new k z).grant = z.grant := by cases new <;> exact ⟨rfl, rfl⟩

theorem setMode_eased (new : Mode) : s.heat.Eased (setMode new s).heat := by
  have hmarks : s.heat.Eased (entryMarks new (modeSet new s)).heat := by
    rw [entryMarks_heat, modeSet_heat]
    exact mapZones_eased _ (fun k z h => (marksAt_loop _ new k z).1.trans h) (fun k z h => (marksAt_loop _ new k z).2.trans h)
  have hjudged : s.heat.Eased (modeJudged new s).heat := by
    rw [modeJudged, fanSync_heat]
    exact hmarks.trans (supplyAtMode_eased _ _ _)
  have hwave : (waveMode new s).heat = (modeJudged new s).heat := by
    unfold waveMode
    split
    · rw [searchAtSafe_heat, sprayAtMode_heat]
    · exact sprayAtMode_heat _ _
  have hset : setMode new s = afterLoops (conveyorSync (trackAtMode new (waveAtMode s.modes.mode new (waveMode new s)))) := rfl
  rw [hset]
  refine Heaters.Eased.trans ?_ (afterLoops_eased _)
  rw [conveyorSync_heat, trackAtMode_heat, waveAtMode_heat, hwave]
  exact hjudged

theorem toDrain_eased (t : DrainTarget) : s.heat.Eased (toDrain t s).heat :=
  setMode_eased (s.setModes { s.modes with drain := t }) .drain

theorem drainCompletes_eased : s.heat.Eased (drainCompletes s).heat := by
  unfold drainCompletes
  split
  · exact setMode_eased s _
  · exact .refl _

theorem forceStandby_eased : s.heat.Eased (forceStandby s).heat := by
  unfold forceStandby
  split
  · exact setMode_eased s _
  · exact (toDrain_eased s _).trans (drainCompletes_eased _)
  · split <;> exact .refl _
  · exact (toDrain_eased s _).trans (drainCompletes_eased _)
  all_goals exact .refl _

theorem forcedTest_eased : s.heat.Eased (forcedTest s).heat := by
  unfold forcedTest
  split
  · exact forceStandby_eased (s.setExtr { s.extr with forcedDue := false })
  · exact .refl _

theorem enterReady_eased : s.heat.Eased (enterReady s).heat := (setMode_eased s _).trans (forcedTest_eased _)

theorem enterDrain_eased (t : DrainTarget) : s.heat.Eased (enterDrain t s).heat :=
  (toDrain_eased s t).trans ((drainCompletes_eased _).trans (forcedTest_eased _))

theorem react_eased (sev : Severity) : s.heat.Eased (react sev s).heat := by
  unfold react
  split
  · exact .refl _
  · split
    · exact enterDrain_eased s _
    · exact .refl _
  · split
    · exact .refl _
    · exact setMode_eased s _

theorem raise_eased (k : AlarmKind) : s.heat.Eased (raise k s).heat := by
  unfold raise
  split
  · exact .refl _
  · refine Heaters.Eased.trans ?_ (react_eased _ _)
    rw [conditionAppears_heat]
    exact .refl _

theorem judge_eased (k : AlarmKind) (b : Bool) : s.heat.Eased (judge k b s).heat := by
  unfold judge
  split
  · exact raise_eased s k
  · exact .refl _

/-! ### The sweep of a warm-up -/

theorem updZone_eased (k : ZoneId) {f : Zone → Zone} (hd : ∀ z, z.demand = 0 → (f z).demand = 0)
    (hg : ∀ z, z.grant = 0 → (f z).grant = 0) : s.heat.Eased (s.updZone k f).heat where
  zoneDemand := fun j h => by
    by_cases hj : j = k
    · subst hj
      exact (congrArg Zone.demand (zone_updZone_same s j f) :).trans (hd _ h)
    · exact (congrArg Zone.demand (zone_updZone_other s f hj) :).trans h
  zoneGrant := fun j h => by
    by_cases hj : j = k
    · subst hj
      exact (congrArg Zone.grant (zone_updZone_same s j f) :).trans (hg _ h)
    · exact (congrArg Zone.grant (zone_updZone_other s f hj) :).trans h
  potDemand := fun h => h
  potGrant := fun h => h

theorem bandEntries_eased : s.heat.Eased (bandEntries s).heat := by
  have hmap : s.heat.Eased (s.mapZones (fun k z => if z.started && s.zoneInBand k then { z with warmFail := false } else z)).heat :=
    mapZones_eased _ (fun k z h => by split <;> exact h) (fun k z h => by split <;> exact h)
  unfold bandEntries
  dsimp only
  split
  · exact hmap
  · exact hmap

theorem advanceCursor_eased (ks : List ZoneId) (s : State) : s.heat.Eased (advanceCursor ks s).heat := by
  induction ks generalizing s with
  | nil => exact .refl _
  | cons k rest ih =>
    have hstart : s.heat.Eased ((startZone k s).updWarm (fun w => { w with cursor := some k })).heat :=
      updZone_eased s k (f := fun z => { z with started := true }) (fun _ h => h) (fun _ h => h)
    unfold advanceCursor
    dsimp only
    split
    · split
      · exact hstart.trans (ih _)
      · exact hstart
    · exact ih s

theorem moveCursor_eased : s.heat.Eased (moveCursor s).heat := by
  unfold moveCursor
  repeat' split
  · exact advanceCursor_eased _ _
  all_goals exact .refl _

theorem warmSweep_eased : s.heat.Eased (warmSweep s).heat := by
  unfold warmSweep
  split
  · refine Heaters.Eased.trans ?_ (afterLoops_eased _)
    rw [settleTest_heat]
    exact (bandEntries_eased s).trans (moveCursor_eased _)
  · exact .refl _

theorem enterMelt_eased : s.heat.Eased (enterMelt s).heat := by
  exact (afterLoops_eased ((s.updWarm _).setPot _) : )

theorem warmMoltenLost_eased : s.heat.Eased (warmMoltenLost s).heat := by
  unfold warmMoltenLost
  split
  · exact .refl _
  · split
    · exact enterMelt_eased s
    · exact enterMelt_eased s
    · exact (mapZones_eased s.heat (f := fun _ (z : Zone) => { z with started := false }) (fun _ _ h => h)
        (fun _ _ h => h)).trans (settleLoops_eased (unstartZones (s.setModes { s.modes with meltKept := false })))
    · exact .refl _
    · exact .refl _
  all_goals exact .refl _

theorem moltenLost_eased : s.heat.Eased (moltenLost s).heat := by
  obtain ⟨a, ha⟩ : ∃ a, a = waveSync (stopFeeder (s.setPot { s.pot with molten := false, standing := .invalid, feeder := .off })) :=
    ⟨_, rfl⟩
  have hheat : a.heat = s.heat := by rw [ha, waveSync_heat]; rfl
  have hcold : ∀ b : State, b.heat.Eased (coldIfWaveOn b).heat := fun b => by
    unfold coldIfWaveOn
    split
    · exact raise_eased b _
    · exact .refl _
  have hready : s.heat.Eased (enterReady (failSearch .potNotMolten a)).heat := by
    refine Heaters.Eased.trans ?_ (enterReady_eased _)
    rw [failSearch_heat, hheat]
    exact .refl _
  have hkept : s.heat.Eased a.heat := eased_of_heat hheat
  unfold moltenLost
  dsimp only
  rw [← ha]
  refine Heaters.Eased.trans (Heaters.Eased.trans ?_ (hcold _)) (warmMoltenLost_eased _)
  split
  · exact hready
  · exact hkept
  · exact hkept

theorem deliverMelt_eased (x : Slot) : s.heat.Eased (deliverMelt x s).heat := by
  rcases deliverMelt_cases x s with h | h | h | ⟨-, h⟩ <;> rw [h]
  · exact .refl _
  · exact .refl _
  · exact .refl _
  · exact moltenLost_eased (soakInterrupted s)

end

/-! ### Over marks and the supply's condition (R3, R105, R107) -/

section
variable {s : State} {new : Mode}

theorem setMode_overMark (h : new ≠ .idle) (k : ZoneId) : ((setMode new s).zone k).overMark = (s.zone k).overMark := by
  refine (congrArg Zone.overMark (setMode_zone new s k) :).trans ?_
  cases new with
  | idle => exact absurd rfl h
  | warmup | ready | run | drain | hold | standby | calibrating | safe => rfl

theorem setMode_zoneOvertemp (h : new ≠ .idle) : (setMode new s).alarm .zoneOvertemp = s.alarm .zoneOvertemp := by
  refine setMode_alarm (by decide) ?_
  revert h
  cases new <;> decide

/-- Between two modes that are not IDLE the supply is not judged. -/
theorem setMode_supply (hold : s.modes.mode ≠ .idle) (h : new ≠ .idle) : (setMode new s).alarm .supplyLow = s.alarm .supplyLow := by
  have hset : (modeSet new s).alarm .supplyLow = s.alarm .supplyLow := by
    unfold modeSet
    dsimp only
    split
    · exact conditionEnds_alarm_other _ (by decide)
    · rfl
  have hjudged : (modeJudged new s).alarm .supplyLow = s.alarm .supplyLow := by
    have hmark : AlarmKind.supplyLow ∉ new.markKinds := by cases new <;> decide
    rw [modeJudged, fanSync_alarm _ (by decide), supplyAtMode, if_pos (by simp [hold, h]), entryMarks_alarm _ hmark, hset]
  rw [setMode_eq, alarm_of_alarms (afterLoops_alarms _), conveyorSync_alarm _ (by decide), alarm_of_alarms (trackAtMode_alarms _ _),
    waveAtMode_alarm _ (by decide)]
  split
  · rw [searchAtSafe_alarm _ (by decide), sprayAtMode_alarm _ new (by decide), hjudged]
  · rw [sprayAtMode_alarm _ new (by decide), hjudged]

/-- The over marks with their condition, and the supply's condition, stand as they did. -/
structure MarksKept (s t : State) : Prop where
  overMark : ∀ k, (t.zone k).overMark = (s.zone k).overMark
  overtemp : t.alarm .zoneOvertemp = s.alarm .zoneOvertemp
  supply : t.alarm .supplyLow = s.alarm .supplyLow

theorem MarksKept.refl (s : State) : MarksKept s s := ⟨fun _ => rfl, rfl, rfl⟩

theorem MarksKept.trans {t u : State} (h : MarksKept s t) (h' : MarksKept t u) : MarksKept s u :=
  ⟨fun k => (h'.overMark k).trans (h.overMark k), h'.overtemp.trans h.overtemp, h'.supply.trans h.supply⟩

theorem setMode_marksKept (hold : s.modes.mode ≠ .idle) (h : new ≠ .idle) : MarksKept s (setMode new s) :=
  ⟨setMode_overMark h, setMode_zoneOvertemp h, setMode_supply hold h⟩

/-- A drain to READY from a mode that is not IDLE keeps the marks, and ends in DRAIN, READY or STANDBY. -/
theorem enterDrain_ready_marks (hold : s.modes.mode ≠ .idle) : MarksKept s (enterDrain .ready s)
    ∧ ((enterDrain .ready s).modes.mode = .drain ∨ (enterDrain .ready s).modes.mode = .ready
      ∨ (enterDrain .ready s).modes.mode = .standby) := by
  obtain ⟨hover, hovertemp, hsupply⟩ :=
    setMode_marksKept (s := s.setModes { s.modes with drain := .ready }) (new := .drain) hold (by decide)
  have hdrain : MarksKept s (toDrain .ready s) := ⟨hover, hovertemp, hsupply⟩
  have hitems := toDrain_items (s := s) .ready
  obtain ⟨u, hu⟩ : ∃ u, u = drainCompletes (toDrain .ready s) := ⟨_, rfl⟩
  have hcompleted : MarksKept s u ∧ (u.modes.mode = .drain ∧ u.modes.drain = .ready ∨ u.modes.mode = .ready) := by
    by_cases hr : s.tracker.records = []
    · rw [hu, drainCompletes_toDrain _ hr]
      refine ⟨hdrain.trans (setMode_marksKept (by rw [hitems]; show Mode.drain ≠ .idle; decide) (by decide)), .inr ?_⟩
      rw [setMode_modes]
      rfl
    · rw [hu, drainCompletes_toDrain_of_boards _ hr, hitems]
      exact ⟨hdrain, .inl ⟨rfl, rfl⟩⟩
  obtain ⟨hkept, hmode⟩ := hcompleted
  have hforced : MarksKept u (forcedTest u) ∧ ((forcedTest u).modes.mode = .drain ∨ (forcedTest u).modes.mode = .ready
      ∨ (forcedTest u).modes.mode = .standby) := by
    unfold forcedTest
    split
    · obtain ⟨v, hv⟩ : ∃ v, v = u.setExtr { u.extr with forcedDue := false } := ⟨_, rfl⟩
      have huv : MarksKept u v := by rw [hv]; exact ⟨fun _ => rfl, rfl, rfl⟩
      have hmodes : v.modes = u.modes := by rw [hv]; rfl
      rw [← hv]
      rcases hmode with ⟨hm, hd⟩ | hm
      · have hstand : forceStandby v = v.setModes { v.modes with drain := .standby } := by
          unfold forceStandby
          rw [hmodes, hm, hd]
          rfl
        rw [hstand]
        exact ⟨huv.trans ⟨fun _ => rfl, rfl, rfl⟩, .inl (by rw [← hm, ← hmodes]; rfl)⟩
      · have hstand : forceStandby v = setMode .standby v := by
          unfold forceStandby
          rw [hmodes, hm]
        rw [hstand]
        refine ⟨huv.trans (setMode_marksKept (by rw [hmodes, hm]; decide) (by decide)), .inr (.inr ?_)⟩
        rw [setMode_modes]
        rfl
    · rcases hmode with ⟨hm, -⟩ | hm
      · exact ⟨.refl u, .inl hm⟩
      · exact ⟨.refl u, .inr (.inl hm)⟩
  have henter : enterDrain .ready s = forcedTest u := by rw [hu]; rfl
  rw [henter]
  exact ⟨hkept.trans hforced.1, hforced.2⟩

end

end Sys2Proof.Machine

end

section
/-! PROOFS. The zone channels (R94 to R96, R104, R105): what a delivery does to the zone's loop, to the last results with ZONE_SENSOR,
and to the over marks with ZONE_OVERTEMP. -/

namespace Sys2Proof.Machine

/-! ### An active loop outlasts the sweep of a warm-up -/

section
variable {s t : State} {k : ZoneId}

/-- Whether a zone is active follows the mode items, the store, and the zone's presence, started mark and trim. -/
theorem zoneActive_congr (hmode : t.modes.mode = s.modes.mode) (hset : t.modes.activeSet = s.modes.activeSet)
    (hpot : t.potActive = s.potActive) (hfar : t.far = s.far) (hpresence : (t.zone k).presence = (s.zone k).presence)
    (hstarted : (t.zone k).started = (s.zone k).started) (htrim : (t.zone k).trim = (s.zone k).trim) :
    t.zoneActive k = s.zoneActive k := by
  have hfield : ∀ f, t.activeField f = s.activeField f :=
    activeField_congr hset (congrArg Far.store hfar) (congrArg Far.freeIndex hfar)
  have hrating : t.zoneRating k = s.zoneRating k := param_of_far hfar _
  unfold State.zoneActive State.zoneWatched State.zoneWorking State.zoneSetpoint
  rw [hpot, hrating, hpresence, hstarted, htrim, hmode]
  simp only [hfield]

theorem potActive_of_modes (h : t.modes = s.modes) : t.potActive = s.potActive := by
  unfold State.potActive State.stage?
  rw [h]

/-- The loop's items of a zone. -/
def Zone.loop (z : Zone) : Nat × Nat × Nat × Bool := (z.demand, z.integral, z.grant, z.cut)

theorem warmSweep_stage_of_settle (h : s.stage? = some .settle) : (warmSweep s).stage? = some .settle := by
  unfold warmSweep
  split
  · have hst : (moveCursor (bandEntries s)).stage? = some .settle := by rw [moveCursor_stage, bandEntries_stage, h]
    rw [afterLoops_stage]
    unfold settleTest
    rw [hst]
    dsimp only
    split
    · exact hst
    · refine (updWarm_stage ?_).trans hst
      exact fun _ => rfl
  · exact h

theorem potActive_of_warmup (hm : s.modes.mode = .warmup) :
    s.potActive = true ↔ s.stage? = some .melt ∨ s.stage? = some .zones ∨ s.stage? = some .settle := by
  unfold State.potActive
  rw [hm]
  simp only [Bool.or_eq_true, beq_iff_eq, or_assoc]

theorem warmSweep_potActive (h : s.potActive = true) : (warmSweep s).potActive = true := by
  by_cases hm : s.modes.mode = .warmup
  · have hmode : (warmSweep s).modes.mode = .warmup := (mode_of_calm (warmSweep_calm s)).trans hm
    rw [potActive_of_warmup hmode]
    rcases (potActive_of_warmup hm).mp h with hs | hs | hs
    · exact .inl (warmSweep_stage_of_early hs (.inl rfl))
    · exact .inr (warmSweep_stage_of_zones hs)
    · exact .inr (.inr (warmSweep_stage_of_settle hs))
  · rw [warmSweep_of_not_warmup hm]
    exact h

/-- The warm-up record and the zones as a sweep leaves them, before the loops settle. -/
def sweptZones (s : State) : State := settleTest (moveCursor (bandEntries s))

theorem sweptZones_calm : (sweptZones s).calm = s.calm := by
  rw [sweptZones, settleTest_calm, moveCursor_calm, bandEntries_calm]

theorem warmSweep_of_warmup (hm : s.modes.mode = .warmup) : warmSweep s = afterLoops (sweptZones s) := if_pos hm

theorem bandEntries_loop (s : State) (k : ZoneId) : ((bandEntries s).zone k).loop = (s.zone k).loop := by
  have hmap : ∀ f : ZoneId → Zone → Zone, (∀ j z, (f j z).loop = z.loop) → ((s.mapZones f).zone k).loop = (s.zone k).loop :=
    fun f hf => (congrArg Zone.loop (zone_mapZones s f k)).trans (hf k _)
  unfold bandEntries
  dsimp only
  split
  · exact hmap _ fun j z => by split <;> rfl
  · exact hmap _ fun j z => by split <;> rfl

theorem advanceCursor_loop (ks : List ZoneId) (s : State) (k : ZoneId) :
    ((advanceCursor ks s).zone k).loop = (s.zone k).loop := by
  induction ks generalizing s with
  | nil => rfl
  | cons j rest ih =>
    have hstart : (((startZone j s).updWarm (fun w => { w with cursor := some j })).zone k).loop = (s.zone k).loop := by
      show ((s.updZone j (fun z => { z with started := true })).zone k).loop = _
      by_cases hk : k = j
      · rw [hk, zone_updZone_same]
        rfl
      · rw [zone_updZone_other _ _ hk]
    unfold advanceCursor
    dsimp only
    split
    · split
      · rw [ih, hstart]
      · exact hstart
    · exact ih s

theorem moveCursor_loop (s : State) (k : ZoneId) : ((moveCursor s).zone k).loop = (s.zone k).loop := by
  unfold moveCursor
  repeat' split
  · exact advanceCursor_loop _ _ _
  all_goals rfl

theorem sweptZones_loop (k : ZoneId) : ((sweptZones s).zone k).loop = (s.zone k).loop := by
  show ((settleTest (moveCursor (bandEntries s))).heat.zones.get k).loop = _
  rw [settleTest_heat]
  exact (moveCursor_loop _ k).trans (bandEntries_loop s k)

/-- A zone that is active keeps its loop's items. -/
theorem warmSweep_loop (h : s.zoneActive k = true) : ((warmSweep s).zone k).loop = (s.zone k).loop := by
  by_cases hm : s.modes.mode = .warmup
  · have hcalm : (sweptZones s).calm = s.calm := sweptZones_calm
    have hstarted : (s.zone k).started = true := by
      simp only [State.zoneActive, Bool.and_eq_true] at h
      exact h.1.2
    have hpot : s.potActive = true := by
      simp only [State.zoneActive, Bool.and_eq_true] at h
      exact h.1.1.1
    have hswept : (sweptZones s).potActive = true := by
      rw [← potActive_of_modes (afterLoops_modes (sweptZones s)), ← warmSweep_of_warmup hm]
      exact warmSweep_potActive hpot
    have hkept : ((sweptZones s).zone k).started = true := by
      rw [← afterLoops_zone_started, ← warmSweep_of_warmup hm]
      exact warmSweep_keeps_started hstarted
    have hactive : (sweptZones s).zoneActive k = true := by
      rw [zoneActive_congr (mode_of_calm hcalm) (activeSet_of_calm hcalm) (hswept.trans hpot.symm) (far_of_calm hcalm)
        (presence_of_ground (ground_of_calm hcalm) k) (hkept.trans hstarted.symm) (trim_of_calm hcalm k), h]
    rw [warmSweep_of_warmup hm, afterLoops_zone, if_pos hactive, sweptZones_loop]
  · rw [warmSweep_of_not_warmup hm]

/-- A pot loop that is active keeps its items. -/
theorem warmSweep_pot (h : s.potActive = true) : (warmSweep s).heat.pot = s.heat.pot := by
  by_cases hm : s.modes.mode = .warmup
  · have hheat : ∀ u : State, (bandEntries u).heat.pot = u.heat.pot := fun u => by
      unfold bandEntries
      dsimp only
      split <;> rfl
    have hcursor : ∀ (ks : List ZoneId) (u : State), (advanceCursor ks u).heat.pot = u.heat.pot := fun ks => by
      induction ks with
      | nil => exact fun _ => rfl
      | cons j rest ih =>
        intro u
        unfold advanceCursor
        dsimp only
        split
        · split
          · exact (ih _).trans rfl
          · rfl
        · exact ih u
    have hmove : ∀ u : State, (moveCursor u).heat.pot = u.heat.pot := fun u => by
      unfold moveCursor
      repeat' split
      · exact hcursor _ _
      all_goals rfl
    have hswept : (sweptZones s).potActive = true := by
      rw [← potActive_of_modes (afterLoops_modes (sweptZones s)), ← warmSweep_of_warmup hm]
      exact warmSweep_potActive h
    rw [warmSweep_of_warmup hm, afterLoops_heat]
    show (if (sweptZones s).potActive then (sweptZones s).heat.pot else _) = _
    rw [if_pos hswept]
    show (settleTest (moveCursor (bandEntries s))).heat.pot = _
    rw [settleTest_heat, hmove, hheat]
  · rw [warmSweep_of_not_warmup hm]

end

/-! ### ZONE_SENSOR (R104, R108) -/

section
variable {s : State} {k : AlarmKind}

/-- The severity STOP acts in RUN alone, and keeps the over marks there too. -/
theorem react_stop_marks : MarksKept s (react .stop s) := by
  by_cases hm : s.modes.mode = .run
  · rw [react_stop_of_run hm]
    exact (enterDrain_ready_marks (by rw [hm]; decide)).1
  · rw [react_stop_of_not_run hm]
    exact .refl s

theorem conditionAppears_marks (h : k ≠ .zoneOvertemp) (h' : k ≠ .supplyLow) : MarksKept s (conditionAppears k s) :=
  ⟨fun j => by rw [State.zone, conditionAppears_heat]; rfl, conditionAppears_alarm_other _ h.symm,
    conditionAppears_alarm_other _ h'.symm⟩

theorem raise_stop_marks (hk : severity k = .stop) (h : k ≠ .zoneOvertemp) (h' : k ≠ .supplyLow) : MarksKept s (raise k s) := by
  unfold raise
  split
  · exact .refl s
  · rw [hk]
    exact (conditionAppears_marks h h').trans react_stop_marks

theorem conditionEnds_marks (h : k ≠ .zoneOvertemp) (h' : k ≠ .supplyLow) : MarksKept s (conditionEnds k s) :=
  ⟨fun _ => rfl, conditionEnds_alarm_other _ h.symm, conditionEnds_alarm_other _ h'.symm⟩

theorem judge_stop_marks (b : Bool) (hk : severity k = .stop) (h : k ≠ .zoneOvertemp) (h' : k ≠ .supplyLow) :
    MarksKept s (judge k b s) := by
  unfold judge
  split
  · exact raise_stop_marks hk h h'
  · exact conditionEnds_marks h h'

/-- Outside RUN, or with nothing to raise, a condition of severity STOP changes the Alarm Table alone. -/
theorem judge_stop_quiet {b : Bool} (hk : severity k = .stop) (h : s.modes.mode ≠ .run ∨ b = false) :
    (judge k b s).modes = s.modes ∧ (judge k b s).heat = s.heat := by
  unfold judge
  split
  next hb =>
    have hm := h.resolve_right (by rw [hb]; decide)
    cases hc : s.condition k with
    | true =>
      rw [raise_of_present hc]
      exact ⟨rfl, rfl⟩
    | false =>
      rw [raise_of_absent hc, hk, react_stop_of_not_run (s := occurrence k .active s) hm]
      exact ⟨rfl, rfl⟩
  next => exact ⟨rfl, rfl⟩

/-- Whether ZONE_SENSOR's first judgement after a RESTART has to wait. -/
def State.sensorUnheard (s : State) : Bool := allZones.any (fun j => s.zoneWatched j && (s.zone j).last == .none)

/-- Whether a watched zone's last result is OPEN. -/
def State.sensorOpen (s : State) : Bool := allZones.any (fun j => s.zoneWatched j && (s.zone j).last == .opened)

theorem judgeSensor_eq : judgeSensor s = if s.heat.sensorWaits = true ∧ s.sensorUnheard = true then s
    else judge .zoneSensor s.sensorOpen (s.setHeat { s.heat with sensorWaits := false }) := by
  have hopen : (allZones.filter s.zoneWatched).any (fun j => (s.zone j).last == .opened) = s.sensorOpen := List.any_filter
  have hheard : (allZones.filter s.zoneWatched).all (fun j => (s.zone j).last != .none) = !s.sensorUnheard := by
    rw [List.all_filter]
    unfold State.sensorUnheard
    rw [List.not_any_eq_all_not]
    refine congrArg allZones.all (funext fun j => ?_)
    cases s.zoneWatched j <;> rfl
  unfold judgeSensor
  simp only [hopen, hheard, Bool.not_not, Bool.and_eq_true]

theorem judgeSensor_marks : MarksKept s (judgeSensor s) := by
  rw [judgeSensor_eq]
  split
  · exact .refl s
  · obtain ⟨hover, hovertemp, hsupply⟩ := judge_stop_marks (s := s.setHeat { s.heat with sensorWaits := false }) (k := .zoneSensor)
      s.sensorOpen rfl (by decide) (by decide)
    exact ⟨hover, hovertemp, hsupply⟩

theorem judgeSensor_eased : s.heat.Eased (judgeSensor s).heat := by
  rw [judgeSensor_eq]
  split
  · exact .refl _
  · obtain ⟨hd, hg, hpd, hpg⟩ := judge_eased (s.setHeat { s.heat with sensorWaits := false }) .zoneSensor s.sensorOpen
    exact ⟨hd, hg, hpd, hpg⟩

theorem judgeSensor_last (j : ZoneId) : ((judgeSensor s).zone j).last = (s.zone j).last := by
  rw [judgeSensor_eq]
  split
  · rfl
  · exact (last_of_ground (judge_ground _ _ _) j).trans rfl

theorem judgeSensor_quiet (h : s.modes.mode ≠ .run ∨ s.sensorOpen = false) :
    (judgeSensor s).modes = s.modes ∧ ∀ j, (judgeSensor s).zone j = s.zone j := by
  rw [judgeSensor_eq]
  split
  · exact ⟨rfl, fun _ => rfl⟩
  · obtain ⟨hmodes, hheat⟩ := judge_stop_quiet (s := s.setHeat { s.heat with sensorWaits := false }) (k := .zoneSensor) rfl h
    exact ⟨hmodes, fun j => (congrArg (fun x : Heaters => x.zones.get j) hheat :)⟩

/-- The condition and the mark of a judgement. -/
theorem judgeSensor_judged : if s.heat.sensorWaits = true ∧ s.sensorUnheard = true then
      (judgeSensor s).condition .zoneSensor = s.condition .zoneSensor ∧ (judgeSensor s).heat.sensorWaits = true
    else (judgeSensor s).condition .zoneSensor = s.sensorOpen ∧ (judgeSensor s).heat.sensorWaits = false := by
  rw [judgeSensor_eq]
  split
  next h => exact ⟨rfl, h.1⟩
  next =>
    exact ⟨judge_condition (by decide) _ _, (sensorWaits_of_ground (judge_ground _ _ _)).trans rfl⟩

end

end Sys2Proof.Machine

end

section
/-! PROOFS. The deliveries of the zone channels, case by case of the slot (R94 to R96, R104, R105). -/

namespace Sys2Proof.Machine

/-! ### ZONE_OVERTEMP (R105) -/

section
variable {s : State} {k : ZoneId} {v : Int}

/-- The state with the zone's over mark judged, before ZONE_OVERTEMP follows. -/
def overMarked (k : ZoneId) (b : Bool) (s : State) : State := s.updZone k (fun z => { z with overMark := b })

theorem judgeOver_of_unjudged (h : s.modes.mode = .idle ∨ s.zoneWatched k = false ∨ s.overReference k = none) :
    judgeOver k v s = s := by
  unfold judgeOver
  split
  next hj =>
    rcases h with hm | hw | hr
    · exact absurd hm hj.1
    · rw [hw] at hj
      exact nomatch hj.2
    · rw [hr]
  next => rfl

theorem judgeOver_of_judged {x : Int} (hm : s.modes.mode ≠ .idle) (hw : s.zoneWatched k = true) (hx : s.overReference k = some x) :
    judgeOver k v s = judge .zoneOvertemp (overMarked k (decide (x + s.zoneMargin k < v)) s).anyOver
      (overMarked k (decide (x + s.zoneMargin k < v)) s) := by
  unfold judgeOver
  rw [if_pos ⟨hm, hw⟩, hx]
  rfl

theorem overMarked_overMark (b : Bool) (j : ZoneId) :
    ((overMarked k b s).zone j).overMark = if j = k then b else (s.zone j).overMark := by
  unfold overMarked
  split
  next h =>
    subst h
    rw [zone_updZone_same]
  next h => rw [zone_updZone_other _ _ h]

/-- POT's and the zones' severity SAFE: SAFE is entered, unless the mode is SAFE. -/
theorem raise_overtemp_kept : (∀ j, ((raise .zoneOvertemp s).zone j).overMark = (s.zone j).overMark)
    ∧ (raise .zoneOvertemp s).condition .zoneOvertemp = true
    ∧ (s.condition .zoneOvertemp = false → s.modes.mode ≠ .safe → (raise .zoneOvertemp s).modes.mode = .safe) := by
  cases hc : s.condition .zoneOvertemp with
  | true =>
    rw [raise_of_present hc]
    exact ⟨fun _ => rfl, hc, nofun⟩
  | false =>
    obtain ⟨u, hu⟩ : ∃ u, u = occurrence .zoneOvertemp .active s := ⟨_, rfl⟩
    have hcond : u.condition .zoneOvertemp = true := by
      have h := conditionAppears_condition (k := .zoneOvertemp) s
      rwa [conditionAppears_of_absent hc, ← hu] at h
    have hover : ∀ j, (u.zone j).overMark = (s.zone j).overMark := fun j => by rw [hu]; rfl
    have hmodes : u.modes = s.modes := by rw [hu]; rfl
    rw [raise_of_absent hc, show severity .zoneOvertemp = .safe from rfl, ← hu]
    by_cases hm : u.modes.mode = .safe
    · have hreact : react .safe u = u := by simp [react, hm]
      rw [hreact]
      exact ⟨hover, hcond, fun _ hne => absurd (hmodes ▸ hm) hne⟩
    · rw [react_safe hm]
      refine ⟨fun j => (setMode_overMark (by decide) j).trans (hover j),
        (condition_congr u (setMode_zoneOvertemp (by decide))).trans hcond, fun _ _ => ?_⟩
      rw [setMode_modes]
      rfl

/-- The marks, the condition and the mode after a judgement. -/
theorem judgeOver_judged {x : Int} (hm : s.modes.mode ≠ .idle) (hw : s.zoneWatched k = true) (hx : s.overReference k = some x) :
    (∀ j, ((judgeOver k v s).zone j).overMark = if j = k then decide (x + s.zoneMargin k < v) else (s.zone j).overMark)
    ∧ (judgeOver k v s).condition .zoneOvertemp = allZones.any (fun j => ((judgeOver k v s).zone j).overMark)
    ∧ (s.condition .zoneOvertemp = false → (judgeOver k v s).condition .zoneOvertemp = true → s.modes.mode ≠ .safe →
      (judgeOver k v s).modes.mode = .safe) := by
  obtain ⟨u, hu⟩ : ∃ u, u = overMarked k (decide (x + s.zoneMargin k < v)) s := ⟨_, rfl⟩
  have hmark : ∀ j, (u.zone j).overMark = if j = k then decide (x + s.zoneMargin k < v) else (s.zone j).overMark :=
    fun j => hu ▸ overMarked_overMark _ j
  have hcond : u.condition .zoneOvertemp = s.condition .zoneOvertemp := by rw [hu]; rfl
  have hmode : u.modes = s.modes := by rw [hu]; rfl
  rw [judgeOver_of_judged hm hw hx, ← hu]
  unfold judge
  cases hany : u.anyOver with
  | true =>
    obtain ⟨hkept, hpresent, hsafe⟩ := raise_overtemp_kept (s := u)
    rw [if_pos rfl]
    refine ⟨fun j => (hkept j).trans (hmark j), ?_, fun hc _ hne => hsafe (hcond.trans hc) (by rwa [hmode])⟩
    simp only [hkept]
    rw [hpresent]
    exact hany.symm
  | false =>
    rw [if_neg (by decide)]
    refine ⟨hmark, (conditionEnds_condition u).trans hany.symm, fun _ hp _ => ?_⟩
    rw [conditionEnds_condition u] at hp
    exact nomatch hp

/-- Where no mark is set, a judgement below the limit changes the Alarm Table alone. -/
theorem judgeOver_quiet (hover : ∀ j, (s.zone j).overMark = false)
    (hle : ∀ x, s.overReference k = some x → v ≤ x + s.zoneMargin k) :
    (judgeOver k v s).modes = s.modes ∧ ∀ j, (judgeOver k v s).zone j = s.zone j := by
  by_cases hj : s.modes.mode ≠ .idle ∧ s.zoneWatched k = true
  · cases hx : s.overReference k with
    | none =>
      rw [judgeOver_of_unjudged (.inr (.inr hx))]
      exact ⟨rfl, fun _ => rfl⟩
    | some x =>
      have hmark : decide (x + s.zoneMargin k < v) = false := decide_eq_false (not_lt.2 (hle x hx))
      obtain ⟨u, hu⟩ : ∃ u, u = overMarked k (decide (x + s.zoneMargin k < v)) s := ⟨_, rfl⟩
      have hzone : ∀ j, u.zone j = s.zone j := fun j => by
        rw [hu, hmark, overMarked]
        by_cases hjk : j = k
        · subst hjk
          rw [zone_updZone_same, ← hover j]
        · exact zone_updZone_other _ _ hjk
      have hany : u.anyOver = false := by
        unfold State.anyOver
        rw [List.any_eq_false]
        intro j _
        rw [hzone, hover]
        decide
      rw [judgeOver_of_judged hj.1 hj.2 hx, ← hu, hany]
      refine ⟨?_, hzone⟩
      rw [hu]
      rfl
  · rw [judgeOver_of_unjudged]
    · exact ⟨rfl, fun _ => rfl⟩
    · rw [not_and_or, not_not, Bool.not_eq_true] at hj
      exact hj.imp_right .inl

theorem judgeOver_ground : ∃ b, (judgeOver k v s).ground = (overMarked k b s).ground ∨ judgeOver k v s = s := by
  unfold judgeOver
  split
  · split
    · exact ⟨_, .inl (judge_ground _ _ _)⟩
    · exact ⟨false, .inr rfl⟩
  · exact ⟨false, .inr rfl⟩

/-- An over mark is none of the items that the other watch reads. -/
theorem judgeOver_sensor : (∀ j, ((judgeOver k v s).zone j).last = (s.zone j).last)
    ∧ (∀ j, (judgeOver k v s).zoneWatched j = s.zoneWatched j) ∧ (judgeOver k v s).heat.sensorWaits = s.heat.sensorWaits := by
  obtain ⟨b, hg | he⟩ := judgeOver_ground (k := k) (v := v) (s := s)
  · have hmarked : ∀ j, ((overMarked k b s).zone j).last = (s.zone j).last
        ∧ ((overMarked k b s).zone j).presence = (s.zone j).presence := fun j => by
      unfold overMarked
      by_cases hj : j = k
      · subst hj
        rw [zone_updZone_same]
        exact ⟨rfl, rfl⟩
      · rw [zone_updZone_other _ _ hj]
        exact ⟨rfl, rfl⟩
    refine ⟨fun j => (last_of_ground hg j).trans (hmarked j).1, fun j => ?_, (sensorWaits_of_ground hg).trans rfl⟩
    unfold State.zoneWatched
    rw [(presence_of_ground hg j).trans (hmarked j).2,
      show (judgeOver k v s).zoneRating j = s.zoneRating j from param_of_far (judgeOver_far k v s) _]
  · rw [he]
    exact ⟨fun _ => rfl, fun _ => rfl, rfl⟩

end

/-! ### The zone's loop at its result (R94, R96) -/

section
variable {s : State} {k : ZoneId}

/-- The zone's loop takes a FRESH temperature. -/
def zoneLooped (k : ZoneId) (v : Int) (s : State) : State := if s.zoneActive k then updateZoneLoop k v s else s

/-- The zone's loop takes a slot that is not FRESH. -/
def zoneCut (k : ZoneId) (s : State) : State := if s.zoneActive k then cutZoneLoop k s else s

/-- A zone without the items of its loop and its last result. -/
def Zone.idle (z : Zone) : Zone := { z with demand := 0, integral := 0, grant := 0, last := .none }

/-- What a result at the loop leaves alone. -/
structure LoopTaken (s t : State) : Prop where
  rest : t = s.setHeat { s.heat with zones := t.heat.zones }
  zone : ∀ j, (t.zone j).idle = (s.zone j).idle

theorem updZone_taken {f : Zone → Zone} (hf : ∀ z, (f z).idle = z.idle) : LoopTaken s (s.updZone k f) where
  rest := rfl
  zone := fun j => by
    by_cases hj : j = k
    · subst hj
      rw [zone_updZone_same, hf]
    · rw [zone_updZone_other _ _ hj]

theorem LoopTaken.refl (s : State) : LoopTaken s s := ⟨rfl, fun _ => rfl⟩

theorem LoopTaken.trans {t u : State} (h : LoopTaken s t) (h' : LoopTaken t u) : LoopTaken s u where
  rest := by
    rw [h'.rest, h.rest]
    rfl
  zone := fun j => (h'.zone j).trans (h.zone j)

theorem zoneLooped_taken (v : Int) : LoopTaken s (zoneLooped k v s) := by
  unfold zoneLooped
  split
  · unfold updateZoneLoop
    refine updZone_taken ?_
    exact fun _ => rfl
  · exact .refl s

theorem zoneCut_taken : LoopTaken s (zoneCut k s) := by
  unfold zoneCut
  split
  · refine updZone_taken ?_
    exact fun _ => rfl
  · exact .refl s

theorem noteResult_taken (x : LastResult) : LoopTaken s (noteResult k x s) := by
  refine updZone_taken ?_
  exact fun _ => rfl

section
variable {t : State} (h : LoopTaken s t)
include h

theorem LoopTaken.modes : t.modes = s.modes := by rw [h.rest]; rfl
theorem LoopTaken.far : t.far = s.far := by rw [h.rest]; rfl
theorem LoopTaken.alarms : t.alarms = s.alarms := by rw [h.rest]; rfl
theorem LoopTaken.sensorWaits : t.heat.sensorWaits = s.heat.sensorWaits := by rw [h.rest]; rfl
theorem LoopTaken.presence (j : ZoneId) : (t.zone j).presence = (s.zone j).presence := (congrArg Zone.presence (h.zone j) :)
theorem LoopTaken.started (j : ZoneId) : (t.zone j).started = (s.zone j).started := (congrArg Zone.started (h.zone j) :)
theorem LoopTaken.trim (j : ZoneId) : (t.zone j).trim = (s.zone j).trim := (congrArg Zone.trim (h.zone j) :)
theorem LoopTaken.overMark (j : ZoneId) : (t.zone j).overMark = (s.zone j).overMark := (congrArg Zone.overMark (h.zone j) :)

theorem LoopTaken.watched (j : ZoneId) : t.zoneWatched j = s.zoneWatched j := by
  unfold State.zoneWatched
  rw [h.presence, show t.zoneRating j = s.zoneRating j from param_of_far h.far _]

theorem LoopTaken.active (j : ZoneId) : t.zoneActive j = s.zoneActive j :=
  zoneActive_congr (by rw [h.modes]) (by rw [h.modes]) (potActive_of_modes h.modes) h.far (h.presence j) (h.started j) (h.trim j)

theorem LoopTaken.reference (j : ZoneId) : t.overReference j = s.overReference j := by
  have hstore : t.store = s.store := congrArg Far.store h.far
  have hfree : t.freeIndex = s.freeIndex := congrArg Far.freeIndex h.far
  have hset : t.activeSet? = s.activeSet? := by
    unfold State.activeSet? State.setContents
    rw [h.modes, hstore, hfree]
  unfold State.overReference
  rw [hset, h.trim]

theorem LoopTaken.marks : MarksKept s t :=
  ⟨h.overMark, congrArg (·.get .zoneOvertemp) h.alarms, congrArg (·.get .supplyLow) h.alarms⟩

end

/-- The last results after one is noted. -/
theorem noteResult_last (x : LastResult) (j : ZoneId) :
    ((noteResult k x s).zone j).last = if j = k then x else (s.zone j).last := by
  unfold noteResult
  split
  next h =>
    subst h
    rw [zone_updZone_same]
  next h => rw [zone_updZone_other _ _ h]

theorem zoneLooped_last (v : Int) (j : ZoneId) : ((zoneLooped k v s).zone j).last = (s.zone j).last := by
  unfold zoneLooped
  split
  · by_cases hj : j = k
    · subst hj
      rw [updateZoneLoop, zone_updZone_same]
    · rw [updateZoneLoop, zone_updZone_other _ _ hj]
  · rfl

theorem zoneCut_last (j : ZoneId) : ((zoneCut k s).zone j).last = (s.zone j).last := by
  unfold zoneCut
  split
  · by_cases hj : j = k
    · subst hj
      rw [cutZoneLoop, zone_updZone_same]
    · rw [cutZoneLoop, zone_updZone_other _ _ hj]
  · rfl

theorem zoneCut_zone (h : s.zoneActive k = true) : (zoneCut k s).zone k = { s.zone k with demand := 0, grant := 0 } := by
  unfold zoneCut
  rw [if_pos h]
  exact zone_updZone_same _ _ _

theorem zoneLooped_zone {v : Int} (h : s.zoneActive k = true) : (zoneLooped k v s).zone k = { s.zone k with
    demand := loopDemand (s.zoneParams k) (loopError (s.zoneWorking k) v) (s.zone k).integral (s.zone k).boost
    integral := loopIntegral (s.zoneParams k) (loopError (s.zoneWorking k) v) (s.zone k).integral
      (loopDemand (s.zoneParams k) (loopError (s.zoneWorking k) v) (s.zone k).integral (s.zone k).boost) (s.zone k).cut
      s.supplyLow } := by
  unfold zoneLooped
  rw [if_pos h]
  exact zone_updZone_same _ _ _

/-! ### The delivery by the slot's standing -/

theorem deliver_zone : deliver (zoneIndex k) s = deliverZone k s := by
  unfold deliver
  rw [zoneAt_zoneIndex]

theorem deliverZone_fresh {v : Int} (h : (s.slot (zoneIndex k)).standing = .fresh) (hv : (s.slot (zoneIndex k)).value = some v) :
    deliver (zoneIndex k) s = warmSweep (judgeSensor (judgeOver k v (noteResult k .closed (zoneLooped k v s)))) := by
  rw [deliver_zone]
  unfold deliverZone
  simp only [h, hv]
  rfl

theorem deliverZone_opened (h : (s.slot (zoneIndex k)).standing = .opened) :
    deliver (zoneIndex k) s = warmSweep (judgeSensor (noteResult k .opened (zoneCut k s))) := by
  rw [deliver_zone]
  unfold deliverZone
  simp only [h]
  rfl

theorem deliverZone_stale (h : (s.slot (zoneIndex k)).standing = .stale) : deliver (zoneIndex k) s = warmSweep (zoneCut k s) := by
  rw [deliver_zone]
  unfold deliverZone
  simp only [h]
  rfl

end

end Sys2Proof.Machine

end

section
/-! PROOFS. The zone channels as the statement has them (R94 to R96, R104, R105). -/

namespace Sys2Proof.Machine

section
variable {k : ZoneId} {s t b : State}

/-- The last results and ZONE_SENSOR's condition after a result of a zone (R104, R108). -/
def SensorJudged (k : ZoneId) (s t : State) (last : LastResult) : Prop :=
  let seen := fun j => if j = k then last else (s.zone j).last
  (∀ j, (t.zone j).last = seen j)
    ∧ (if s.heat.sensorWaits = true ∧ allZones.any (fun j => s.zoneWatched j && seen j == .none) = true then
        t.condition .zoneSensor = s.condition .zoneSensor ∧ t.heat.sensorWaits = true
      else t.condition .zoneSensor = allZones.any (fun j => s.zoneWatched j && seen j == .opened)
        ∧ t.heat.sensorWaits = false)

/-- A zone's loop at a slot that is not FRESH (R96). -/
def LoopCut (k : ZoneId) (s t : State) : Prop := s.zoneActive k = true → (t.zone k).demand = 0 ∧ (t.zone k).grant = 0
  ∧ (s.modes.mode ≠ .run → (t.zone k).integral = (s.zone k).integral)

theorem sensorJudged_of {last : LastResult} (hlast : ∀ j, (b.zone j).last = if j = k then last else (s.zone j).last)
    (hwatched : ∀ j, b.zoneWatched j = s.zoneWatched j) (hwaits : b.heat.sensorWaits = s.heat.sensorWaits)
    (hcond : b.condition .zoneSensor = s.condition .zoneSensor) : SensorJudged k s (warmSweep (judgeSensor b)) last := by
  have hunheard : b.sensorUnheard
      = allZones.any (fun j => s.zoneWatched j && (if j = k then last else (s.zone j).last) == .none) := by
    unfold State.sensorUnheard
    simp only [hlast, hwatched]
  have hopen : b.sensorOpen
      = allZones.any (fun j => s.zoneWatched j && (if j = k then last else (s.zone j).last) == .opened) := by
    unfold State.sensorOpen
    simp only [hlast, hwatched]
  have hswept : (warmSweep (judgeSensor b)).condition .zoneSensor = (judgeSensor b).condition .zoneSensor :=
    condition_congr _ (warmSweep_alarm_other _ (by decide))
  have hmark : (warmSweep (judgeSensor b)).heat.sensorWaits = (judgeSensor b).heat.sensorWaits :=
    sensorWaits_of_ground (warmSweep_ground _)
  refine ⟨fun j => ?_, ?_⟩
  · rw [last_of_ground (warmSweep_ground _) j, judgeSensor_last, hlast]
  · rw [hswept, hmark, ← hunheard, ← hopen, ← hwaits, ← hcond]
    exact judgeSensor_judged

theorem warmSweep_marks : MarksKept b (warmSweep b) :=
  ⟨fun j => (congrArg (fun c : Calm => (c.zone j).overMark) (warmSweep_calm b) :), warmSweep_alarm_other _ (by decide),
    warmSweep_alarm_other _ (by decide)⟩

theorem MarksKept.over (h : MarksKept s t) :
    (∀ j, (t.zone j).overMark = (s.zone j).overMark) ∧ t.condition .zoneOvertemp = s.condition .zoneOvertemp :=
  ⟨h.overMark, condition_congr s h.overtemp⟩

/-- What stands behind a loop's result keeps an active zone's loop, where ZONE_SENSOR does not move the mode. -/
theorem sensor_loop (hq : b.modes.mode ≠ .run ∨ b.sensorOpen = false) (hactive : b.zoneActive k = true) :
    ((warmSweep (judgeSensor b)).zone k).loop = (b.zone k).loop ∧ (warmSweep (judgeSensor b)).modes.mode = b.modes.mode := by
  obtain ⟨hmodes, hzone⟩ := judgeSensor_quiet hq
  have hkept : (judgeSensor b).zoneActive k = true := by
    rw [zoneActive_congr (by rw [hmodes]) (by rw [hmodes]) (potActive_of_modes hmodes) (judgeSensor_far b) (by rw [hzone])
      (by rw [hzone]) (by rw [hzone]), hactive]
  refine ⟨(warmSweep_loop hkept).trans (by rw [hzone]), ?_⟩
  rw [mode_of_calm (warmSweep_calm _), hmodes]

/-- An OPEN or STALE slot: the loop's demand and grant fall to 0. -/
theorem loopCut_of (hb : LoopTaken s b) (hz : s.zoneActive k = true → (b.zone k).loop = (0, (s.zone k).integral, 0, (s.zone k).cut))
    (heased : b.heat.Eased t.heat) (hkept : s.modes.mode ≠ .run → b.zoneActive k = true → (t.zone k).loop = (b.zone k).loop) :
    LoopCut k s t := by
  intro hactive
  have hloop := hz hactive
  refine ⟨heased.zoneDemand k (congrArg (·.1) hloop), heased.zoneGrant k (congrArg (·.2.2.1) hloop), fun hm => ?_⟩
  have hsame := (hkept hm ((hb.active k).trans hactive)).trans hloop
  exact congrArg (·.2.1) hsame

theorem zoneCut_loop (h : s.zoneActive k = true) : ((zoneCut k s).zone k).loop = (0, (s.zone k).integral, 0, (s.zone k).cut) := by
  rw [zoneCut_zone h]
  rfl

theorem noteResult_loop (x : LastResult) (u : State) : ((noteResult k x u).zone k).loop = (u.zone k).loop := by
  rw [noteResult, zone_updZone_same]
  rfl

theorem deliverZone_opened_taken (h : (s.slot (zoneIndex k)).standing = .opened) :
    SensorJudged k s (deliver (zoneIndex k) s) .opened ∧ MarksKept s (deliver (zoneIndex k) s)
      ∧ LoopCut k s (deliver (zoneIndex k) s) := by
  obtain ⟨b, hb⟩ : ∃ b, b = noteResult k .opened (zoneCut k s) := ⟨_, rfl⟩
  have htaken : LoopTaken s b := hb ▸ zoneCut_taken.trans (noteResult_taken _)
  have hdeliver : deliver (zoneIndex k) s = warmSweep (judgeSensor b) := hb ▸ deliverZone_opened h
  rw [hdeliver]
  refine ⟨sensorJudged_of (fun j => ?_) htaken.watched htaken.sensorWaits (condition_congr s (congrArg (·.get .zoneSensor) htaken.alarms)),
    htaken.marks.trans (judgeSensor_marks.trans warmSweep_marks), loopCut_of htaken (fun ha => ?_)
    (judgeSensor_eased.trans (warmSweep_eased _)) fun hm ha => ?_⟩
  · rw [hb, noteResult_last, zoneCut_last]
  · rw [hb, noteResult_loop, zoneCut_loop ha]
  · exact (sensor_loop (.inl (by rw [htaken.modes]; exact hm)) ha).1

theorem deliverZone_stale_taken (h : (s.slot (zoneIndex k)).standing = .stale) :
    (∀ j, ((deliver (zoneIndex k) s).zone j).last = (s.zone j).last) ∧ MarksKept s (deliver (zoneIndex k) s)
      ∧ LoopCut k s (deliver (zoneIndex k) s)
      ∧ (deliver (zoneIndex k) s).condition .zoneSensor = s.condition .zoneSensor := by
  have htaken : LoopTaken s (zoneCut k s) := zoneCut_taken
  rw [deliverZone_stale h]
  refine ⟨fun j => ?_, htaken.marks.trans warmSweep_marks, loopCut_of htaken zoneCut_loop (warmSweep_eased _)
    (fun _ ha => warmSweep_loop ha), ?_⟩
  · rw [last_of_ground (warmSweep_ground _) j, zoneCut_last]
  · exact (condition_congr _ (warmSweep_alarm_other _ (by decide))).trans
      (condition_congr s (congrArg (·.get .zoneSensor) htaken.alarms))

/-! ### A FRESH result -/

/-- The zone's loop and its last result, before the watches. -/
def zoneFresh (k : ZoneId) (v : Int) (s : State) : State := noteResult k .closed (zoneLooped k v s)

theorem zoneFresh_taken (v : Int) : LoopTaken s (zoneFresh k v s) := (zoneLooped_taken v).trans (noteResult_taken _)

theorem zoneFresh_last (v : Int) (j : ZoneId) :
    ((zoneFresh k v s).zone j).last = if j = k then .closed else (s.zone j).last := by
  rw [zoneFresh, noteResult_last, zoneLooped_last]

theorem zoneFresh_margin (v : Int) (j : ZoneId) : (zoneFresh k v s).zoneMargin j = s.zoneMargin j :=
  param_of_far (zoneFresh_taken v).far _

variable {v : Int}

theorem judgeOver_zoneSensor (u : State) : (judgeOver k v u).condition .zoneSensor = u.condition .zoneSensor :=
  condition_congr u (judgeOver_alarm (by decide) u k v)

theorem deliverZone_fresh_sensor (h : (s.slot (zoneIndex k)).standing = .fresh) (hv : (s.slot (zoneIndex k)).value = some v) :
    SensorJudged k s (deliver (zoneIndex k) s) .closed := by
  obtain ⟨a, ha⟩ : ∃ a, a = zoneFresh k v s := ⟨_, rfl⟩
  have htaken : LoopTaken s a := ha ▸ zoneFresh_taken v
  have hdeliver : deliver (zoneIndex k) s = warmSweep (judgeSensor (judgeOver k v a)) := ha ▸ deliverZone_fresh h hv
  obtain ⟨hlast, hwatched, hwaits⟩ := judgeOver_sensor (k := k) (v := v) (s := a)
  rw [hdeliver]
  refine sensorJudged_of (fun j => ?_) (fun j => (hwatched j).trans (htaken.watched j)) (hwaits.trans htaken.sensorWaits)
    ((judgeOver_zoneSensor a).trans (condition_congr s (congrArg (·.get .zoneSensor) htaken.alarms)))
  rw [hlast, ha, zoneFresh_last]

theorem deliverZone_fresh_over (h : (s.slot (zoneIndex k)).standing = .fresh) (hv : (s.slot (zoneIndex k)).value = some v) :
    (s.modes.mode = .idle ∨ s.zoneWatched k = false ∨ s.overReference k = none → MarksKept s (deliver (zoneIndex k) s))
    ∧ ∀ x, s.modes.mode ≠ .idle → s.zoneWatched k = true → s.overReference k = some x →
      ((deliver (zoneIndex k) s).zone k).overMark = decide (x + s.zoneMargin k < v)
      ∧ (∀ j, j ≠ k → ((deliver (zoneIndex k) s).zone j).overMark = (s.zone j).overMark)
      ∧ (deliver (zoneIndex k) s).condition .zoneOvertemp
        = allZones.any (fun j => ((deliver (zoneIndex k) s).zone j).overMark)
      ∧ (s.condition .zoneOvertemp = false → (deliver (zoneIndex k) s).condition .zoneOvertemp = true → s.modes.mode ≠ .safe →
        (deliver (zoneIndex k) s).modes.mode = .safe) := by
  obtain ⟨a, ha⟩ : ∃ a, a = zoneFresh k v s := ⟨_, rfl⟩
  have htaken : LoopTaken s a := ha ▸ zoneFresh_taken v
  have hmargin : a.zoneMargin k = s.zoneMargin k := ha ▸ zoneFresh_margin v k
  have hdeliver : deliver (zoneIndex k) s = warmSweep (judgeSensor (judgeOver k v a)) := ha ▸ deliverZone_fresh h hv
  have hbehind : MarksKept (judgeOver k v a) (warmSweep (judgeSensor (judgeOver k v a))) := judgeSensor_marks.trans warmSweep_marks
  rw [hdeliver]
  refine ⟨fun hun => ?_, fun x hm hw hx => ?_⟩
  · have hquiet : judgeOver k v a = a := judgeOver_of_unjudged (by rwa [htaken.modes, htaken.watched, htaken.reference])
    rw [hquiet] at hbehind ⊢
    exact htaken.marks.trans hbehind
  · obtain ⟨hmark, hcond, hsafe⟩ := judgeOver_judged (v := v) (by rw [htaken.modes]; exact hm) ((htaken.watched k).trans hw)
      ((htaken.reference k).trans hx)
    obtain ⟨hover, hovertemp⟩ := hbehind.over
    refine ⟨?_, fun j hj => ?_, ?_, fun hc hp hne => ?_⟩
    · rw [hover, hmark, if_pos rfl, hmargin]
    · rw [hover, hmark, if_neg hj, htaken.overMark]
    · simp only [hover, hovertemp]
      exact hcond
    · have hentered : (judgeOver k v a).modes.mode = .safe :=
        hsafe ((condition_congr s htaken.marks.overtemp).trans hc) (hovertemp.symm.trans hp) (by rw [htaken.modes]; exact hne)
      have hnot : (judgeOver k v a).modes.mode ≠ .run := by rw [hentered]; decide
      rw [mode_of_calm (warmSweep_calm _), (judgeSensor_quiet (.inl hnot)).1, hentered]

theorem clampInt_bounds (lo hi v : Int) (h : lo ≤ hi) : clampInt lo hi v = max lo (min hi v) := by
  unfold clampInt
  split
  · omega
  · split <;> omega

/-- The loop's items at a FRESH result, as R94 and R95 compute them. -/
theorem deliverZone_fresh_loop (h : (s.slot (zoneIndex k)).standing = .fresh) (hv : (s.slot (zoneIndex k)).value = some v)
    (hactive : s.zoneActive k = true) (hover : ∀ j, (s.zone j).overMark = false)
    (hle : ∀ x, s.overReference k = some x → v ≤ x + s.zoneMargin k)
    (hclosed : s.modes.mode ≠ .run ∨ ∀ j, j ≠ k → s.zoneWatched j = true → (s.zone j).last ≠ .opened) :
    (deliver (zoneIndex k) s).modes.mode = s.modes.mode
      ∧ ((deliver (zoneIndex k) s).zone k).loop = ((zoneLooped k v s).zone k).loop := by
  obtain ⟨a, ha⟩ : ∃ a, a = zoneFresh k v s := ⟨_, rfl⟩
  have htaken : LoopTaken s a := ha ▸ zoneFresh_taken v
  have hmargin : a.zoneMargin k = s.zoneMargin k := ha ▸ zoneFresh_margin v k
  have hdeliver : deliver (zoneIndex k) s = warmSweep (judgeSensor (judgeOver k v a)) := ha ▸ deliverZone_fresh h hv
  obtain ⟨hmodes, hzone⟩ := judgeOver_quiet (k := k) (v := v) (s := a) (fun j => (htaken.overMark j).trans (hover j))
    (fun x hx => by rw [hmargin]; exact hle x ((htaken.reference k).symm.trans hx))
  obtain ⟨b, hb⟩ : ∃ b, b = judgeOver k v a := ⟨_, rfl⟩
  have hfar : b.far = a.far := hb ▸ judgeOver_far k v a
  rw [← hb] at hmodes hzone hdeliver
  have hbactive : b.zoneActive k = true := by
    rw [zoneActive_congr (by rw [hmodes]) (by rw [hmodes]) (potActive_of_modes hmodes) hfar (by rw [hzone]) (by rw [hzone])
      (by rw [hzone]), htaken.active, hactive]
  have hopen : b.modes.mode ≠ .run ∨ b.sensorOpen = false := by
    refine hclosed.imp (fun hm => by rwa [hmodes, htaken.modes]) fun hc => ?_
    unfold State.sensorOpen
    rw [List.any_eq_false]
    intro j _ hj
    simp only [Bool.and_eq_true, beq_iff_eq] at hj
    obtain ⟨hw, hl⟩ := hj
    have hwatched : s.zoneWatched j = true := by
      rw [← hw, hb]
      exact ((judgeOver_sensor (k := k) (v := v) (s := a)).2.1 j).trans (htaken.watched j) |>.symm
    rw [hzone, ha, zoneFresh_last] at hl
    by_cases hjk : j = k
    · rw [if_pos hjk] at hl
      exact nomatch hl
    · rw [if_neg hjk] at hl
      exact hc j hjk hwatched hl
  obtain ⟨hloop, hmode⟩ := sensor_loop hopen hbactive
  rw [hdeliver]
  refine ⟨by rw [hmode, hmodes, htaken.modes], ?_⟩
  rw [hloop, hzone, ha, zoneFresh, noteResult_loop]

end

end Sys2Proof.Machine

end

section
/-! PROOFS. The deliveries of the pot loop, the level estimate and the supply watch (R94 to R96, R107, R119 to R126, R132 to R134). -/

namespace Sys2Proof.Machine

/-! ### The loop update in the statement's terms (R94, R95) -/

theorem loopError_eq (sp t : Int) : loopError sp t = max (-500) (min 500 (sp - t)) := clampInt_bounds _ _ _ (by decide)

theorem loopDemand_eq (p : LoopParams) (e : Int) (i b : Nat) :
    loopDemand p e i b = (max 0 (min 255 (Int.tdiv (p.kp * e) 64 + Int.tdiv (p.ki * i) 1024 + b))).toNat :=
  congrArg Int.toNat (clampInt_bounds _ _ _ (by decide))

theorem loopIntegral_eq (p : LoopParams) (e : Int) (i d : Nat) (cut low : Bool) :
    loopIntegral p e i d cut low
      = if low = true ∨ (0 < e ∧ (d = 255 ∨ cut = true)) then i else (max 0 (min (p.iMax : Int) (i + e))).toNat := by
  unfold loopIntegral
  rw [clampInt_bounds 0 _ _ (by omega)]
  cases low with
  | true => rfl
  | false => simp only [Bool.false_eq_true, if_false, false_or]

/-! ### The pot loop (R94, R96) -/

section
variable {s : State}

/-- Behind the pot loop the owners of channel 6 leave 0 what is 0. -/
theorem deliver_pot_eased : (deliverPotLoop (s.slot 6) s).heat.Eased (deliver 6 s).heat := by
  rw [deliver_pot]
  refine Heaters.Eased.trans ?_ (warmSweep_eased _)
  refine Heaters.Eased.trans ?_ (deliverMelt_eased _ _)
  exact eased_of_heat (fanSync_heat _)

theorem deliver_pot_cut (h : (s.slot 6).standing ≠ .fresh) (ha : s.potActive = true) :
    (deliver 6 s).heat.pot.demand = 0 ∧ (deliver 6 s).heat.pot.grant = 0 := by
  have hcut : deliverPotLoop (s.slot 6) s = cutPotLoop s := by
    rw [deliverPotLoop_not_fresh h]
    exact if_pos ha
  have heased := deliver_pot_eased (s := s)
  rw [hcut] at heased
  exact ⟨heased.potDemand rfl, heased.potGrant rfl⟩

/-- A FRESH result that keeps the molten state changes neither a loop nor the mode items that make loops active. -/
theorem deliverMelt_keeps_loops {b : State} {x : Slot} {v : Int} (hf : x.standing = .fresh) (hv : x.value = some v)
    (hk : b.pot.molten = false ∨ (b.meltSafe : Int) - 50 ≤ v) :
    (deliverMelt x b).heat = b.heat ∧ (deliverMelt x b).potActive = b.potActive := by
  have hmelt : (potAtMelt b).stage? = b.stage? := updWarm_stage (fun _ => rfl)
  have hactive : (potAtMelt b).potActive = b.potActive := by
    unfold State.potActive
    rw [hmelt]
    rfl
  by_cases hc : b.configured = true
  · by_cases hm : (b.meltSafe : Int) ≤ v
    · rw [deliverMelt_hot hf hv hc hm]
      exact ⟨rfl, hactive⟩
    · rw [deliverMelt_cold hf hv hc (by omega) hk]
      exact ⟨rfl, rfl⟩
  · unfold deliverMelt
    rw [hf, hv]
    dsimp only
    rw [if_pos hc]
    exact ⟨rfl, rfl⟩

theorem potLooped_pot {v : Int} (ha : s.potActive = true) : (potLooped v s).heat.pot = { s.heat.pot with
    demand := loopDemand s.potParams (loopError s.potSetpoint v) s.heat.pot.integral 0
    integral := loopIntegral s.potParams (loopError s.potSetpoint v) s.heat.pot.integral
      (loopDemand s.potParams (loopError s.potSetpoint v) s.heat.pot.integral 0) s.heat.pot.cut s.supplyLow } := by
  unfold potLooped
  rw [if_pos ha]
  rfl

theorem deliver_pot_fresh {v : Int} (hf : (s.slot 6).standing = .fresh) (hv : (s.slot 6).value = some v) (ha : s.potActive = true)
    (ht : s.heat.pot.tripInput = false) (hc : v ≤ (s.param 74 : Int)) (hk : s.pot.molten = false ∨ (s.meltSafe : Int) - 50 ≤ v) :
    (deliver 6 s).heat.pot = { (potLooped v s).heat.pot with overMark := false } := by
  obtain ⟨a, haeq⟩ : ∃ a, a = deliverPotLoop (s.slot 6) s := ⟨_, rfl⟩
  obtain ⟨b, hb⟩ : ∃ b, b = judgeFume (fumeHotBy s.fumeOff (s.slot 6)) a := ⟨_, rfl⟩
  have htaken : PotTaken s b := hb ▸ judgeFume_taken _ (haeq ▸ deliverPotLoop_cool_taken hf hv ht hc)
  have hheat : b.heat.pot = { (potLooped v s).heat.pot with overMark := false } := by
    have hfan : b.heat = a.heat := hb ▸ fanSync_heat _
    rw [hfan, haeq, deliverPotLoop_cool hf hv ht hc]
    rfl
  obtain ⟨hkept, hactive⟩ := deliverMelt_keeps_loops (b := b) hf hv
    (by rw [htaken.molten, meltSafe_of_far htaken.far]; exact hk)
  have hdeliver : deliver 6 s = warmSweep (deliverMelt (s.slot 6) b) := by rw [hb, haeq]; exact deliver_pot s
  rw [hdeliver, warmSweep_pot (hactive.trans ((potActive_of_modes htaken.modes).trans ha)), hkept, hheat]

/-! ### The supply watch (R107) -/

/-- Whether channel 10 makes the supply low, as the statement has it. -/
def State.supplyBelow (s : State) : Bool :=
  match (s.slot 10).freshValue with
  | some v => s.configured && decide (v < (s.param 35 : Int))
  | none => decide (s.modes.mode ≠ .idle)

theorem supplyJudged_eq : s.supplyJudged = s.supplyBelow := by
  unfold State.supplyJudged State.supplyBelow
  cases (s.slot 10).freshValue with
  | some v =>
    dsimp only
    split
    · rfl
    · exact Bool.or_false _
  | none =>
    dsimp only
    split
    next h => exact (decide_eq_false (not_not.mpr h)).symm
    next h => exact (decide_eq_true h).symm

theorem deliver_supply : deliver 10 s
    = if s.supplyBelow then (if s.supplyLow then s else raise .supplyLow (zeroGrants s)) else conditionEnds .supplyLow s := by
  rw [← supplyJudged_eq]
  rfl

theorem zeroGrants_grants (k : ZoneId) : ((zeroGrants s).zone k).grant = 0 :=
  (congrArg Zone.grant (six_get_mapZones (fun _ (z : Zone) => { z with grant := 0 }) s.heat.zones k) :)

/-- A supply found low: the alarm, every grant 0, and a drain out of RUN. -/
theorem raise_supplyLow {u : State} (hl : u.condition .supplyLow = false) :
    (raise .supplyLow u).alarm .supplyLow
      = { state := .active, count := min 255 ((u.alarm .supplyLow).count + 1), time := some (u.seconds, .current) }
    ∧ (u.modes.mode ≠ .run → (raise .supplyLow u).modes = u.modes) ∧ (raise .supplyLow u).modes.mode ≠ .run := by
  obtain ⟨w, hw⟩ : ∃ w, w = occurrence .supplyLow .active u := ⟨_, rfl⟩
  have hmodes : w.modes = u.modes := by rw [hw]; rfl
  rw [raise_of_absent hl, show severity .supplyLow = .stop from rfl, ← hw]
  refine ⟨?_, fun hm => ?_, ?_⟩
  · rw [react_stop_marks.supply, hw]
    exact occurrence_alarm_same _ _
  · rw [react_stop_of_not_run (by rw [hmodes]; exact hm), hmodes]
  · by_cases hm : w.modes.mode = .run
    · rw [react_stop_of_run hm]
      rcases (enterDrain_ready_marks (by rw [hm]; decide)).2 with h | h | h <;> rw [h] <;> decide
    · rw [react_stop_of_not_run hm]
      exact hm

end

end Sys2Proof.Machine

end

section
/-! PROOFS. The level estimate and what takes it (R119 to R126, R132 to R134). -/

namespace Sys2Proof.Machine

section
variable {s : State} {v : Int}

/-- The estimate LIVE at a value. -/
def levelTaken (v : Int) (s : State) : State := s.setPot { s.pot with level := some v, standing := .live }

theorem deliver_level_taken (hf : (s.slot 7).standing = .fresh) (hv : (s.slot 7).value = some v) (hm : s.pot.molten = true)
    (hd : s.pot.driveHold = none) : deliver 7 s = feedUpdate v (judgeLevel v (waveAtLevel v (levelTaken v s))) := by
  show deliverLevel s = _
  unfold deliverLevel
  simp only [hf, hv]
  exact if_pos ⟨hm, hd⟩

theorem deliver_level_ignored (hf : (s.slot 7).standing = .fresh) (hi : s.pot.molten = false ∨ s.pot.driveHold ≠ none) :
    deliver 7 s = s := by
  show deliverLevel s = _
  unfold deliverLevel
  simp only [hf]
  cases (s.slot 7).value with
  | none => rfl
  | some w =>
    refine if_neg ?_
    rintro ⟨hm, hd⟩
    rcases hi with h | h
    · rw [h] at hm
      exact nomatch hm
    · exact h hd

theorem deliver_level_not_fresh (hf : (s.slot 7).standing ≠ .fresh) : deliver 7 s
    = { s with pot := { s.pot with standing := if s.pot.standing = .live then .held else s.pot.standing } } := by
  show deliverLevel s = _
  unfold deliverLevel
  dsimp only
  split
  next hs _ => exact absurd hs hf
  next hs _ => exact absurd hs hf
  next => rfl

/-! ### LEVEL_LOW (R126) -/

/-- LEVEL_LOW's condition at a LIVE value. -/
def State.levelLowAt (s : State) (v : Int) : Bool :=
  if s.configured = false then s.condition .levelLow
  else if s.condition .levelLow = true then !decide ((s.param 84 : Int) + 10 < v)
  else decide (v < (s.param 84 : Int))

theorem judgeLevel_of_unconfigured (hc : s.configured = false) : judgeLevel v s = s := by
  unfold judgeLevel
  exact if_pos (by rw [hc]; decide)

theorem judgeLevel_of_low (hc : s.configured = true) (hl : s.condition .levelLow = true) :
    judgeLevel v s = if (s.param 84 : Int) + 10 < v then conditionEnds .levelLow s else s := by
  unfold judgeLevel
  rw [if_neg (not_not.mpr hc)]
  exact if_pos hl

theorem judgeLevel_of_not_low (hc : s.configured = true) (hl : s.condition .levelLow = false) :
    judgeLevel v s = if v < (s.param 84 : Int) then raise .levelLow s else s := by
  unfold judgeLevel
  rw [if_neg (not_not.mpr hc)]
  exact if_neg (by rw [hl]; decide)

/-- LEVEL_LOW is raised, ends, or stays as it is. -/
theorem judgeLevel_cases : (judgeLevel v s = raise .levelLow s ∧ s.condition .levelLow = false ∧ s.levelLowAt v = true)
    ∨ (judgeLevel v s = conditionEnds .levelLow s ∧ s.levelLowAt v = false)
    ∨ (judgeLevel v s = s ∧ s.levelLowAt v = s.condition .levelLow) := by
  unfold State.levelLowAt
  cases hc : s.configured with
  | false => exact .inr (.inr ⟨judgeLevel_of_unconfigured hc, rfl⟩)
  | true =>
    cases hl : s.condition .levelLow with
    | true =>
      rw [judgeLevel_of_low hc hl]
      by_cases h : (s.param 84 : Int) + 10 < v
      · exact .inr (.inl ⟨if_pos h, by simp [h]⟩)
      · exact .inr (.inr ⟨if_neg h, by simp [h]⟩)
    | false =>
      rw [judgeLevel_of_not_low hc hl]
      by_cases h : v < (s.param 84 : Int)
      · exact .inl ⟨if_pos h, rfl, by simp [h]⟩
      · exact .inr (.inr ⟨if_neg h, by simp [h]⟩)

theorem judgeLevel_condition : (judgeLevel v s).condition .levelLow = s.levelLowAt v := by
  rcases judgeLevel_cases (s := s) (v := v) with ⟨h, -, hl⟩ | ⟨h, hl⟩ | ⟨h, hl⟩ <;> rw [h, hl]
  · exact raise_condition (by decide) s
  · exact conditionEnds_condition s

theorem judgeLevel_ground : (judgeLevel v s).ground = s.ground := by
  rcases judgeLevel_cases (s := s) (v := v) with ⟨h, -⟩ | ⟨h, -⟩ | ⟨h, -⟩ <;> rw [h]
  · exact raise_ground s _
  · rfl

/-- LEVEL_LOW that appears leaves no RUN behind. -/
theorem judgeLevel_not_run (hl : s.condition .levelLow = false) (hlow : s.levelLowAt v = true) :
    (judgeLevel v s).modes.mode ≠ .run := by
  rcases judgeLevel_cases (s := s) (v := v) with ⟨h, -⟩ | ⟨-, hn⟩ | ⟨-, hn⟩
  · obtain ⟨w, hw⟩ : ∃ w, w = occurrence .levelLow .active s := ⟨_, rfl⟩
    rw [h, raise_of_absent hl, show severity .levelLow = .stop from rfl, ← hw]
    by_cases hm : w.modes.mode = .run
    · rw [react_stop_of_run hm]
      rcases (enterDrain_ready_marks (by rw [hm]; decide)).2 with h | h | h <;> rw [h] <;> decide
    · rw [react_stop_of_not_run hm]
      exact hm
  · rw [hn] at hlow
    exact nomatch hlow
  · rw [hn, hl] at hlow
    exact nomatch hlow

/-- Where LEVEL_LOW does not appear in RUN, it changes the Alarm Table with its flags alone. -/
theorem judgeLevel_quiet (h : s.condition .levelLow = true ∨ s.levelLowAt v = false ∨ s.modes.mode ≠ .run) :
    (judgeLevel v s).modes = s.modes ∧ (judgeLevel v s).pot = s.pot ∧ (judgeLevel v s).wave = s.wave := by
  rcases judgeLevel_cases (s := s) (v := v) with ⟨he, hl, hlow⟩ | ⟨he, -⟩ | ⟨he, -⟩ <;> rw [he]
  · have hm : s.modes.mode ≠ .run := by
      rcases h with h | h | h
      · rw [h] at hl
        exact nomatch hl
      · rw [h] at hlow
        exact nomatch hlow
      · exact h
    rw [raise_of_absent hl, show severity .levelLow = .stop from rfl, react_stop_of_not_run (s := occurrence .levelLow .active s) hm]
    exact ⟨rfl, rfl, rfl⟩
  · exact ⟨rfl, rfl, rfl⟩
  · exact ⟨rfl, rfl, rfl⟩

theorem judgeLevel_alarm_quiet {j : AlarmKind} (hj : j ≠ .levelLow)
    (h : s.condition .levelLow = true ∨ s.levelLowAt v = false ∨ s.modes.mode ≠ .run) :
    (judgeLevel v s).alarm j = s.alarm j := by
  rcases judgeLevel_cases (s := s) (v := v) with ⟨he, hl, hlow⟩ | ⟨he, -⟩ | ⟨he, -⟩ <;> rw [he]
  · have hm : s.modes.mode ≠ .run := by
      rcases h with h | h | h
      · rw [h] at hl
        exact nomatch hl
      · rw [h] at hlow
        exact nomatch hlow
      · exact h
    rw [raise_of_absent hl, show severity .levelLow = .stop from rfl, react_stop_of_not_run (s := occurrence .levelLow .active s) hm]
    exact occurrence_alarm_other _ _ hj
  · exact conditionEnds_alarm_other _ hj

/-! ### The wave drive at a level (R132 to R134) -/

theorem waveOn_iff {m : Mode} : m.waveOn = true ↔ m = .run ∨ m = .drain ∨ m = .hold := by cases m <;> decide

/-- The pot items after the wave output takes a value (R120, R135). -/
theorem waveSync_pot (u : State) : (waveSync u).pot
    = if u.waveTarget = u.wave.output then u.pot else watchDrive u.driveThreshold u.waveTarget u.pot := by
  unfold waveSync driveWave
  split <;> rfl

theorem driveGap_eq (a b : Nat) : driveGap a b = ((a : Int) - b).natAbs := by
  unfold driveGap
  omega

/-- The drive-change watch by whether the change qualifies (R120). -/
theorem watchDrive_of_qualifies {threshold new : Nat} {p : PotCtl} (h : threshold ≤ ((new : Int) - p.refDrive).natAbs) :
    watchDrive threshold new p
      = { p with refDrive := new, driveHold := some 0, standing := if p.standing = .live then .held else p.standing } :=
  if_pos (by rw [driveGap_eq]; exact h)

theorem watchDrive_of_not {threshold new : Nat} {p : PotCtl} (h : ¬ threshold ≤ ((new : Int) - p.refDrive).natAbs) :
    watchDrive threshold new p = p := if_neg (by rw [driveGap_eq]; exact h)

/-- The computed drive and its side at a level. -/
def State.driveAt (s : State) (v : Int) : Nat × WaveSide :=
  clampDrive s.minDrive (rawDrive (s.wave.cal.pair.getD (0, 0)).1 (s.wave.cal.pair.getD (0, 0)).2
    (s.activeField (·.waveHeight)) (s.param 76) (s.param 77) v)

theorem judgeSide_waveLimit (side : WaveSide) (u : State) : (judgeSide side u).condition .waveLimit = (side != .none) := by
  have hmap : ∀ (f : Record → Record) (w : State), (mapRecords f w).condition .waveLimit = w.condition .waveLimit := fun _ _ => rfl
  have hlimit : (if side = .none then conditionEnds .waveLimit (u.setWave { u.wave with side := side })
      else conditionAppears .waveLimit (u.setWave { u.wave with side := side })).condition .waveLimit = (side != .none) := by
    cases side with
    | none => exact conditionEnds_condition _
    | low => exact conditionAppears_condition _
    | high => exact conditionAppears_condition _
  unfold judgeSide
  dsimp only
  split
  · rw [hmap]
    exact hlimit
  · exact hlimit

theorem computeDrive_waveLimit (u : State) : (computeDrive v u).condition .waveLimit = ((u.driveAt v).2 != .none) := by
  unfold computeDrive
  dsimp only
  rw [condition_congr _ (alarm_of_alarms (waveSync_alarms _))]
  exact judgeSide_waveLimit _ _

/-- The pot items after a computation with the wave on. -/
theorem computeDrive_pot {u : State} (hp : u.pot.molten = true) (hm : u.modes.mode.waveOn = true) : (computeDrive v u).pot
    = if (u.driveAt v).1 = u.wave.output then u.pot else watchDrive u.driveThreshold (u.driveAt v).1 u.pot := by
  obtain ⟨w, hw⟩ : ∃ w, w = (judgeSide (u.driveAt v).2 u).setWave
      { (judgeSide (u.driveAt v).2 u).wave with computed := some (u.driveAt v).1 } := ⟨_, rfl⟩
  have hcompute : computeDrive v u = waveSync w := by rw [hw]; rfl
  have hpot : w.pot = u.pot := hw ▸ judgeSide_pot (u.driveAt v).2 u
  have hmodes : w.modes = u.modes := hw ▸ judgeSide_mode (u.driveAt v).2 u
  have hcomputed : w.wave.computed = some (u.driveAt v).1 := by rw [hw]; rfl
  have houtput : w.wave.output = u.wave.output := by
    rw [hw]
    exact (congrArg Wave.output (judgeSide_wave (u.driveAt v).2 u) :)
  have htarget : w.waveTarget = (u.driveAt v).1 := by
    rw [waveTarget_of_on (by rw [hpot, hp]) (by rw [hmodes, hm]), hcomputed]
    rfl
  have hthreshold : w.driveThreshold = u.driveThreshold := by
    have hfar : w.far = u.far := hw ▸ far_of_quiet (judgeSide_quiet (u.driveAt v).2 u)
    exact param_of_far hfar _
  rw [hcompute, waveSync_pot, htarget, houtput, hthreshold, hpot]

/-! ### The feeder (R122 to R124) -/

theorem feedUpdate_feeder (u : State) : feedUpdate v u = u.setPot { u.pot with feeder := match u.pot.feeder with
    | .running base n =>
      if (u.param 83 : Int) ≤ v then .off
      else if base + (u.param 88 : Int) ≤ v then .running v 0 else .running base n
    | .off => if u.potActive = true ∧ v < (u.param 82 : Int) ∧ u.inForce .feedFault = false then .running v 0 else .off } := by
  unfold feedUpdate
  cases hfeed : u.pot.feeder with
  | running base n =>
    dsimp only
    split
    · rfl
    · split
      · rfl
      · rw [← hfeed]
        rfl
  | off =>
    have hwant : u.feedWanted v = true ↔ u.potActive = true ∧ v < (u.param 82 : Int) ∧ u.inForce .feedFault = false := by
      simp [State.feedWanted, hfeed, and_assoc]
    unfold feedTest
    dsimp only
    by_cases hw : u.feedWanted v = true
    · rw [if_pos hw, if_pos (hwant.mp hw)]
    · rw [if_neg hw, if_neg (fun h => hw (hwant.mpr h)), ← hfeed]
      rfl

end

end Sys2Proof.Machine

end

section
/-! PROOFS. The scanner's part of a control conversion: the cursor, the slot and the reference self-check (R156 to R162). -/

namespace Sys2Proof.Machine

section
variable {s : State} {ch : Nat} {r : Reading}

/-! ### The blocks outside at a conversion -/

/-- Of the blocks outside, the scanner's slots and the reference fault alone change. -/
def SlotsAlone (s t : State) : Prop :=
  t.far = { s.far with scan := { s.scan with slots := t.scan.slots, refFault := t.scan.refFault } }

theorem SlotsAlone.refl (s : State) : SlotsAlone s s := rfl

theorem SlotsAlone.trans {t u : State} (h : SlotsAlone s t) (h' : SlotsAlone t u) : SlotsAlone s u := by
  have hscan : t.scan = _ := congrArg Far.scan h
  unfold SlotsAlone at *
  rw [h', h, hscan]

theorem SlotsAlone.of_far {t u : State} (h : SlotsAlone s t) (hf : u.far = t.far) : SlotsAlone s u := by
  have hscan : u.scan = t.scan := congrArg Far.scan hf
  unfold SlotsAlone
  rw [hscan, hf]
  exact h

theorem setSlot_alone (x : Slot) : SlotsAlone s (s.setSlot ch x) := rfl

theorem markStale_alone (p : Nat → Slot → Bool) : SlotsAlone s (markStale p s) := by
  refine SlotsAlone.of_far ?_ (markStale_far (s := s) p)
  unfold SlotsAlone
  rw [markSlots_eq]
  rfl

/-- The slot that a conversion writes, before its owner is told. -/
def stored (ch : Nat) (x : Option (Option Int × Standing)) (s : State) : State :=
  match x with
  | some (v, st) => s.setSlot ch { value := v, standing := st, refreshed := some s.uptime }
  | none => s

theorem stored_alone (x : Option (Option Int × Standing)) : SlotsAlone s (stored ch x s) := by
  unfold stored
  split
  · exact setSlot_alone _
  · exact .refl s

/-- A conversion by its result: the slot, and its delivery. -/
theorem convert_of_sound (h : ch ≠ 15) (hf : s.scan.refFault = false) : convert ch r s = (match s.resultOf ch r with
    | some (v, st) => deliver ch (s.setSlot ch { value := v, standing := st, refreshed := some s.uptime })
    | none => s) := by
  unfold convert
  rw [if_neg h, hf]
  rfl

theorem convert_of_fault (h : ch ≠ 15) (hf : s.scan.refFault = true) : convert ch r s = s := by
  unfold convert
  rw [if_neg h, hf]
  rfl

theorem convert_sound_far (h : ch ≠ 15) (hf : s.scan.refFault = false) :
    (convert ch r s).far = (stored ch (s.resultOf ch r) s).far := by
  rw [convert_of_sound h hf]
  unfold stored
  split
  · exact deliver_far _ _
  · rfl

/-- The conversion of channel 15 by its reading: the slot, and the self-check. -/
theorem convert_reference : convert 15 r s
    = checkReference (spanValue 15 r) (stored 15 ((spanValue 15 r).map fun v => (some v, .fresh)) s) := by
  unfold convert
  rw [if_pos rfl]
  cases spanValue 15 r <;> rfl

/-- The self-check as the fault stands and is found. -/
theorem checkReference_sound {v : Option Int} (h : referenceOut v = false) :
    checkReference v s = s.setScan { s.scan with refFault := false } := if_neg (by rw [h]; decide)

theorem checkReference_again {v : Option Int} (h : referenceOut v = true) (hf : s.scan.refFault = true) :
    checkReference v s = s := (if_pos h).trans (if_pos hf)

theorem checkReference_found {v : Option Int} (h : referenceOut v = true) (hf : s.scan.refFault = false) :
    checkReference v s = markStale (fun ch _ => ch != 15) (s.setScan { s.scan with refFault := true }) :=
  (if_pos h).trans (if_neg (by rw [hf]; decide))

theorem checkReference_alone (v : Option Int) : SlotsAlone s (checkReference v s) := by
  have hfault : ∀ b, SlotsAlone s (s.setScan { s.scan with refFault := b }) := fun _ => rfl
  cases h : referenceOut v with
  | false =>
    rw [checkReference_sound h]
    exact hfault _
  | true =>
    cases hf : s.scan.refFault with
    | true =>
      rw [checkReference_again h hf]
      exact .refl s
    | false =>
      rw [checkReference_found h hf]
      exact (hfault true).trans (markStale_alone _)

theorem convert_alone : SlotsAlone s (convert ch r s) := by
  by_cases h : ch = 15
  · rw [h, convert_reference]
    exact (stored_alone _).trans (checkReference_alone _)
  · cases hf : s.scan.refFault with
    | true =>
      rw [convert_of_fault h hf]
      exact .refl s
    | false => exact (stored_alone _).of_far (convert_sound_far h hf)

/-! ### The slots after the self-check (R160, R162) -/

/-- The channels that a reference fault marks are those other than 15. -/
theorem reference_slot (u : State) (c : Nat) : (markStale (fun ch _ => ch != 15) u).slot c
    = if c < 15 then { u.slot c with standing := .stale } else u.slot c := by
  have hscan : (markStale (fun ch _ => ch != 15) u).scan = (markSlots (u.staleMarked (fun ch _ => ch != 15)) u).scan :=
    congrArg Far.scan (markStale_far _)
  have hslot : (markStale (fun ch _ => ch != 15) u).slot c = (markSlots (u.staleMarked (fun ch _ => ch != 15)) u).slot c := by
    unfold State.slot
    rw [hscan]
  have hmem : c ∈ u.staleMarked (fun ch _ => ch != 15) ↔ c < 15 ∧ (u.slot c).standing ≠ .stale := by
    unfold State.staleMarked
    simp only [List.mem_filter, Bool.or_eq_true, Bool.and_eq_true, decide_eq_true_iff, beq_iff_eq, bne_iff_ne, ne_eq]
    have hrange : c ∈ allChannels ↔ c < 16 := List.mem_range
    rw [hrange]
    constructor
    · rintro ⟨hlt, ⟨hst, hne⟩ | ⟨⟨-, hle⟩, hfr⟩⟩
      · exact ⟨lt_of_le_of_ne (Nat.le_of_lt_succ hlt) hne, hst⟩
      · refine ⟨lt_of_le_of_lt hle (by decide), ?_⟩
        rw [hfr]
        decide
    · rintro ⟨hlt, hst⟩
      exact ⟨by omega, .inl ⟨hst, by omega⟩⟩
  rw [hslot, slot_markSlots]
  by_cases hlt : c < 15
  · rw [if_pos hlt]
    by_cases hst : (u.slot c).standing = .stale
    · rw [if_neg (fun h => (hmem.mp h).2 hst), ← hst]
    · rw [if_pos (hmem.mpr ⟨hlt, hst⟩)]
  · rw [if_neg hlt, if_neg (fun h => hlt (hmem.mp h).1)]

/-- The slot of channel 15 is the one just stored, whatever the self-check finds. -/
theorem checkReference_slot (v : Option Int) : (checkReference v s).slot 15 = s.slot 15 := by
  cases h : referenceOut v with
  | false =>
    rw [checkReference_sound h]
    rfl
  | true =>
    cases hf : s.scan.refFault with
    | true => rw [checkReference_again h hf]
    | false =>
      rw [checkReference_found h hf, reference_slot]
      rfl

theorem checkReference_refFault (v : Option Int) : (checkReference v s).scan.refFault = referenceOut v := by
  cases h : referenceOut v with
  | false =>
    rw [checkReference_sound h]
    rfl
  | true =>
    cases hf : s.scan.refFault with
    | true => rw [checkReference_again h hf, hf]
    | false =>
      have hscan : ∀ u : State, (markStale (fun ch _ => ch != 15) u).scan.refFault = u.scan.refFault := fun u => by
        have hmarked : (markStale (fun ch _ => ch != 15) u).scan = (markSlots (u.staleMarked (fun ch _ => ch != 15)) u).scan :=
          congrArg Far.scan (markStale_far _)
        rw [hmarked, markSlots_eq]
      rw [checkReference_found h hf, hscan]
      rfl

theorem stored_other {c : Nat} (h : c ≠ ch) (x : Option (Option Int × Standing)) : (stored ch x s).slot c = s.slot c := by
  unfold stored
  split
  · exact slot_setSlot_other _ _ _ _ h
  · rfl

theorem spanValue_reference {v : Int} (h : r.value = some v) (hl : 39200 ≤ v) (hh : v ≤ 40800) : spanValue 15 r = some v := by
  rw [spanValue_eq, h, Option.filter_some]
  exact if_pos (decide_eq_true (.inr (by omega)))

theorem referenceOut_span (h : ∀ v, r.value = some v → v < 39200 ∨ 40800 < v) : referenceOut (spanValue 15 r) = true := by
  cases hs : spanValue 15 r with
  | none => rfl
  | some v =>
    rw [spanValue_eq] at hs
    have hv := h v (Option.eq_some_of_filter_eq_some hs)
    unfold referenceOut
    simpa using hv

end

end Sys2Proof.Machine

end

section
/-! PROOFS. The end of a control conversion, and what the owners do with it (R94 to R96, R107, R119 to R126, R156 to R162). -/

namespace Sys2Proof.Machine

/-! ### The conversion at the scanner -/

section
variable {s : State} {r : Reading}

theorem controlConversion_of_other (h : s.scan.activity ≠ .control) : controlConversion r s = s := if_neg h

theorem controlConversion_of_control (h : s.scan.activity = .control) :
    controlConversion r s = convert s.scan.cursor r (moveScan s) := if_pos h

/-- A conversion's result depends on the slot of channel 13 alone. -/
theorem resultOf_moveScan (ch : Nat) : (moveScan s).resultOf ch r = s.resultOf ch r := rfl

/-- The scanner's items after a control conversion that are not slots. -/
theorem controlConversion_alone (h : s.scan.activity = .control) : SlotsAlone (moveScan s) (admissionTest (controlConversion r s)) := by
  rw [controlConversion_of_control h]
  exact convert_alone.of_far (admissionTest_far _)

theorem controlConversion_scan (h : s.scan.activity = .control) :
    (admissionTest (controlConversion r s)).scan = (convert s.scan.cursor r (moveScan s)).scan := by
  rw [controlConversion_of_control h]
  exact admissionTest_scan _

theorem controlConversion_slot (h : s.scan.activity = .control) (c : Nat) :
    (admissionTest (controlConversion r s)).slot c = (convert s.scan.cursor r (moveScan s)).slot c := by
  unfold State.slot
  rw [controlConversion_scan h]

/-- The slots and the reference fault after a conversion of another channel than 15. -/
theorem convert_scan (h : s.scan.cursor ≠ 15) :
    (convert s.scan.cursor r (moveScan s)).scan = if s.scan.refFault = true then (moveScan s).scan
      else (stored s.scan.cursor (s.resultOf s.scan.cursor r) (moveScan s)).scan := by
  cases hf : s.scan.refFault with
  | true =>
    rw [convert_of_fault (s := moveScan s) h hf]
    rfl
  | false => exact (congrArg Far.scan (convert_sound_far (s := moveScan s) h hf) :)

/-- The slots of a result that is stored. -/
theorem stored_slots {ch : Nat} {v : Option Int} {st : Standing} (h : s.resultOf ch r = some (v, st)) :
    (stored ch (s.resultOf ch r) (moveScan s)).scan.slots
      = s.scan.slots.set ch { value := v, standing := st, refreshed := some s.uptime } := by
  rw [h]
  rfl

theorem stored_none {ch : Nat} (h : s.resultOf ch r = none) : (stored ch (s.resultOf ch r) (moveScan s)).scan.slots = s.scan.slots := by
  rw [h]
  rfl

/-! ### The slots by the channel -/

/-- The slot's list with the converted channel refreshed. -/
def State.put (s : State) (v : Option Int) (st : Standing) : List Slot :=
  s.scan.slots.set s.scan.cursor { value := v, standing := st, refreshed := some s.uptime }

section
variable (ha : s.scan.activity = .control) (hc : s.scan.cursor ≠ 15)
include ha hc

theorem conversion_refFault : (admissionTest (controlConversion r s)).scan.refFault = s.scan.refFault := by
  rw [controlConversion_scan ha, convert_scan hc]
  split
  · rfl
  · unfold stored
    split <;> rfl

theorem conversion_slots_fault (hf : s.scan.refFault = true) :
    (admissionTest (controlConversion r s)).scan.slots = s.scan.slots := by
  rw [controlConversion_scan ha, convert_scan hc, if_pos hf]
  rfl

variable (hf : s.scan.refFault = false)
include hf

theorem conversion_slots_some {v : Option Int} {st : Standing} (h : s.resultOf s.scan.cursor r = some (v, st)) :
    (admissionTest (controlConversion r s)).scan.slots = s.put v st := by
  rw [controlConversion_scan ha, convert_scan hc, if_neg (by rw [hf]; decide)]
  exact stored_slots h

theorem conversion_slots_none (h : s.resultOf s.scan.cursor r = none) :
    (admissionTest (controlConversion r s)).scan.slots = s.scan.slots := by
  rw [controlConversion_scan ha, convert_scan hc, if_neg (by rw [hf]; decide)]
  exact stored_none h

/-- Without a reference fault the owner is told of the slot that the result has refreshed. -/
theorem conversion_delivers : admissionTest (controlConversion r s) = admissionTest (match s.resultOf s.scan.cursor r with
    | some (v, st) => deliver s.scan.cursor { s with scan := { (moveScan s).scan with slots := s.put v st } }
    | none => moveScan s) := by
  rw [controlConversion_of_control ha, convert_of_sound (s := moveScan s) hc hf, resultOf_moveScan]
  cases s.resultOf s.scan.cursor r <;> rfl

end

/-! ### Channel 15 (R162) -/

section
variable (ha : s.scan.activity = .control) (hc : s.scan.cursor = 15)
include ha hc

omit ha in
theorem reference_conversion : convert s.scan.cursor r (moveScan s) = checkReference (spanValue 15 r)
    (stored 15 ((spanValue 15 r).map fun v => (some v, .fresh)) (moveScan s)) := by
  rw [hc]
  exact convert_reference

theorem reference_sound {v : Int} (hv : r.value = some v) (hl : 39200 ≤ v) (hh : v ≤ 40800) :
    (admissionTest (controlConversion r s)).scan.refFault = false
      ∧ (admissionTest (controlConversion r s)).scan.slots = s.put (some v) .fresh := by
  have hout : referenceOut (some v) = false := by simp [referenceOut, hl, hh]
  rw [controlConversion_scan ha, reference_conversion hc, spanValue_reference hv hl hh, checkReference_sound hout]
  refine ⟨rfl, ?_⟩
  unfold State.put
  rw [hc]
  rfl

theorem reference_slot_some {v : Int} (hlen : s.scan.slots.length = 16) (hv : spanValue 15 r = some v) :
    (admissionTest (controlConversion r s)).slot 15 = { value := some v, standing := .fresh, refreshed := some s.uptime } := by
  have hlen' : 15 < (moveScan s).scan.slots.length := by
    show 15 < s.scan.slots.length
    omega
  rw [controlConversion_slot ha, reference_conversion hc, checkReference_slot, hv]
  exact slot_setSlot_same hlen'

theorem reference_slot_none (hv : spanValue 15 r = none) : (admissionTest (controlConversion r s)).slot 15 = s.slot 15 := by
  rw [controlConversion_slot ha, reference_conversion hc, checkReference_slot, hv]
  rfl

theorem reference_fault (hv : ∀ v, r.value = some v → v < 39200 ∨ 40800 < v) :
    (admissionTest (controlConversion r s)).scan.refFault = true
      ∧ (s.scan.refFault = false → ∀ c, c < 15 →
        (admissionTest (controlConversion r s)).slot c = { s.slot c with standing := .stale }) := by
  have hout := referenceOut_span hv
  refine ⟨?_, fun hf c hlt => ?_⟩
  · rw [controlConversion_scan ha, reference_conversion hc, checkReference_refFault, hout]
  · have hfault : (stored 15 ((spanValue 15 r).map fun v => (some v, .fresh)) (moveScan s)).scan.refFault = false := by
      refine Eq.trans ?_ hf
      cases spanValue 15 r <;> rfl
    have hslot : (stored 15 ((spanValue 15 r).map fun v => (some v, .fresh)) (moveScan s)).slot c = s.slot c :=
      stored_other (by omega) _
    rw [controlConversion_slot ha, reference_conversion hc, checkReference_found hout hfault, reference_slot, if_pos hlt]
    exact congrArg (fun x : Slot => { x with standing := .stale }) hslot

end

/-! ### A zone's channel in READY -/

theorem zoneIndex_le (k : ZoneId) : zoneIndex k ≤ 5 := by cases k <;> decide

theorem conversion_in_ready {k : ZoneId} {v c : Int} (ha : s.scan.activity = .control) (hm : s.modes.mode = .ready)
    (hk : s.scan.cursor = zoneIndex k) (hf : s.scan.refFault = false) (hlen : s.scan.slots.length = 16)
    (ho : r.circuitOpen = false) (hv : r.value = some v) (hcomp : (s.slot 13).freshValue = some c) (hactive : s.zoneActive k = true)
    (hover : s.anyOver = false) (hle : ∀ x, s.overReference k = some x → v + c ≤ x + s.zoneMargin k) :
    ((admissionTest (controlConversion r s)).zone k).loop = ((zoneLooped k (v + c) s).zone k).loop := by
  have hlow := zoneIndex_le k
  have hresult : s.resultOf s.scan.cursor r = some (some (v + c), .fresh) :=
    resultOf_compensated (by omega) ho ((spanValue_of_low (by omega) r).trans hv) hcomp
  obtain ⟨u, hu⟩ : ∃ u, u = { s with scan := { (moveScan s).scan with slots := s.put (some (v + c)) .fresh } } := ⟨_, rfl⟩
  have hdeliver : admissionTest (controlConversion r s) = admissionTest (deliver (zoneIndex k) u) := by
    rw [conversion_delivers ha (by omega) hf, hresult, hu, hk]
  have hslot : u.slot (zoneIndex k) = { value := some (v + c), standing := .fresh, refreshed := some s.uptime } := by
    have hlt : zoneIndex k < s.scan.slots.length := by omega
    rw [hu, ← hk]
    rw [← hk] at hlt
    exact (slot_setSlot_same hlt :)
  have hmarks : ∀ j, (s.zone j).overMark = false := fun j => by
    unfold State.anyOver at hover
    rw [List.any_eq_false] at hover
    exact Bool.eq_false_of_not_eq_true (hover j (by cases j <;> decide))
  have huactive : u.zoneActive k = true := by rw [hu]; exact hactive
  have hloop := (deliverZone_fresh_loop (s := u) (k := k) (v := v + c) (by rw [hslot]) (by rw [hslot])
    huactive (by rw [hu]; exact hmarks) (by rw [hu]; exact hle) (.inl (by rw [hu]; exact hm ▸ by decide))).2
  rw [hdeliver, admissionTest_zone, hloop, zoneLooped_zone huactive, zoneLooped_zone hactive, hu]
  rfl

end

end Sys2Proof.Machine

end

section
/-! PROOFS. The end of a control conversion, put together (R94 to R96, R104, R105, R107, R119 to R126, R156 to R162). -/

namespace Sys2Proof.Machine

section
variable {s : State} {v : Int}

/-! ### The loops as the statement computes them -/

theorem zoneLooped_computed {k : ZoneId} {t : State} (ha : s.zoneActive k = true)
    (h : (t.zone k).loop = ((zoneLooped k v s).zone k).loop) :
    let z := s.zone k
    let p := s.zoneParams k
    let e := max (-500) (min 500 (s.zoneWorking k - v))
    let d := (max 0 (min 255 (Int.tdiv (p.kp * e) 64 + Int.tdiv (p.ki * z.integral) 1024 + z.boost))).toNat
    (t.zone k).demand = d ∧ (t.zone k).integral
      = if s.supplyLow = true ∨ (0 < e ∧ (d = 255 ∨ z.cut = true)) then z.integral
        else (max 0 (min (p.iMax : Int) (z.integral + e))).toNat := by
  have hdemand : (t.zone k).demand = _ := congrArg (·.1) h
  have hintegral : (t.zone k).integral = _ := congrArg (·.2.1) h
  intro z p e d
  have hd : loopDemand p (loopError (s.zoneWorking k) v) z.integral z.boost = d := by rw [loopDemand_eq, loopError_eq]
  refine ⟨?_, ?_⟩
  · rw [hdemand, zoneLooped_zone ha]
    exact hd
  · rw [hintegral, zoneLooped_zone ha]
    show loopIntegral p _ z.integral (loopDemand p _ z.integral z.boost) z.cut s.supplyLow = _
    rw [hd, loopIntegral_eq, loopError_eq]

theorem pot_computed (hf : (s.slot 6).standing = .fresh) (hv : (s.slot 6).value = some v) (ha : s.potActive = true)
    (ht : s.heat.pot.tripInput = false) (hc : v ≤ (s.param 74 : Int)) (hk : s.pot.molten = false ∨ (s.meltSafe : Int) - 50 ≤ v) :
    let z := s.heat.pot
    let p := s.potParams
    let e := max (-500) (min 500 ((s.potSetpoint : Int) - v))
    let d := (max 0 (min 255 (Int.tdiv (p.kp * e) 64 + Int.tdiv (p.ki * z.integral) 1024))).toNat
    (deliver 6 s).heat.pot.demand = d ∧ (deliver 6 s).heat.pot.integral
      = if s.supplyLow = true ∨ (0 < e ∧ (d = 255 ∨ z.cut = true)) then z.integral
        else (max 0 (min (p.iMax : Int) (z.integral + e))).toNat := by
  intro z p e d
  have hd : loopDemand p (loopError s.potSetpoint v) z.integral 0 = d := by
    rw [loopDemand_eq, loopError_eq, Nat.cast_zero, add_zero]
  rw [deliver_pot_fresh hf hv ha ht hc hk, potLooped_pot ha]
  refine ⟨hd, ?_⟩
  show loopIntegral p _ z.integral (loopDemand p _ z.integral 0) z.cut s.supplyLow = _
  rw [hd, loopIntegral_eq, loopError_eq]

/-! ### The level and what takes it -/

/-- The state once the wave drive has taken the level. -/
def levelDriven (v : Int) (s : State) : State := waveAtLevel v (levelTaken v s)

theorem levelDriven_far : (levelDriven v s).far = s.far := (waveAtLevel_far v (levelTaken v s)).trans rfl

theorem levelDriven_modes : (levelDriven v s).modes = s.modes := by
  unfold levelDriven waveAtLevel
  split
  · exact (congrArg Quiet.modes (computeDrive_quiet v (levelTaken v s)) :)
  · rfl

theorem levelDriven_off (h : s.modes.mode.waveOn = false) : levelDriven v s = levelTaken v s :=
  if_neg (by rw [show (levelTaken v s).modes = s.modes from rfl, h]; decide)

theorem levelDriven_on (h : s.modes.mode.waveOn = true) : levelDriven v s = computeDrive v (levelTaken v s) := if_pos h

theorem levelDriven_alarm {j : AlarmKind} (hj : j ≠ .waveLimit) : (levelDriven v s).alarm j = s.alarm j := by
  cases h : s.modes.mode.waveOn with
  | true =>
    rw [levelDriven_on h]
    exact (computeDrive_alarm _ hj v).trans rfl
  | false =>
    rw [levelDriven_off h]
    rfl

theorem levelDriven_low : (levelDriven v s).levelLowAt v = s.levelLowAt v := by
  have hcond : (levelDriven v s).condition .levelLow = s.condition .levelLow := condition_congr s (levelDriven_alarm (by decide))
  unfold State.levelLowAt
  rw [hcond, configured_of_far levelDriven_far, param_of_far levelDriven_far]

/-- The pot items once the wave drive has taken the level: a qualifying change of the drive starts the hold. -/
theorem levelDriven_pot (hm : s.pot.molten = true) : (levelDriven v s).pot = if s.modes.mode.waveOn = true
    ∧ (s.driveAt v).1 ≠ s.wave.output ∧ s.driveThreshold ≤ (((s.driveAt v).1 : Int) - s.pot.refDrive).natAbs
    then { s.pot with level := some v, standing := .held, refDrive := (s.driveAt v).1, driveHold := some 0 }
    else { s.pot with level := some v, standing := .live } := by
  cases h : s.modes.mode.waveOn with
  | false =>
    rw [levelDriven_off h, if_neg (fun hn => nomatch hn.1)]
    rfl
  | true =>
    rw [levelDriven_on h]
    refine (computeDrive_pot (u := levelTaken v s) hm h).trans ?_
    show (if (s.driveAt v).1 = s.wave.output then (levelTaken v s).pot
      else watchDrive s.driveThreshold (s.driveAt v).1 (levelTaken v s).pot) = _
    by_cases ho : (s.driveAt v).1 = s.wave.output
    · rw [if_pos ho, if_neg (fun hn => hn.2.1 ho)]
      rfl
    · rw [if_neg ho]
      by_cases hq : s.driveThreshold ≤ (((s.driveAt v).1 : Int) - s.pot.refDrive).natAbs
      · rw [if_pos ⟨rfl, ho, hq⟩]
        exact watchDrive_of_qualifies hq
      · rw [if_neg (fun hn => hq hn.2.2)]
        exact watchDrive_of_not hq

theorem levelDriven_feeder (hm : s.pot.molten = true) : (levelDriven v s).pot.feeder = s.pot.feeder := by
  rw [levelDriven_pot hm]
  split <;> rfl

section
variable (hf : (s.slot 7).standing = .fresh) (hv : (s.slot 7).value = some v) (hm : s.pot.molten = true) (hd : s.pot.driveHold = none)
include hf hv hm hd

theorem deliver_level_eq : deliver 7 s = feedUpdate v (judgeLevel v (levelDriven v s)) := deliver_level_taken hf hv hm hd

/-- The value and LEVEL_LOW. -/
theorem deliver_level_judged : (deliver 7 s).pot.level = some v ∧ (deliver 7 s).condition .levelLow = s.levelLowAt v
    ∧ (s.condition .levelLow = false → s.levelLowAt v = true → (deliver 7 s).modes.mode ≠ .run) := by
  have hcond : (levelDriven v s).condition .levelLow = s.condition .levelLow := condition_congr s (levelDriven_alarm (by decide))
  rw [deliver_level_eq hf hv hm hd, feedUpdate_feeder]
  refine ⟨?_, ?_, fun hl hlow => ?_⟩
  · refine (level_of_ground (judgeLevel_ground (s := levelDriven v s))).trans ?_
    rw [levelDriven_pot hm]
    split <;> rfl
  · exact (judgeLevel_condition (s := levelDriven v s)).trans levelDriven_low
  · exact judgeLevel_not_run (s := levelDriven v s) (hcond.trans hl) (levelDriven_low.trans hlow)

variable (hq : s.condition .levelLow = true ∨ s.levelLowAt v = false ∨ s.modes.mode ≠ .run)
include hq

/-- What stands after a LIVE value where LEVEL_LOW does not end RUN. -/
theorem deliver_level_quiet : (deliver 7 s).modes = s.modes ∧ (deliver 7 s).wave = (levelDriven v s).wave
    ∧ (deliver 7 s).condition .waveLimit = (levelDriven v s).condition .waveLimit
    ∧ (deliver 7 s).pot = { (levelDriven v s).pot with feeder := match s.pot.feeder with
        | .running base n =>
          if (s.param 83 : Int) ≤ v then .off
          else if base + (s.param 88 : Int) ≤ v then .running v 0 else .running base n
        | .off => if s.potActive = true ∧ v < (s.param 82 : Int) ∧ s.inForce .feedFault = false then .running v 0 else .off } := by
  obtain ⟨w, hw⟩ : ∃ w, w = judgeLevel v (levelDriven v s) := ⟨_, rfl⟩
  have hcond : (levelDriven v s).condition .levelLow = s.condition .levelLow := condition_congr s (levelDriven_alarm (by decide))
  have hq' : (levelDriven v s).condition .levelLow = true ∨ (levelDriven v s).levelLowAt v = false
      ∨ (levelDriven v s).modes.mode ≠ .run := by rwa [hcond, levelDriven_low, levelDriven_modes]
  obtain ⟨hmodes, hpot, hwave⟩ := judgeLevel_quiet hq'
  have hlimit : w.condition .waveLimit = (levelDriven v s).condition .waveLimit := by
    rw [hw]
    exact condition_congr _ (judgeLevel_alarm_quiet (by decide) hq')
  have hfault : w.inForce .feedFault = s.inForce .feedFault := by
    unfold State.inForce
    rw [hw, judgeLevel_alarm_quiet (by decide) hq', levelDriven_alarm (by decide)]
  rw [← hw] at hmodes hpot hwave
  have hfar : w.far = s.far := by
    rw [hw]
    exact (judgeLevel_far v _).trans levelDriven_far
  have hactive : w.potActive = s.potActive := potActive_of_modes (hmodes.trans levelDriven_modes)
  rw [deliver_level_eq hf hv hm hd, ← hw, feedUpdate_feeder]
  refine ⟨hmodes.trans levelDriven_modes, hwave, hlimit, ?_⟩
  rw [param_of_far hfar, param_of_far hfar, param_of_far hfar, hactive, hfault, hpot, levelDriven_feeder hm]
  rfl

end

end

end Sys2Proof.Machine

end

section
/-! PROOFS. The statement of the control conversion and its owners (R94 to R96, R104, R105, R107, R119 to R126, R156 to R162). -/

namespace Sys2Proof.Machine

section
variable {s : State} {r : Reading}

/-- The result of a conversion in the statement's terms. -/
theorem resultOf_eq (ch : Nat) : s.resultOf ch r = if ch ≤ 6 then
      if r.circuitOpen then some (none, .opened)
      else match r.value, (s.slot 13).freshValue with
        | some v, some c => some (some (v + c), .fresh)
        | _, _ => none
    else (r.value.filter (fun v => decide (ch < 14 ∨ (0 < v ∧ v < 65535)))).map (fun v => (some v, .fresh)) := by
  rw [← spanValue_eq]
  unfold State.resultOf
  by_cases hle : ch ≤ 6
  · have hv : spanValue ch r = r.value := spanValue_of_low (by omega) r
    refine (if_pos hle).trans (Eq.trans ?_ (if_pos hle).symm)
    exact hv ▸ rfl
  · exact (if_neg hle).trans (if_neg hle).symm

/-- The scanner's part of a control conversion. -/
theorem conversion_scanned (ha : s.scan.activity = .control) : let t := admissionTest (controlConversion r s)
    (t.store = s.store ∧ t.link = s.link ∧ t.reports = s.reports ∧ t.uptime = s.uptime ∧ t.freeIndex = s.freeIndex)
    ∧ t.scan.cursor = (if s.scan.rescan then s.scanStart
        else if s.scan.cursor = s.scanEnd then s.scanStart else (s.scan.cursor + 1) % 16)
    ∧ t.scan.rescan = false ∧ t.scan.single = s.scan.single ∧ t.scan.burnout = s.scan.burnout
    ∧ t.scan.activity = (if s.scan.single.isSome then .single else .control) := by
  intro t
  have halone : t.far = _ := controlConversion_alone ha
  have hscan : t.scan = _ := congrArg Far.scan halone
  refine ⟨⟨(congrArg Far.store halone :), (congrArg Far.link halone :), (congrArg Far.reports halone :),
    (congrArg Far.uptime halone :), (congrArg Far.freeIndex halone :)⟩, ?_, ?_, ?_, ?_, ?_⟩
  · exact (congrArg Scanner.cursor hscan :)
  · exact (congrArg Scanner.rescan hscan :)
  · exact (congrArg Scanner.single hscan :)
  · exact (congrArg Scanner.burnout hscan :)
  · exact (congrArg Scanner.activity hscan :)

end

/-- Settles O42: the conversion by its channel, and each owner by the standing of its slot. -/
theorem controlConversionEnds : Obligations.ControlConversionEnds := by
  refine ⟨fun r s => ⟨fun h => ?_, fun ha => ⟨admissionTest (controlConversion r s), rfl, ?_⟩⟩, fun k s => ?zone, fun s => ?pot,
    fun s => ?level, fun s => ?supply⟩
  · exact congrArg (fun u => Host.Outcome.next (admissionTest u)) (controlConversion_of_other h)
  · obtain ⟨⟨hstore, hlink, hreports, huptime, hfree⟩, hcursor, hrescan, hsingle, hburnout, hactivity⟩ :=
      conversion_scanned (r := r) ha
    refine ⟨hstore, hlink, hreports, huptime, hfree, hcursor, hrescan, hsingle, hburnout, hactivity,
      ⟨fun hc => ⟨conversion_refFault ha hc, conversion_slots_fault ha hc, fun hf => ⟨fun hle ho => ?_, fun v c hle ho hv hcomp => ?_,
        fun hle ho hcomp => ?_, fun v hlt hv => ?_, fun hcl hv => ?_⟩⟩,
        fun hc => ⟨fun v hv hl hh => reference_sound ha hc hv hl hh, fun hlen => ⟨fun v hv => ?_, fun hv => ?_⟩,
          reference_fault ha hc⟩, fun hc hf => ?_⟩, ?_⟩
    · exact conversion_slots_some ha hc hf (resultOf_open hle ho)
    · exact conversion_slots_some ha hc hf (resultOf_compensated hle ho ((spanValue_of_low (by omega) r).trans hv) hcomp)
    · exact conversion_slots_none ha hc hf (resultOf_uncompensated hle ho hcomp)
    · exact conversion_slots_some ha hc hf (resultOf_plain hlt ((spanValue_eq _ r).trans hv))
    · exact conversion_slots_none ha hc hf (resultOf_out_of_span hcl ((spanValue_eq _ r).trans hv))
    · refine reference_slot_some ha hc hlen ((spanValue_eq 15 r).trans ?_)
      rw [← hc]
      exact hv
    · refine reference_slot_none ha hc ((spanValue_eq 15 r).trans ?_)
      rw [← hc]
      exact hv
    · have hdelivers := conversion_delivers (r := r) ha hc hf
      rw [resultOf_eq s.scan.cursor] at hdelivers
      rw [hactivity, hcursor]
      exact hdelivers
    · intro k v c x hm hk hf hlen ho hv hcomp hactive hover hx hle
      refine zoneLooped_computed hactive (conversion_in_ready ha hm hk hf hlen ho hv hcomp hactive hover fun y hy => ?_)
      rw [hx] at hy
      cases hy
      exact hle
  case zone =>
    intro x t watched sensor keepsOver cut
    refine ⟨fun h => ?_, fun h => ?_, fun v h hv => ⟨deliverZone_fresh_sensor h hv, fun hun => ?_, fun reference hm hw hx => ?_,
      fun hactive hover hle hclosed => ?_⟩⟩
    · obtain ⟨hsensor, hmarks, hcut⟩ := deliverZone_opened_taken h
      exact ⟨hsensor, hmarks.over, hcut⟩
    · obtain ⟨hlast, hmarks, hcut, hcond⟩ := deliverZone_stale_taken h
      exact ⟨hlast, hmarks.over, hcut, hcond⟩
    · exact ((deliverZone_fresh_over h hv).1 hun).over
    · exact (deliverZone_fresh_over h hv).2 reference hm hw hx
    · obtain ⟨hmode, hloop⟩ := deliverZone_fresh_loop h hv hactive hover hle (.inr hclosed)
      exact ⟨hmode, zoneLooped_computed hactive hloop⟩
  case pot =>
    exact ⟨deliver_pot_cut, fun v hf hv ha ht hc hk => pot_computed hf hv ha ht hc hk⟩
  case level =>
    refine ⟨deliver_level_not_fresh, deliver_level_ignored, fun v hf hv hm hd => ?_⟩
    intro low waveOn
    obtain ⟨hlevel, hlow, hrun⟩ := deliver_level_judged hf hv hm hd
    refine ⟨hlevel, hlow, hrun, fun hq => ?_⟩
    obtain ⟨hmodes, hwave, hlimit, hpot⟩ := deliver_level_quiet hf hv hm hd hq
    refine ⟨hmodes, congrArg PotCtl.feeder hpot, fun hoff => ?_, fun hon => ?_⟩
    · have hoff' : s.modes.mode.waveOn = false := Bool.eq_false_of_not_eq_true fun h => hoff (waveOn_iff.mp h)
      have hstanding : (levelDriven v s).pot.standing = .live := by rw [levelDriven_off hoff']; rfl
      refine ⟨(congrArg PotCtl.standing hpot).trans hstanding, hwave.trans ?_⟩
      rw [levelDriven_off hoff']
      rfl
    · intro pair d qualifies
      have hon' : s.modes.mode.waveOn = true := waveOn_iff.mpr hon
      have hdriven := computeDrive_wave v (levelTaken v s) hm hon'
      have hside := computeDrive_waveLimit (v := v) (levelTaken v s)
      rw [← levelDriven_on hon', ← hwave] at hdriven
      rw [← levelDriven_on hon', ← hlimit] at hside
      refine ⟨congrArg Wave.computed hdriven, congrArg Wave.output hdriven, congrArg Wave.side hdriven, hside, fun hq => ?_, fun hq => ?_⟩
      · have hdrive := levelDriven_pot (v := v) hm
        rw [if_pos ⟨hon', hq⟩] at hdrive
        rw [hdrive] at hpot
        exact ⟨congrArg PotCtl.standing hpot, congrArg PotCtl.refDrive hpot, congrArg PotCtl.driveHold hpot⟩
      · have hdrive := levelDriven_pot (v := v) hm
        rw [if_neg (fun h => hq h.2)] at hdrive
        rw [hdrive] at hpot
        have hhold : (deliver 7 s).pot.driveHold = s.pot.driveHold := (congrArg PotCtl.driveHold hpot :)
        exact ⟨congrArg PotCtl.standing hpot, (congrArg PotCtl.refDrive hpot :), hhold.trans hd⟩
  case supply =>
    intro below t
    have hbelow : below = s.supplyBelow := rfl
    have hdeliver : t = _ := deliver_supply
    refine ⟨fun hb => ?_, fun hb hl => ?_, fun hb hl => ?_⟩
    · rw [hdeliver, ← hbelow, hb]
      rfl
    · rw [hdeliver, ← hbelow, hb, hl]
      rfl
    · have hraised : t = raise .supplyLow (zeroGrants s) := by
        rw [hdeliver, ← hbelow, hb, hl]
        rfl
      obtain ⟨halarm, hmodes, hrun⟩ := raise_supplyLow (u := zeroGrants s) hl
      have heased := raise_eased (zeroGrants s) .supplyLow
      rw [← hraised] at halarm hmodes hrun heased
      refine ⟨?_, heased.potGrant rfl, fun k => heased.zoneGrant k (zeroGrants_grants k), halarm, hmodes, hrun⟩
      unfold State.supplyLow State.condition
      rw [halarm]
      rfl

end Sys2Proof.Machine

end

section
/-! PROOFS. The Map Compositor: the cells of a composed map (R56, R61, R62, R64), and the completion of a composition (R59, R60, R63). -/

namespace Sys2Proof.Machine

/-! ### Lists with their positions -/

section
variable {α β : Type}

theorem mapFrom_getElem? (f : Nat → α → β) (n : Nat) (l : List α) (i : Nat) :
    (mapFrom f n l)[i]? = l[i]?.map (f (n + i)) := by
  induction l generalizing n i with
  | nil => rfl
  | cons a as ih =>
    cases i with
    | zero => rfl
    | succ i =>
      show (mapFrom f (n + 1) as)[i]? = _
      rw [ih, List.getElem?_cons_succ, show n + 1 + i = n + (i + 1) by omega]

theorem mapFrom_length (f : Nat → α → β) (n : Nat) (l : List α) : (mapFrom f n l).length = l.length := by
  induction l generalizing n with
  | nil => rfl
  | cons a as ih => exact congrArg Nat.succ (ih (n + 1))

variable {p : α → Bool}

theorem positions_cons (n : Nat) (a : α) (as : List α) :
    positions p n (a :: as) = if p a then n :: positions p (n + 1) as else positions p (n + 1) as := rfl

theorem le_of_mem_positions {n m : Nat} {l : List α} (h : m ∈ positions p n l) : n ≤ m := by
  induction l generalizing n with
  | nil => exact nomatch h
  | cons a as ih =>
    rw [positions_cons] at h
    split at h
    · rcases List.mem_cons.mp h with rfl | h
      · exact le_rfl
      · exact (Nat.le_succ n).trans (ih h)
    · exact (Nat.le_succ n).trans (ih h)

theorem positions_pairwise (n : Nat) (l : List α) : (positions p n l).Pairwise (· ≤ ·) := by
  induction l generalizing n with
  | nil => exact .nil
  | cons a as ih =>
    rw [positions_cons]
    split
    · exact .cons (fun m hm => (Nat.le_succ n).trans (le_of_mem_positions hm)) (ih (n + 1))
    · exact ih (n + 1)

theorem mem_positions {n j : Nat} {a : α} {l : List α} (hj : l[j]? = some a) (ha : p a = true) : n + j ∈ positions p n l := by
  induction l generalizing n j with
  | nil => exact nomatch hj
  | cons b bs ih =>
    rw [positions_cons]
    cases j with
    | zero =>
      cases hj
      rw [if_pos ha]
      exact List.mem_cons_self
    | succ j =>
      have hmem : n + 1 + j ∈ positions p (n + 1) bs := ih hj
      rw [show n + (j + 1) = n + 1 + j by omega]
      split
      · exact List.mem_cons_of_mem _ hmem
      · exact hmem

end

/-! ### A cell under the rectangles (R56, R61, R62) -/

section
variable {rows cols i j : Nat}

/-- The cell at a row and a column. -/
def cellAt (cells : List (List FluxCell)) (i j : Nat) : Option FluxCell := cells[i]?.bind (fun row => row[j]?)

/-- What a rectangle makes of the cell at a row and a column. -/
def coverCell (i j : Nat) (c : FluxCell) (r : Rect) : FluxCell := if rectCovers r i j then changeCell r c else c

theorem applyRect_cellAt (cells : List (List FluxCell)) (r : Rect) :
    cellAt (applyRect cells r) i j = (cellAt cells i j).map (fun c => coverCell i j c r) := by
  unfold cellAt applyRect
  rw [mapFrom_getElem?, Nat.zero_add]
  cases cells[i]? with
  | none => rfl
  | some row =>
    show (mapFrom _ 0 row)[j]? = _
    rw [mapFrom_getElem?, Nat.zero_add]
    rfl

theorem foldl_applyRect_cellAt (rects : List Rect) (cells : List (List FluxCell)) :
    cellAt (rects.foldl applyRect cells) i j = (cellAt cells i j).map (fun c => rects.foldl (coverCell i j) c) := by
  induction rects generalizing cells with
  | nil => exact Option.map_id'.symm
  | cons r rest ih =>
    show cellAt (rest.foldl applyRect (applyRect cells r)) i j = _
    rw [ih, applyRect_cellAt, Option.map_map]
    rfl

/-- Every grid that rectangles are applied to keeps its shape. -/
theorem foldl_applyRect_shape (rects : List Rect) (cells : List (List FluxCell)) :
    (rects.foldl applyRect cells).map List.length = cells.map List.length := by
  have hone : ∀ (r : Rect) (n : Nat) (g : List (List FluxCell)),
      (mapFrom (fun i row => mapFrom (fun j c => if rectCovers r i j then changeCell r c else c) 0 row) n g).map List.length
        = g.map List.length := fun r n g => by
    induction g generalizing n with
    | nil => rfl
    | cons row rest ih =>
      show (mapFrom _ 0 row).length :: _ = _
      rw [mapFrom_length, ih]
      rfl
  induction rects generalizing cells with
  | nil => rfl
  | cons r rest ih => exact (ih _).trans (hone r 0 cells)

/-- A rectangle outside the grid covers none of its cells, and one clipped to the grid the same cells as before. -/
theorem coverCell_applied (hi : i < rows) (hj : j < cols) (rects : List Rect) (c : FluxCell) :
    (appliedRects rows cols rects).foldl (coverCell i j) c = rects.foldl (coverCell i j) c := by
  have hcovers : ∀ r, rectApplies rows cols r = true → rectCovers (clipRect rows cols r) i j = rectCovers r i j := fun r _ => by
    have hrow : decide (i ≤ min r.row1 (rows - 1)) = decide (i ≤ r.row1) := decide_eq_decide.mpr (by omega)
    have hcol : decide (j ≤ min r.col1 (cols - 1)) = decide (j ≤ r.col1) := decide_eq_decide.mpr (by omega)
    unfold rectCovers
    rw [← hrow, ← hcol]
    rfl
  have houtside : ∀ r, rectApplies rows cols r = false → rectCovers r i j = false := fun r h => by
    rw [← Bool.not_eq_true] at h ⊢
    simp only [rectCovers, rectApplies, Bool.and_eq_true, decide_eq_true_iff] at h ⊢
    rintro ⟨⟨⟨hr, -⟩, hc⟩, -⟩
    exact h ⟨lt_of_le_of_lt hr hi, lt_of_le_of_lt hc hj⟩
  induction rects generalizing c with
  | nil => rfl
  | cons r rest ih =>
    cases h : rectApplies rows cols r with
    | true =>
      have hlist : appliedRects rows cols (r :: rest) = clipRect rows cols r :: appliedRects rows cols rest := by
        simp [appliedRects, h]
      have hcell : coverCell i j c (clipRect rows cols r) = coverCell i j c r := by
        unfold coverCell
        rw [hcovers r h]
        rfl
      rw [hlist, List.foldl_cons, hcell, ih, List.foldl_cons]
    | false =>
      have hlist : appliedRects rows cols (r :: rest) = appliedRects rows cols rest := by simp [appliedRects, h]
      have hcell : coverCell i j c r = c := if_neg (by rw [houtside r h]; decide)
      rw [hlist, List.foldl_cons, hcell, ih]

/-- Whether a cell's level is in its range, and 0 where it is protected. -/
def FluxCell.Sound (c : FluxCell) : Prop := c.level ≤ 15 ∧ (c.prot = true → c.level = 0)

section
variable {c : FluxCell} {r : Rect}

theorem changeCell_of_prot (hp : c.prot = true) : changeCell r c = c := if_pos hp

variable (hp : c.prot = false)
include hp

theorem changeCell_dose (hk : r.kind = .dose) : changeCell r c = { c with level := (max 0 (min 15 r.level)).toNat } := by
  unfold changeCell
  rw [hp, hk, ← clampInt_bounds 0 15 _ (by decide)]
  exact if_neg (by decide)

theorem changeCell_add (hk : r.kind = .add) : changeCell r c = { c with level := (max 0 (min 15 (c.level + r.level))).toNat } := by
  unfold changeCell
  rw [hp, hk, ← clampInt_bounds 0 15 _ (by decide)]
  exact if_neg (by decide)

theorem changeCell_keepout (hk : r.kind = .keepout) : changeCell r c = { level := 0, prot := true } := by
  unfold changeCell
  rw [hp, hk]
  exact if_neg (by decide)

end

theorem coverCell_sound {c : FluxCell} (r : Rect) (h : c.Sound) : (coverCell i j c r).Sound := by
  unfold coverCell
  split
  · cases hp : c.prot with
    | true =>
      rw [changeCell_of_prot hp]
      exact h
    | false =>
      cases hk : r.kind with
      | dose =>
        rw [changeCell_dose hp hk]
        exact ⟨by dsimp only; omega, fun h' => nomatch hp.symm.trans h'⟩
      | add =>
        rw [changeCell_add hp hk]
        exact ⟨by dsimp only; omega, fun h' => nomatch hp.symm.trans h'⟩
      | keepout =>
        rw [changeCell_keepout hp hk]
        exact ⟨Nat.zero_le 15, fun _ => rfl⟩
  · exact h

theorem foldl_coverCell_sound (rects : List Rect) {c : FluxCell} (h : c.Sound) : (rects.foldl (coverCell i j) c).Sound := by
  induction rects generalizing c with
  | nil => exact h
  | cons r rest ih => exact ih (coverCell_sound r h)

theorem composeCells_cellAt (hi : i < rows) (hj : j < cols) (d : FluxDef) :
    cellAt (composeCells rows cols d) i j = some (d.rects.foldl (coverCell i j) { level := min 15 d.base, prot := false }) := by
  have hbase : cellAt (List.replicate rows (List.replicate cols { level := min 15 d.base, prot := false })) i j
      = some { level := min 15 d.base, prot := false } := by
    unfold cellAt
    rw [List.getElem?_replicate, if_pos hi]
    exact List.getElem?_replicate.trans (if_pos hj)
  unfold composeCells
  rw [foldl_applyRect_cellAt, hbase]
  exact congrArg some (coverCell_applied hi hj _ _)

theorem composeCells_shape (d : FluxDef) :
    (composeCells rows cols d).map List.length = List.replicate rows cols := by
  unfold composeCells
  rw [foldl_applyRect_shape, List.map_replicate, List.length_replicate]

/-- The span of a row reaches from its first column of nonzero level to its last. -/
theorem rowSpan_covers {row : List FluxCell} {cell : FluxCell} {a b : Nat} (hs : rowSpan row = some (a, b)) (hj : row[j]? = some cell)
    (hl : cell.level ≠ 0) : a ≤ j ∧ j ≤ b := by
  obtain ⟨p, hp⟩ : ∃ p, p = positions (fun c : FluxCell => decide (c.level ≠ 0)) 0 row := ⟨_, rfl⟩
  have hmem : j ∈ p := by
    have h := mem_positions (n := 0) (p := fun c : FluxCell => decide (c.level ≠ 0)) hj (decide_eq_true hl)
    rwa [Nat.zero_add, ← hp] at h
  have hpair : p.Pairwise (· ≤ ·) := hp ▸ positions_pairwise 0 row
  have hspan : rowSpan row = some (p.head (List.ne_nil_of_mem hmem), p.getLast (List.ne_nil_of_mem hmem)) := by
    unfold rowSpan
    dsimp only
    rw [← hp, List.head?_eq_some_head (List.ne_nil_of_mem hmem), List.getLast?_eq_some_getLast (List.ne_nil_of_mem hmem)]
  rw [hspan] at hs
  cases hs
  exact ⟨hpair.rel_head hmem, hpair.rel_getLast hmem⟩

end

/-- Settles O47: the rectangles applied are those that cover the cell, and the grid keeps its shape. -/
theorem composedCellsFollowTheirRectangles : Obligations.ComposedCellsFollowTheirRectangles := by
  intro rows cols i j d hi hj change
  have hchange : ∀ (c : FluxCell) (r : Rect), change c r = coverCell i j c r := fun c r => by
    have hcovers : rectCovers r i j = true ↔ r.row0 ≤ i ∧ i ≤ r.row1 ∧ r.col0 ≤ j ∧ j ≤ r.col1 := by
      simp only [rectCovers, Bool.and_eq_true, decide_eq_true_iff, and_assoc]
    by_cases hc : rectCovers r i j = true
    · obtain ⟨h1, h2, h3, h4⟩ := hcovers.mp hc
      refine Eq.trans ?_ (if_pos hc).symm
      cases hp : c.prot with
      | true =>
        have hfree : ¬ c.prot = false := by rw [hp]; decide
        exact (if_neg fun h => hfree h.2.2.2.2).trans (changeCell_of_prot hp).symm
      | false =>
        refine (if_pos ⟨h1, h2, h3, h4, hp⟩).trans ?_
        cases hk : r.kind with
        | dose => exact (changeCell_dose hp hk).symm
        | add => exact (changeCell_add hp hk).symm
        | keepout => exact (changeCell_keepout hp hk).symm
    · refine (if_neg fun h => hc (hcovers.mpr ⟨h.1, h.2.1, h.2.2.1, h.2.2.2.1⟩)).trans ?_
      exact (if_neg hc).symm
  have hcell := composeCells_cellAt hi hj d
  obtain ⟨row, hrow, hcol⟩ := Option.bind_eq_some_iff.mp hcell
  have hshape := composeCells_shape (rows := rows) (cols := cols) d
  have hlength : (composeCells rows cols d).length = rows := by
    have h := congrArg List.length hshape
    rwa [List.length_map, List.length_replicate] at h
  have hwidth : row.length = cols := by
    have h := congrArg (·[i]?) hshape
    rw [List.getElem?_map, hrow, List.getElem?_replicate, if_pos hi] at h
    exact Option.some.inj h
  have hsound := foldl_coverCell_sound (i := i) (j := j) d.rects (c := { level := min 15 d.base, prot := false })
    ⟨Nat.min_le_left _ _, nofun⟩
  refine ⟨row, _, hrow, hcol, hwidth, hlength, ?_, hsound.1, hsound.2, fun a b hs hl => rowSpan_covers hs hcol hl⟩
  exact congrArg (fun f => d.rects.foldl f _) (funext fun c => funext fun r => (hchange c r).symm)

end Sys2Proof.Machine

end

section
/-! PROOFS. The completion of a composition, and the start of the next (R59, R60, R63). -/

namespace Sys2Proof.Machine

section
variable {s : State}

/-- The completed map of a buffer, in the order in which its record's board meets the spray line. -/
def State.completed (s : State) (m : MapBuffer) (d : FluxDef) : MapBuffer :=
  composed (match s.record? m.owner with
    | some r => r.orientation
    | none => .normal) d m

theorem completeComposition_none (h : s.maps.order = [] ∨ s.maps.working = none) : completeComposition s = s := by
  unfold completeComposition
  split
  next ho hw =>
    rcases h with h | h
    · exact nomatch ho.symm.trans h
    · exact nomatch hw.symm.trans h
  next => rfl

theorem completeComposition_some {b : BufferId} {rest : List BufferId} {d : FluxDef} {m : MapBuffer} (ho : s.maps.order = b :: rest)
    (hw : s.maps.working = some d) (hb : s.maps.buffers.get b = some m) : completeComposition s = compositionTest
      { s with maps := { buffers := s.maps.buffers.set b (some (s.completed m d)), order := rest, working := none } } := by
  unfold completeComposition
  simp only [ho, hw, hb, Option.map_some]
  rfl

/-! ### The start of a composition (R59) -/

theorem compositionTest_idle (h : s.maps.order = [] ∨ s.maps.working ≠ none ∨ s.store.op ≠ none) : compositionTest s = s := by
  unfold compositionTest
  split
  next ho hw hop =>
    rcases h with h | h | h
    · exact nomatch ho.symm.trans h
    · exact absurd hw h
    · exact absurd hop h
  next => rfl

/-- A composition that starts copies the definition of the head buffer's recipe. -/
theorem compositionTest_starts {b : BufferId} {rest : List BufferId} {m : MapBuffer} {r : Record} (ho : s.maps.order = b :: rest)
    (hw : s.maps.working = none) (hop : s.store.op = none) (hb : s.maps.buffers.get b = some m) (hr : s.record? m.owner = some r) :
    compositionTest s = { s with maps := { s.maps with
      working := some { base := (s.recipeOf r.slot).base, rects := (s.recipeOf r.slot).rects } } } := by
  unfold compositionTest
  simp only [ho, hw, hop, hb, hr]

/-- The start test writes the working copy alone. -/
theorem compositionTest_maps : (compositionTest s).maps.buffers = s.maps.buffers ∧ (compositionTest s).maps.order = s.maps.order := by
  unfold compositionTest
  repeat' split
  all_goals exact ⟨rfl, rfl⟩

/-- A map's cells as its record's board meets the spray line. -/
theorem completed_cells (m : MapBuffer) (d : FluxDef) : (s.completed m d).cells
    = if (s.record? m.owner).map (·.orientation) = some .rotated
        then ((composeCells m.rows m.cols d).map List.reverse).reverse else composeCells m.rows m.cols d := by
  unfold State.completed
  cases s.record? m.owner with
  | none => rfl
  | some r =>
    show placeCells r.orientation _ = _
    cases ho : r.orientation with
    | normal => exact (if_neg (by simp [ho])).symm
    | rotated => exact (if_pos (by simp [ho])).symm

end

/-- Settles O46: the head buffer completed, and the start test for the one behind it. -/
theorem compositionCompletes : Obligations.CompositionCompletes := by
  refine fun s => ⟨fun h => congrArg Host.Outcome.next (completeComposition_none h), fun b rest d m ho hw hb => ?_⟩
  obtain ⟨u, hu⟩ : ∃ u : State, u
      = { s with maps := { buffers := s.maps.buffers.set b (some (s.completed m d)), order := rest, working := none } } := ⟨_, rfl⟩
  have hexec : exec .compositionComplete s = .next (compositionTest u) := by
    rw [hu]
    exact congrArg Host.Outcome.next (completeComposition_some ho hw hb)
  obtain ⟨hbuffers, horder⟩ := compositionTest_maps (s := u)
  have hset : u.maps.buffers = s.maps.buffers.set b (some (s.completed m d)) := by rw [hu]
  refine ⟨compositionTest u, hexec, ?_, horder.trans (by rw [hu]), fun hidle => ?_, fun c more n r hrest hop hc hr => ?_,
    fun c hne => ?_, (s.completed m d).cells, ?_, completed_cells m d⟩
  · obtain ⟨x, hx⟩ := compositionTest_eq u
    rw [hx, hu]
  · rw [compositionTest_idle, hu]
    rw [hu]
    exact hidle.imp_right .inr
  · have hbuffer : ∃ x, u.maps.buffers.get c = some x ∧ x.owner = n.owner := by
      rw [hset]
      by_cases hcb : c = b
      · subst hcb
        rw [hb] at hc
        cases hc
        exact ⟨_, four_get_set_same _ _ _, rfl⟩
      · exact ⟨n, (four_get_set_other _ _ _ _ hcb).trans hc, rfl⟩
    obtain ⟨x, hx, howner⟩ := hbuffer
    have hrecord : u.record? x.owner = some r := by
      rw [howner, hu]
      exact hr
    have hstart := compositionTest_starts (s := u) (b := c) (rest := more) (by rw [hu]; exact hrest) (by rw [hu])
      (by rw [hu]; exact hop) hx hrecord
    rw [hstart, hu]
    rfl
  · rw [hbuffers, hset]
    exact four_get_set_other _ _ _ _ hne
  · rw [hbuffers, hset]
    exact four_get_set_same _ _ _

end Sys2Proof.Machine

end

section
/-! PROOFS. The slots and burst frames of the heaters, and the Power Share (R97 to R100). -/

namespace Sys2Proof.Machine

section
variable {s : State}

/-! ### The Power Share (R98) -/

/-- The grants at full demand, or each cut in the proportion of what is available to what is used. -/
theorem shareGrants_of_forced (h : s.forcedZero = true) : shareGrants s = zeroGrants s := if_pos h

/-- The heaters with every demand's share granted. -/
def State.shared (s : State) : Heaters := { s.heat with
  zones := s.heat.zones.mapZones (fun _ z => { z with
    grant := shareGrant (shareAvailable s.budget s.potRating s.heat.pot.demand) (s.zoneUse (·.demand)) z.demand })
  pot := { s.heat.pot with grant := s.heat.pot.demand } }

theorem shareGrants_of_free (h : s.forcedZero = false) : shareGrants s = s.setHeat s.shared := if_neg (by rw [h]; decide)

/-- Shares in the proportion of what is available use no more than that. -/
theorem sum_shares_le (rating demand : ZoneId → Nat) (available use : Nat) (l : List ZoneId) :
    (l.map (fun k => rating k * (demand k * available / use))).sum * use
      ≤ (l.map (fun k => rating k * demand k)).sum * available := by
  induction l with
  | nil => simp
  | cons k rest ih =>
    have hone : rating k * (demand k * available / use) * use ≤ rating k * demand k * available := by
      rw [mul_assoc, mul_assoc]
      exact Nat.mul_le_mul_left _ (Nat.div_mul_le_self _ _)
    rw [List.map_cons, List.sum_cons, List.map_cons, List.sum_cons, Nat.add_mul, Nat.add_mul]
    exact Nat.add_le_add hone ih

theorem sum_grants_le (rating demand : ZoneId → Nat) (available : Nat) (l : List ZoneId) :
    (l.map (fun k => rating k * shareGrant available (l.map (fun k => rating k * demand k)).sum (demand k))).sum ≤ available := by
  obtain ⟨use, huse⟩ : ∃ u, u = (l.map (fun k => rating k * demand k)).sum := ⟨_, rfl⟩
  rw [← huse]
  unfold shareGrant
  by_cases h : use ≤ available
  · simp only [if_pos h]
    rwa [← huse]
  · simp only [if_neg h]
    have hshares := sum_shares_le rating demand available use l
    rw [← huse, Nat.mul_comm use] at hshares
    exact Nat.le_of_mul_le_mul_right hshares (by omega)

/-! ### The frame (R97 to R100) -/

theorem slotEnds_within (h : s.heat.frameSlot < 255) :
    slotEnds s = fireSlot (s.setHeat { s.heat with frameSlot := s.heat.frameSlot + 1 }) := if_pos h

theorem slotEnds_starts (h : 255 ≤ s.heat.frameSlot) : slotEnds s = startFrame s := if_neg (not_lt.mpr h)

/-- The heaters at the start of a frame, before the outputs follow. -/
def framed (s : State) : State := setCutMarks (shareGrants (s.setHeat { s.heat with frameSlot := 0 }))

theorem startFrame_eq : startFrame s = fireSlot (framed s) := rfl

theorem framed_cut : (framed s).heat.pot.cut = decide ((framed s).heat.pot.grant < (framed s).heat.pot.demand)
    ∧ ∀ k, ((framed s).zone k).cut = decide (((framed s).zone k).grant < ((framed s).zone k).demand) := by
  refine ⟨rfl, fun k => ?_⟩
  have hzone : ∀ u : State, (setCutMarks u).zone k = { u.zone k with cut := decide ((u.zone k).grant < (u.zone k).demand) } :=
    fun u => zone_mapZones u (fun _ (z : Zone) => { z with cut := decide (z.grant < z.demand) }) k
  unfold framed
  rw [hzone]

theorem framed_zone (k : ZoneId) : ((framed s).zone k).demand = (s.zone k).demand
    ∧ ((framed s).zone k).grant = if s.forcedZero then 0
      else shareGrant (shareAvailable s.budget s.potRating s.heat.pot.demand) (s.zoneUse (·.demand)) (s.zone k).demand := by
  obtain ⟨u, hu⟩ : ∃ u, u = s.setHeat { s.heat with frameSlot := 0 } := ⟨_, rfl⟩
  have hcut : ((framed s).zone k).demand = ((shareGrants u).zone k).demand
      ∧ ((framed s).zone k).grant = ((shareGrants u).zone k).grant := by
    have hzone := zone_mapZones (shareGrants u) (fun _ (z : Zone) => { z with cut := decide (z.grant < z.demand) }) k
    rw [hu] at hzone ⊢
    exact ⟨(congrArg Zone.demand hzone :), (congrArg Zone.grant hzone :)⟩
  have hforced : u.forcedZero = s.forcedZero := by rw [hu]; rfl
  rw [hcut.1, hcut.2]
  cases h : s.forcedZero with
  | true =>
    have hzone := zone_mapZones u (fun _ (z : Zone) => { z with grant := 0 }) k
    rw [shareGrants_of_forced (hforced.trans h)]
    refine ⟨(congrArg Zone.demand hzone :).trans (by rw [hu]; rfl), (congrArg Zone.grant hzone :)⟩
  | false =>
    have hzone := zone_mapZones u (fun _ (z : Zone) => { z with
      grant := shareGrant (shareAvailable u.budget u.potRating u.heat.pot.demand) (u.zoneUse (·.demand)) z.demand }) k
    rw [shareGrants_of_free (hforced.trans h)]
    refine ⟨(congrArg Zone.demand hzone :).trans (by rw [hu]; rfl), (congrArg Zone.grant hzone :).trans (by rw [hu]; rfl)⟩

theorem framed_pot : (framed s).heat.pot.demand = s.heat.pot.demand
    ∧ (framed s).heat.pot.grant = if s.forcedZero then 0 else s.heat.pot.demand := by
  obtain ⟨u, hu⟩ : ∃ u, u = s.setHeat { s.heat with frameSlot := 0 } := ⟨_, rfl⟩
  have hforced : u.forcedZero = s.forcedZero := by rw [hu]; rfl
  have hpot : (framed s).heat.pot.demand = (shareGrants u).heat.pot.demand
      ∧ (framed s).heat.pot.grant = (shareGrants u).heat.pot.grant := by rw [hu]; exact ⟨rfl, rfl⟩
  rw [hpot.1, hpot.2]
  cases h : s.forcedZero with
  | true =>
    rw [shareGrants_of_forced (hforced.trans h), hu]
    exact ⟨rfl, rfl⟩
  | false =>
    rw [shareGrants_of_free (hforced.trans h), hu]
    exact ⟨rfl, rfl⟩

theorem forcedZero_iff : s.forcedZero = true ↔ s.modes.mode = .idle ∨ s.modes.mode = .safe ∨ s.supplyLow = true := by
  simp only [State.forcedZero, Bool.or_eq_true, beq_iff_eq, or_assoc]

theorem shareGrants_rest : shareGrants s = { s with heat := (shareGrants s).heat } := by
  unfold shareGrants
  split <;> rfl

theorem framed_rest : framed s = { s with heat := (framed s).heat } := by
  unfold framed setCutMarks
  rw [shareGrants_rest]
  rfl

theorem framed_slot : (framed s).heat.frameSlot = 0 := by
  unfold framed
  show (shareGrants _).heat.frameSlot = 0
  unfold shareGrants
  split <;> rfl

end

/-- Settles O48: a slot within the frame, and the frame begun by whether the grants are forced to 0. -/
theorem slotsAndFrames : Obligations.SlotsAndFrames := by
  refine fun s => ⟨slotEnds s, rfl, ?rest, ?fires, fun h => ?within, fun h => ?starts⟩
  case rest =>
    by_cases h : s.heat.frameSlot < 255
    · rw [slotEnds_within h]
      rfl
    · rw [slotEnds_starts (not_lt.mp h), startFrame_eq]
      show ({ framed s with heat := _ } : State) = _
      rw [framed_rest]
      rfl
  case fires =>
    obtain ⟨u, hu⟩ := slotEnds_eq_fireSlot s
    rw [hu]
    exact ⟨fireSlot_potFiring u, fireSlot_zoneFiring u⟩
  case within =>
    rw [slotEnds_within h]
    exact ⟨rfl, rfl, rfl⟩
  case starts =>
    obtain ⟨hpotCut, hzoneCut⟩ := framed_cut (s := s)
    obtain ⟨hdemand, hgrant⟩ := framed_pot (s := s)
    rw [slotEnds_starts h, startFrame_eq]
    refine ⟨framed_slot, hdemand, fun k => (framed_zone k).1, hpotCut, hzoneCut, fun hz => ?_, fun hi hs hl => ?_⟩
    · have hforced := forcedZero_iff.mpr hz
      refine ⟨hgrant.trans (if_pos hforced), fun k => (framed_zone k).2.trans (if_pos hforced)⟩
    · have hfree : s.forcedZero = false := by
        rw [← Bool.not_eq_true, forcedZero_iff]
        rintro (h | h | h)
        · exact hi h
        · exact hs h
        · exact nomatch hl.symm.trans h
      have hzone : ∀ k, ((framed s).zone k).grant = shareGrant (shareAvailable s.budget s.potRating s.heat.pot.demand)
          (s.zoneUse (·.demand)) (s.zone k).demand := fun k => (framed_zone k).2.trans (if_neg (by rw [hfree]; decide))
      have hpot : (framed s).heat.pot.grant = s.heat.pot.demand := hgrant.trans (if_neg (by rw [hfree]; decide))
      refine ⟨hpot, hzone, fun hbudget => ?_⟩
      have hsum := sum_grants_le s.zoneRating (fun k => (s.zone k).demand) (shareAvailable s.budget s.potRating s.heat.pot.demand) allZones
      have hgrants : (allZones.map (fun k => s.zoneRating k * ((framed s).zone k).grant)).sum
          ≤ s.budget * 256 - s.potRating * s.heat.pot.demand := by
        simp only [hzone]
        exact hsum
      show s.potRating * (framed s).heat.pot.grant + (allZones.map (fun k => s.zoneRating k * ((framed s).zone k).grant)).sum ≤ _
      rw [hpot]
      omega

end Sys2Proof.Machine

end

section
/-! PROOFS. The gate (R36, R37, R58, R59): the nine conditions of the admission test, and what opening writes. -/

namespace Sys2Proof.Machine

/-! ### The free buffer (R58) -/

theorem freeBuffer_some {c : Compositor} {b : BufferId} (h : freeBuffer c = some b) :
    c.buffers.get b = none ∧ ∀ x, bufferIndex x < bufferIndex b → c.buffers.get x ≠ none := by
  unfold freeBuffer at h
  split at h
  next h0 =>
    cases h
    exact ⟨h0, fun x hx => absurd hx (Nat.not_lt_zero _)⟩
  next h0 =>
    split at h
    next h1 =>
      cases h
      exact ⟨h1, fun x hx => by cases x <;> simp_all [bufferIndex, Four.get]⟩
    next h1 =>
      split at h
      next h2 =>
        cases h
        exact ⟨h2, fun x hx => by cases x <;> simp_all [bufferIndex, Four.get]⟩
      next h2 =>
        split at h
        next h3 =>
          cases h
          exact ⟨h3, fun x hx => by cases x <;> simp_all [bufferIndex, Four.get]⟩
        next => exact nomatch h

theorem freeBuffer_none {c : Compositor} (h : freeBuffer c = none) (b : BufferId) : c.buffers.get b ≠ none := by
  unfold freeBuffer at h
  split at h
  next => exact nomatch h
  next h0 =>
    split at h
    next => exact nomatch h
    next h1 =>
      split at h
      next => exact nomatch h
      next h2 =>
        split at h
        next => exact nomatch h
        next h3 =>
          cases b with
          | b0 => exact h0
          | b1 => exact h1
          | b2 => exact h2
          | b3 => exact h3

theorem freeBuffer_isSome {c : Compositor} : (freeBuffer c).isSome = true ↔ ∃ b, c.buffers.get b = none := by
  constructor
  · intro h
    obtain ⟨b, hb⟩ := Option.isSome_iff_exists.mp h
    exact ⟨b, (freeBuffer_some hb).1⟩
  · rintro ⟨b, hb⟩
    cases h : freeBuffer c with
    | some => rfl
    | none => exact absurd hb (freeBuffer_none h b)

/-! ### The nine conditions (R36) -/

section
variable {s : State}

theorem stopInForce_false : s.stopInForce = false ↔ ∀ k, severity k = .stop ∨ severity k = .safe → (s.alarm k).state = .clear := by
  have hsev : ∀ k, severity k ≠ .notice ↔ severity k = .stop ∨ severity k = .safe := fun k => by
    cases severity k <;> decide
  unfold State.stopInForce State.inForce
  rw [List.any_eq_false]
  constructor
  · intro h k hk
    by_contra hc
    exact h k (by cases k <;> decide) (by simp [(hsev k).mpr hk, hc])
  · intro h k _ hk
    simp only [Bool.and_eq_true, bne_iff_ne] at hk
    exact hk.2 (h k ((hsev k).mp hk.1))

theorem gapPassed_iff : s.gapPassed = true
    ↔ ∀ g, s.tracker.gapRef = some g → ((s.gapMin * s.kScale : Nat) : Int) ≤ (s.tracker.count - g).toInt := by
  unfold State.gapPassed State.counts
  cases s.tracker.gapRef with
  | none => simp
  | some g => simp

theorem mayAdmit_iff : s.mayAdmit = true ↔ (s.modes.mode = .run ∧ s.modes.holdPending = false)
    ∧ s.tracker.stopper = true
    ∧ s.tracker.queue ≠ []
    ∧ s.tracker.admission = none
    ∧ (∀ g, s.tracker.gapRef = some g → ((s.gapMin * s.kScale : Nat) : Int) ≤ (s.tracker.count - g).toInt)
    ∧ (∃ b, s.maps.buffers.get b = none)
    ∧ (s.tracker.records.length < 12 ∧ s.tracker.records.length + s.reports.queue.length < 16)
    ∧ (∀ k, severity k = .stop ∨ severity k = .safe → (s.alarm k).state = .clear)
    ∧ (s.extr.state = .proven ∨ s.extr.state = .warn) := by
  rw [← gapPassed_iff, ← freeBuffer_isSome, ← stopInForce_false, ← sound_iff]
  unfold State.mayAdmit
  simp only [Bool.and_eq_true, beq_iff_eq, Bool.not_eq_true', decide_eq_true_eq, Option.isNone_iff_eq_none, List.isEmpty_eq_false_iff,
    and_assoc]
  rfl

/-! ### The gate opens (R37, R58, R59) -/

theorem admissionTest_closed (h : s.mayAdmit = false) : admissionTest s = s := if_neg (by rw [h]; decide)

theorem admissionTest_opens {a : Announcement} {rest : List Announcement} {b : BufferId} (h : s.mayAdmit = true)
    (hq : s.tracker.queue = a :: rest) (hb : freeBuffer s.maps = some b) : admissionTest s = openGate a rest b s := by
  unfold admissionTest
  rw [if_pos h]
  simp only [hq, hb]

/-- The state with the record joined and its buffer taken, before a composition starts. -/
def admitted (a : Announcement) (rest : List Announcement) (b : BufferId) (s : State) : State :=
  takeBuffer b a.tag (s.recipeOf a.slot) (s.setTracker { s.tracker with
    queue := rest, records := s.tracker.records ++ [newRecord a b (s.recipeOf a.slot).rows],
    admission := some { tag := a.tag, timer := some 0 }, gateOpen := true })

/-- The buffer of a board that is admitted, its composition not yet ended (R58). -/
def takenBuffer (a : Announcement) (s : State) : MapBuffer :=
  { owner := a.tag, composing := true, rows := (s.recipeOf a.slot).rows, cols := (s.recipeOf a.slot).cols, cells := [], spans := [],
    resolved := 0 }

theorem openGate_eq (a : Announcement) (rest : List Announcement) (b : BufferId) :
    openGate a rest b s = compositionTest (admitted a rest b s) := rfl

/-- The record that joins is the one found by its tag, where no other has it. -/
theorem admitted_record {a : Announcement} {rest : List Announcement} {b : BufferId} (h : s.inTransit a.tag = false) :
    (admitted a rest b s).record? a.tag = some (newRecord a b (s.recipeOf a.slot).rows) := by
  have hnone : s.tracker.records.find? (fun r => r.tag = a.tag) = none := by
    rw [List.find?_eq_none]
    intro r hr hrt
    have hmem : s.inTransit a.tag = true := by
      unfold State.inTransit
      rw [List.any_eq_true]
      exact ⟨r, hr, hrt⟩
    exact nomatch h.symm.trans hmem
  show (s.tracker.records ++ [newRecord a b (s.recipeOf a.slot).rows]).find? (fun r => r.tag = a.tag) = _
  rw [List.find?_append, hnone]
  have hfound : decide ((newRecord a b (s.recipeOf a.slot).rows).tag = a.tag) = true := decide_eq_true rfl
  exact List.find?_cons_of_pos (p := fun r : Record => decide (r.tag = a.tag)) hfound

end

/-- Settles O33: the conditions of the admission test one by one, and the gate that opens. -/
theorem stopperEdgeOpensTheGate : Obligations.StopperEdgeOpensTheGate := by
  intro present s u nine
  have hiff : u.mayAdmit = true ↔ nine := mayAdmit_iff
  have hexec : exec (.stopperSensorEdge present) s = .next (admissionTest u) := rfl
  refine ⟨hiff, fun hn => ?_, fun a rest hn hq => ?_⟩
  · rw [hexec, admissionTest_closed (Bool.eq_false_of_not_eq_true (mt hiff.mp hn))]
  · obtain ⟨b, hb⟩ := Option.isSome_iff_exists.mp (freeBuffer_isSome.mpr hn.2.2.2.2.2.1)
    obtain ⟨hfree, hfirst⟩ := freeBuffer_some hb
    obtain ⟨v, hv⟩ : ∃ v, v = admitted a rest b u := ⟨_, rfl⟩
    obtain ⟨m, hm⟩ := compositionTest_eq v
    obtain ⟨hbuffers, horder⟩ := compositionTest_maps (s := v)
    have htracker : (compositionTest v).tracker = v.tracker := by rw [hm]
    have hget : v.maps.buffers = s.maps.buffers.set b (some (takenBuffer a s)) := by
      rw [hv]
      rfl
    refine ⟨compositionTest v, b, ?_, hfree, hfirst, ?_, ?_, fun c hc => ?_, ?_, fun hidle => ?_, fun ho hw hop ht => ?_, ?_⟩
    · rw [hexec, admissionTest_opens (hiff.mpr hn) hq hb, openGate_eq, ← hv]
    · rw [htracker, hv]
      rfl
    · rw [hbuffers, hget]
      exact four_get_set_same _ _ _
    · rw [hbuffers, hget]
      exact four_get_set_other _ _ _ _ hc
    · rw [horder, hv]
      rfl
    · rw [compositionTest_idle (.inr (by rw [hv]; exact hidle)), hv]
      rfl
    · have hrecord : v.record? a.tag = some (newRecord a b (s.recipeOf a.slot).rows) := by
        rw [hv]
        exact admitted_record ht
      have hempty : v.maps.order = [b] := by
        rw [hv]
        show s.maps.order ++ [b] = _
        rw [ho]
        rfl
      rw [compositionTest_starts hempty (by rw [hv]; exact hw) (by rw [hv]; exact hop)
        (by rw [hget]; exact four_get_set_same _ _ _) hrecord, hv]
      rfl
    · rw [hm, hv]
      rfl

end Sys2Proof.Machine

end

section
/-! PROOFS. What changes of the mode and severities never do: open the gate, take a buffer, queue a row for spray, or clear the
attention flag (R37, R58, R74, R174). -/

namespace Sys2Proof.Machine

/-- No row of a board waits for spray, and none is under way. -/
def State.Cleared (s : State) (tag : Nat) : Prop :=
  (∀ e ∈ s.spray.queue, e.tag ≠ tag) ∧ ∀ n, s.spray.running = .stroke n → n.tag ≠ tag

/-- The rows that a record counts as resolved. -/
def Record.resolved (r : Record) : Nat × Nat × Nat := (r.tag, r.sprayed, r.skipped)

/-- The rows that the record with a tag counts as resolved. -/
def resolvedOf (tag : Nat) (r : Record) : Option (Nat × Nat × Nat) := if r.tag = tag then some r.resolved else none

/-- The exceptions of a record list a kind, or say that more than they list has happened. -/
def Record.noted (k : ExcKind) (r : Record) : Prop := r.exc.has k = true ∨ r.exc.more = true

/-- A record as it was, or with further exceptions. -/
structure Record.Grown (r x : Record) : Prop where
  tag : x.tag = r.tag
  slot : x.slot = r.slot
  noted : ∀ k, r.noted k → x.noted k

/-- Every record of the second list is one of the first, or has grown from it. -/
def Grows (l m : List Record) : Prop := ∀ x ∈ m, ∃ r ∈ l, r.Grown x

/-- The gate, the buffers, the composition order, the Stroke Queue, the attention flag, and the rows of the boards none of whose
rows is waiting or under way, as an event may leave them. -/
structure Recedes (s t : State) : Prop where
  gate : s.tracker.gateOpen = false → t.tracker.gateOpen = false
  buffer : ∀ b, s.maps.buffers.get b = none → t.maps.buffers.get b = none
  order : ∀ b, b ∈ t.maps.order → b ∈ s.maps.order
  entries : ∀ e, e ∈ t.spray.queue → e ∈ s.spray.queue
  attention : s.alert.attention = true → t.alert.attention = true
  cleared : ∀ tag, s.Cleared tag → t.Cleared tag
  rows : ∀ tag, s.Cleared tag → t.tracker.records.map (resolvedOf tag) = s.tracker.records.map (resolvedOf tag)
  grows : Grows s.tracker.records t.tracker.records

/-! ### Exceptions are added, and never taken back (R43) -/

theorem Record.Grown.refl (r : Record) : r.Grown r := ⟨rfl, rfl, fun _ => id⟩

theorem Record.Grown.trans {r x y : Record} (h : r.Grown x) (h' : x.Grown y) : r.Grown y :=
  ⟨h'.tag.trans h.tag, h'.slot.trans h.slot, fun k => h'.noted k ∘ h.noted k⟩

theorem Grows.refl (l : List Record) : Grows l l := fun x hx => ⟨x, hx, .refl x⟩

theorem Grows.trans {l m n : List Record} (h : Grows l m) (h' : Grows m n) : Grows l n := fun y hy => by
  obtain ⟨x, hx, hxy⟩ := h' y hy
  obtain ⟨r, hr, hrx⟩ := h x hx
  exact ⟨r, hr, hrx.trans hxy⟩

theorem Grows.map {f : Record → Record} (hf : ∀ r : Record, r.Grown (f r)) (l : List Record) : Grows l (l.map f) := fun x hx => by
  obtain ⟨r, hr, rfl⟩ := List.mem_map.mp hx
  exact ⟨r, hr, hf r⟩

theorem bumpException_any (k j : ExcKind) (n : Nat) (l : List (ExcKind × Nat)) :
    (bumpException k n l).any (fun p => p.1 = j) = l.any (fun p => p.1 = j) := by
  induction l with
  | nil => rfl
  | cons p rest ih =>
    unfold bumpException
    split
    · rfl
    · rw [List.any_cons, List.any_cons, ih]

/-- A kind that is added is noted, and what was noted before stays so. -/
theorem noted_add (k : ExcKind) (n : Nat) (e : ExcList) : ((e.add k n).has k = true ∨ (e.add k n).more = true)
    ∧ ∀ j, e.has j = true ∨ e.more = true → (e.add k n).has j = true ∨ (e.add k n).more = true := by
  have hbump : ∀ j, ExcList.has j { e with items := bumpException k n e.items } = e.has j := fun j => bumpException_any k j n e.items
  unfold ExcList.add
  split
  next h => exact ⟨.inl ((hbump k).trans h), fun j hj => hj.imp_left (hbump j).trans⟩
  next h =>
    split
    · refine ⟨.inl (by simp [ExcList.has]), fun j hj => hj.imp_left fun hj => ?_⟩
      show List.any (_ ++ _) _ = true
      rw [List.any_append, Bool.or_eq_true]
      exact .inl hj
    · exact ⟨.inr rfl, fun _ _ => .inr rfl⟩

theorem grown_except (k : ExcKind) (r : Record) : r.Grown (r.except k) := ⟨rfl, rfl, (noted_add k 1 r.exc).2⟩

theorem grown_skipRow (k : ExcKind) (dose : Nat) (r : Record) : r.Grown (r.skipRow k dose) := ⟨rfl, rfl, (noted_add k 1 r.exc).2⟩

section
variable {s t u : State}

theorem Recedes.refl (s : State) : Recedes s s :=
  ⟨id, fun _ => id, fun _ => id, fun _ => id, id, fun _ => id, fun _ _ => rfl, .refl _⟩

theorem Recedes.trans (h : Recedes s t) (h' : Recedes t u) : Recedes s u where
  gate := h'.gate ∘ h.gate
  buffer b := h'.buffer b ∘ h.buffer b
  order b := h.order b ∘ h'.order b
  entries e := h.entries e ∘ h'.entries e
  attention := h'.attention ∘ h.attention
  cleared tag := h'.cleared tag ∘ h.cleared tag
  rows tag hc := (h'.rows tag (h.cleared tag hc)).trans (h.rows tag hc)
  grows := h.grows.trans h'.grows

/-- A change of the records that resolves no row. -/
theorem resolved_map {l m : List Record} (h : m.map Record.resolved = l.map Record.resolved) (tag : Nat) :
    m.map (resolvedOf tag) = l.map (resolvedOf tag) := by
  have hof : resolvedOf tag = (fun x : Nat × Nat × Nat => if x.1 = tag then some x else none) ∘ Record.resolved := rfl
  rw [hof, ← List.map_map, h, List.map_map]

/-- Where the gate, the maps, the spray items, the records and the attention flag stand as they did. -/
theorem Recedes.of_eq (hg : t.tracker.gateOpen = s.tracker.gateOpen) (hm : t.maps = s.maps) (hs : t.spray = s.spray)
    (hr : t.tracker.records = s.tracker.records)
    (ha : s.alert.attention = true → t.alert.attention = true) : Recedes s t where
  gate h := hg.trans h
  buffer b h := by rwa [hm]
  order b h := by rwa [hm] at h
  entries e h := by rwa [hs] at h
  attention := ha
  cleared tag h := by
    unfold State.Cleared
    rwa [hs]
  rows tag _ := by rw [hr]
  grows := hr ▸ .refl _

end

/-! ### The Alarm Table and the records -/

section
variable (s : State)

theorem occurrence_recedes (k : AlarmKind) (st : AlarmState) : Recedes s (occurrence k st s) :=
  .of_eq rfl rfl rfl rfl fun _ => onAlarm_attention _

theorem conditionEnds_recedes (k : AlarmKind) : Recedes s (conditionEnds k s) := .of_eq rfl rfl rfl rfl id

theorem conditionAppears_recedes (k : AlarmKind) : Recedes s (conditionAppears k s) := by
  unfold conditionAppears
  split
  · exact .refl s
  · exact occurrence_recedes s k _

theorem judgeQuiet_recedes (k : AlarmKind) (b : Bool) : Recedes s (judgeQuiet k b s) := by
  unfold judgeQuiet
  split
  · exact conditionAppears_recedes s k
  · exact conditionEnds_recedes s k

theorem mapRecords_recedes {f : Record → Record} (hf : ∀ r, (f r).resolved = r.resolved) (hg : ∀ r : Record, r.Grown (f r)) :
    Recedes s (mapRecords f s) := by
  refine ⟨id, fun _ => id, fun _ => id, fun _ => id, id, fun _ => id, fun tag _ => resolved_map ?_ tag, .map hg _⟩
  show (s.tracker.records.map f).map Record.resolved = _
  rw [List.map_map]
  exact List.map_congr_left fun r _ => hf r

@[simp] theorem resolved_takeDrive (n : Nat) (r : Record) : (r.takeDrive n).resolved = r.resolved := by
  unfold Record.takeDrive
  split <;> rfl

theorem grown_takeDrive (n : Nat) (r : Record) : r.Grown (r.takeDrive n) := by
  unfold Record.takeDrive
  split <;> exact ⟨rfl, rfl, fun _ => id⟩

theorem grown_waveShort (r : Record) : r.Grown r.waveShort := by
  unfold Record.waveShort
  split
  · exact grown_except _ r
  · exact .refl r

theorem grown_safePass (r : Record) : r.Grown r.safePass := by
  unfold Record.safePass
  split
  · exact .refl r
  · exact grown_except _ r

@[simp] theorem resolved_waveShort (r : Record) : r.waveShort.resolved = r.resolved := by
  unfold Record.waveShort
  split <;> rfl

@[simp] theorem resolved_safePass (r : Record) : r.safePass.resolved = r.resolved := by
  unfold Record.safePass
  split <;> rfl

/-! ### The maps and the rows -/

theorem compositionTest_recedes : Recedes s (compositionTest s) := by
  obtain ⟨hbuffers, horder⟩ := compositionTest_maps (s := s)
  obtain ⟨m, hm⟩ := compositionTest_eq s
  rw [hm] at hbuffers horder ⊢
  exact ⟨id, fun b h => by rwa [hbuffers], fun b h => by rwa [horder] at h, fun _ => id, id, fun _ => id, fun _ _ => rfl, .refl _⟩

/-- A buffer that is released is FREE, and stands in the order no more. -/
theorem releaseBuffer_freed (b : BufferId) :
    (releaseBuffer b s).maps.buffers = s.maps.buffers.set b none
      ∧ (releaseBuffer b s).maps.order = s.maps.order.filter (fun c => c ≠ b) := by
  obtain ⟨hbuffers, horder⟩ := compositionTest_maps
    (s := mapRecords (fun r => if r.buffer = some b then { r with buffer := none } else r) { s with maps :=
      { buffers := s.maps.buffers.set b none, order := s.maps.order.filter (fun c => c ≠ b),
        working := if s.maps.order.head? = some b then none else s.maps.working } })
  exact ⟨hbuffers, horder⟩

theorem releaseBuffer_recedes (b : BufferId) : Recedes s (releaseBuffer b s) := by
  have hfreed : Recedes s { s with maps :=
      { buffers := s.maps.buffers.set b none, order := s.maps.order.filter (fun c => c ≠ b),
        working := if s.maps.order.head? = some b then none else s.maps.working } } := by
    refine ⟨id, fun c h => ?_, fun c h => (List.mem_filter.mp h).1, fun _ => id, id, fun _ => id, fun _ _ => rfl, .refl _⟩
    by_cases hc : c = b
    · rw [hc]
      exact four_get_set_same _ _ _
    · exact (four_get_set_other _ _ _ _ hc).trans h
  have hclear : ∀ r : Record, (if r.buffer = some b then { r with buffer := none } else r).resolved = r.resolved := fun r => by
    split <;> rfl
  have hgrown : ∀ r : Record, r.Grown (if r.buffer = some b then { r with buffer := none } else r) := fun r => by
    split <;> exact ⟨rfl, rfl, fun _ => id⟩
  exact hfreed.trans ((mapRecords_recedes _ hclear hgrown).trans (compositionTest_recedes _))

theorem rowResolved_recedes (b : BufferId) : Recedes s (rowResolved b s) := by
  unfold rowResolved
  split
  · exact .refl s
  next m hm =>
    have hset : Recedes s { s with maps := { s.maps with
        buffers := s.maps.buffers.set b (some { m with resolved := m.resolved + 1 }) } } :=
      ⟨id, fun c h => by
        have hc : c ≠ b := fun hc => nomatch (hc ▸ h).symm.trans hm
        exact (four_get_set_other _ _ _ _ hc).trans h, fun _ => id, fun _ => id, id, fun _ => id, fun _ _ => rfl, .refl _⟩
    dsimp only
    split
    · exact hset.trans (releaseBuffer_recedes _ b)
    · exact hset

variable {s}

/-- A row of a board that has rows waiting or under way is skipped. -/
theorem skipRow_recedes {u : State} (h : Recedes s u) {tag : Nat} (htag : ∀ x, s.Cleared x → tag ≠ x) (b : BufferId) (k : ExcKind)
    (dose : Nat) : Recedes s (skipRow tag b k dose u) := by
  have hupdate : Recedes s (updateRecord tag (Record.skipRow k dose) u) := by
    refine ⟨h.gate, h.buffer, h.order, h.entries, h.attention, h.cleared, fun x hx => Eq.trans ?_ (h.rows x hx), h.grows.trans (.map (fun r => ?_) _)⟩
    case refine_2 =>
      split
      · exact grown_skipRow k dose r
      · exact .refl r
    show (u.tracker.records.map _).map (resolvedOf x) = _
    rw [List.map_map]
    refine List.map_congr_left fun r _ => ?_
    show resolvedOf x (if r.tag = tag then r.skipRow k dose else r) = resolvedOf x r
    split
    next hr =>
      have hne : r.tag ≠ x := fun hx' => htag x hx (hr.symm.trans hx')
      exact (if_neg hne).trans (if_neg hne).symm
    next => rfl
  exact hupdate.trans (rowResolved_recedes _ b)

theorem dropRow_recedes {u : State} (h : Recedes s u) {e : StrokeEntry} (htag : ∀ x, s.Cleared x → e.tag ≠ x) (k : ExcKind) (p : Bool) :
    Recedes s (dropRow e k p u) := by
  unfold dropRow
  split
  · exact (skipRow_recedes h htag _ _ _).trans (conditionAppears_recedes _ _)
  · exact skipRow_recedes h htag _ _ _

/-- Rows that wait are served, dropped or left waiting. -/
theorem serveRows_recedes (es : List StrokeEntry) (u : State) (hu : Recedes s u) (h : ∀ e ∈ es, e ∈ s.spray.queue) :
    Recedes s (serveRows es u) := by
  induction es generalizing u with
  | nil =>
    exact ⟨hu.gate, hu.buffer, hu.order, fun _ he => (nomatch he), hu.attention,
      fun tag hc => ⟨fun _ he => (nomatch he), (hu.cleared tag hc).2⟩, hu.rows, hu.grows⟩
  | cons e rest ih =>
    have hrest : ∀ x ∈ rest, x ∈ s.spray.queue := fun x hx => h x (List.mem_cons_of_mem _ hx)
    have htag : ∀ x, s.Cleared x → e.tag ≠ x := fun x hx => hx.1 e (h e List.mem_cons_self)
    unfold serveRows
    split
    · refine ⟨hu.gate, hu.buffer, hu.order, hrest, hu.attention, fun tag hc => ⟨fun x hx => hc.1 x (hrest x hx), fun n hn => ?_⟩, hu.rows, hu.grows⟩
      have hbuilt : Running.stroke (buildStroke u.spray.position e) = .stroke n := hn
      cases hbuilt
      exact htag tag hc
    · exact ih _ (dropRow_recedes hu htag _ _) hrest

theorem serveQueue_recedes : Recedes s (serveQueue s) := by
  unfold serveQueue
  split
  · exact .refl s
  · exact serveRows_recedes _ s (.refl s) fun _ => id

/-- A traverse at rest, its queue as it stood. -/
theorem atRest_recedes {x : Spray} (hq : x.queue = s.spray.queue) (hr : x.running = .idle) : Recedes s (s.setSpray x) :=
  ⟨id, fun _ => id, fun _ => id, fun e he => by rwa [State.setSpray, hq] at he, id,
    fun tag hc => ⟨fun e he => hc.1 e (by rwa [State.setSpray, hq] at he), fun n hn => nomatch hr.symm.trans hn⟩, fun _ _ => rfl, .refl _⟩

theorem haltTraverse_recedes : Recedes s (haltTraverse s) :=
  (atRest_recedes (x := { s.spray with position := s.haltPosition, running := .idle, sprayOpen := false, purgeOpen := false }) rfl rfl :)

theorem cutStroke_recedes (k : ExcKind) : Recedes s (cutStroke k s) := by
  unfold cutStroke
  split
  next r hr => exact skipRow_recedes haltTraverse_recedes (fun x hx => hx.2 r hr) _ _ _
  · exact .refl s
  · exact .refl s

theorem cutPurge_recedes : Recedes s (cutPurge s) := by
  unfold cutPurge
  split
  · have hpurge := atRest_recedes (s := haltTraverse s) (x := { (haltTraverse s).spray with purge := .aborted }) rfl rfl
    exact haltTraverse_recedes.trans hpurge
  · exact .refl s
  · exact .refl s

theorem skipRows_recedes (es : List StrokeEntry) (u : State) (hu : Recedes s u) (h : ∀ e ∈ es, e ∈ s.spray.queue) :
    Recedes s (skipRows es u) := by
  induction es generalizing u with
  | nil =>
    exact ⟨hu.gate, hu.buffer, hu.order, fun _ he => (nomatch he), hu.attention,
      fun tag hc => ⟨fun _ he => (nomatch he), (hu.cleared tag hc).2⟩, hu.rows, hu.grows⟩
  | cons e rest ih =>
    exact ih _ (skipRow_recedes hu (fun x hx => hx.1 e (h e List.mem_cons_self)) _ _ _) fun x hx => h x (List.mem_cons_of_mem _ hx)

theorem spraySafe_recedes : Recedes s (spraySafe s) := by
  have hcut : Recedes s (cutStroke .fluxSkip s) := cutStroke_recedes _
  have hskip := hcut.trans (skipRows_recedes (cutStroke .fluxSkip s).spray.queue _ (.refl _) fun _ => id)
  have hpurge := hskip.trans cutPurge_recedes
  refine hpurge.trans ⟨id, fun _ => id, fun _ => id, fun _ => id, id, fun _ => id, fun _ _ => rfl, .refl _⟩

theorem sprayAtMode_recedes (new : Mode) : Recedes s (sprayAtMode new s) := by
  have hpurge : Recedes s (match s.spray.running with
      | .purge _ _ => serveQueue (cutPurge s)
      | .idle => s
      | .stroke _ => s) := by
    split
    · exact cutPurge_recedes.trans serveQueue_recedes
    · exact .refl s
    · exact .refl s
  cases new with
  | safe => exact spraySafe_recedes
  | idle | warmup | calibrating => exact hpurge
  | ready | run | drain | hold | standby => exact .refl s

theorem sprayExtractionLost_recedes : Recedes s (sprayExtractionLost s) := by
  unfold sprayExtractionLost
  split
  next hr => exact atRest_recedes rfl hr
  · exact (cutStroke_recedes _).trans serveQueue_recedes
  · exact cutPurge_recedes.trans serveQueue_recedes

/-! ### The extraction, the wave and the loops -/

variable (s)

theorem changeExtraction_recedes (new : ExtState) : Recedes s (changeExtraction new s) := by
  have hset : Recedes s (s.setExtr ((s.extr.enter new).graceAt (new == .failed) s.configured)) := .of_eq rfl rfl rfl rfl id
  have hjudged := hset.trans ((judgeQuiet_recedes _ .extractWarn (new == .warn)).trans
    (judgeQuiet_recedes _ .extractFail (new == .failed)))
  unfold changeExtraction
  dsimp only
  split
  · exact hjudged.trans sprayExtractionLost_recedes
  · exact hjudged

theorem fanSync_recedes : Recedes s (fanSync s) := by
  have hset : ∀ x, Recedes s (s.setExtr x) := fun _ => .of_eq rfl rfl rfl rfl id
  unfold fanSync
  split
  · exact .refl s
  · split
    · exact (hset _).trans (changeExtraction_recedes _ _)
    · exact (hset _).trans (changeExtraction_recedes _ _)

theorem supplyAtMode_recedes (old new : Mode) : Recedes s (supplyAtMode old new s) := by
  unfold supplyAtMode judgeSupply
  split
  · exact .refl s
  · split
    · exact (conditionAppears_recedes s _).trans (.of_eq rfl rfl rfl rfl id)
    · exact conditionEnds_recedes s _

theorem entryMarks_recedes (new : Mode) : Recedes s (entryMarks new s) := by
  cases new <;> exact .of_eq rfl rfl rfl rfl id

theorem modeSet_recedes (new : Mode) : Recedes s (modeSet new s) := by
  unfold modeSet
  dsimp only
  split <;> exact .of_eq rfl rfl rfl rfl id

theorem waveSync_recedes : Recedes s (waveSync s) := by
  unfold waveSync driveWave
  split
  · exact .refl s
  · have hput : Recedes s { s with
        wave := { s.wave with output := s.waveTarget }, pot := watchDrive s.driveThreshold s.waveTarget s.pot } :=
      .of_eq rfl rfl rfl rfl id
    exact hput.trans (mapRecords_recedes _ (resolved_takeDrive _) (grown_takeDrive _))

theorem judgeSide_recedes (side : WaveSide) : Recedes s (judgeSide side s) := by
  have hset : Recedes s (s.setWave { s.wave with side := side }) := .of_eq rfl rfl rfl rfl id
  have hlimit : Recedes s (if side = .none then conditionEnds .waveLimit (s.setWave { s.wave with side := side })
      else conditionAppears .waveLimit (s.setWave { s.wave with side := side })) := by
    split
    · exact hset.trans (conditionEnds_recedes _ _)
    · exact hset.trans (conditionAppears_recedes _ _)
  unfold judgeSide
  dsimp only
  split
  · exact hlimit.trans (mapRecords_recedes _ resolved_waveShort grown_waveShort)
  · exact hlimit

theorem computeDrive_recedes (level : Int) : Recedes s (computeDrive level s) := by
  have hset : ∀ (u : State) (x : Wave), Recedes u (u.setWave x) := fun _ _ => .of_eq rfl rfl rfl rfl id
  exact (judgeSide_recedes s (s.driveAt level).2).trans ((hset _ _).trans (waveSync_recedes _))

theorem waveAtMode_recedes (old new : Mode) : Recedes s (waveAtMode old new s) := by
  have hset : Recedes s (s.setWave { s.wave with computed := none }) := .of_eq rfl rfl rfl rfl id
  unfold waveAtMode
  split
  · exact computeDrive_recedes s _
  · split
    · exact hset.trans ((waveSync_recedes _).trans (judgeSide_recedes _ _))
    · exact waveSync_recedes s

theorem failSearch_recedes (c : CalCause) : Recedes s (failSearch c s) := by
  have hset : Recedes s (s.setWave { s.wave with phase := .none, outcome := .failed, cause := c }) := .of_eq rfl rfl rfl rfl id
  exact hset.trans ((waveSync_recedes _).trans (occurrence_recedes _ _ _))

theorem searchAtSafe_recedes : Recedes s (searchAtSafe s) := by
  unfold searchAtSafe
  split
  · exact failSearch_recedes s _
  · exact .refl s
  · exact .refl s

theorem closeGate_recedes : Recedes s (closeGate s) := 
  ⟨fun _ => rfl, fun _ => id, fun _ => id, fun _ => id, id, fun _ => id, fun _ _ => rfl, .refl _⟩

theorem trackAtMode_recedes (new : Mode) : Recedes s (trackAtMode new s) := by
  cases new with
  | idle | ready | standby => exact closeGate_recedes s
  | safe => exact (closeGate_recedes s).trans (mapRecords_recedes _ (fun r => by split <;> simp) fun r => by
      split
      · exact grown_safePass r
      · exact .refl r)
  | warmup | run | drain | hold | calibrating => exact .refl s

theorem conveyorSync_recedes : Recedes s (conveyorSync s) := by
  unfold conveyorSync
  split
  · exact .refl s
  · split <;> exact .of_eq rfl rfl rfl rfl id

theorem afterLoops_recedes : Recedes s (afterLoops s) := by
  obtain ⟨p, hp⟩ := afterLoops_eq_setPot s
  rw [hp]
  exact .of_eq rfl rfl rfl rfl id

/-! ### The mode and the severities -/

theorem setMode_recedes (new : Mode) : Recedes s (setMode new s) := by
  have hjudged : Recedes s (modeJudged new s) := (modeSet_recedes s new).trans ((entryMarks_recedes _ new).trans
    ((supplyAtMode_recedes _ _ _).trans (fanSync_recedes _)))
  have hspray := hjudged.trans (sprayAtMode_recedes new)
  have hsearch : Recedes s (if new = .safe then searchAtSafe (sprayAtMode new (modeJudged new s))
      else sprayAtMode new (modeJudged new s)) := by
    split
    · exact hspray.trans (searchAtSafe_recedes _)
    · exact hspray
  rw [setMode_eq]
  exact hsearch.trans ((waveAtMode_recedes _ _ _).trans ((trackAtMode_recedes _ _).trans ((conveyorSync_recedes _).trans
    (afterLoops_recedes _))))

theorem setModes_recedes (x : ModeCtl) : Recedes s (s.setModes x) := .of_eq rfl rfl rfl rfl id

theorem toDrain_recedes (t : DrainTarget) : Recedes s (toDrain t s) := (setModes_recedes s _).trans (setMode_recedes _ _)

theorem drainCompletes_recedes : Recedes s (drainCompletes s) := by
  unfold drainCompletes
  split
  · exact setMode_recedes s _
  · exact .refl s

theorem forceStandby_recedes : Recedes s (forceStandby s) := by
  unfold forceStandby
  split
  · exact setMode_recedes s _
  · exact (toDrain_recedes s _).trans (drainCompletes_recedes _)
  · split
    · exact setModes_recedes s _
    · exact .refl s
  · exact (toDrain_recedes s _).trans (drainCompletes_recedes _)
  all_goals exact .refl s

theorem forcedTest_recedes : Recedes s (forcedTest s) := by
  have hset : Recedes s (s.setExtr { s.extr with forcedDue := false }) := .of_eq rfl rfl rfl rfl id
  unfold forcedTest
  split
  · exact hset.trans (forceStandby_recedes _)
  · exact .refl s

theorem drainTest_recedes : Recedes s (drainTest s) := (drainCompletes_recedes s).trans (forcedTest_recedes _)

theorem enterDrain_recedes (t : DrainTarget) : Recedes s (enterDrain t s) := (toDrain_recedes s t).trans (drainTest_recedes _)

theorem enterHold_recedes : Recedes s (enterHold s) :=
  (setModes_recedes s _).trans ((setMode_recedes _ _).trans (forcedTest_recedes _))

theorem react_recedes (sev : Severity) : Recedes s (react sev s) := by
  unfold react
  split
  · exact .refl s
  · split
    · exact enterDrain_recedes s _
    · exact .refl s
  · split
    · exact .refl s
    · exact setMode_recedes s _

theorem occur_recedes (k : AlarmKind) : Recedes s (occur k s) := (occurrence_recedes s k _).trans (react_recedes _ _)

end

end Sys2Proof.Machine

end

section
/-! PROOFS. The tracker by what changes of the mode leave of it, and the entry timer's expiry (R38, R41, R69). -/

namespace Sys2Proof.Machine

/-! ### The tracker without what modes and rows change -/

section
variable {s t : State} (h : t.tracker.plain = s.tracker.plain)
include h

theorem queue_of_plain : t.tracker.queue = s.tracker.queue := (congrArg Tracker.queue h :)
theorem admission_of_plain : t.tracker.admission = s.tracker.admission := (congrArg Tracker.admission h :)
theorem gapRef_of_plain : t.tracker.gapRef = s.tracker.gapRef := (congrArg Tracker.gapRef h :)
theorem count_of_plain : t.tracker.count = s.tracker.count := (congrArg Tracker.count h :)
theorem measuredSpeed_of_plain : t.tracker.measuredSpeed = s.tracker.measuredSpeed := (congrArg Tracker.measuredSpeed h :)

/-- What a record has besides its rows, its buffer and its wave stands as it did, record by record. -/
theorem records_map_of_plain {α : Type} {f : Record → α} (hf : ∀ r, f r.plain = f r) :
    t.tracker.records.map f = s.tracker.records.map f := by
  have hplain : t.tracker.records.map Record.plain = s.tracker.records.map Record.plain := (congrArg Tracker.records h :)
  have hmap := congrArg (List.map f) hplain
  rw [List.map_map, List.map_map] at hmap
  exact (List.map_congr_left fun r _ => (hf r).symm).trans (hmap.trans (List.map_congr_left fun r _ => hf r))

end

theorem plain_of_ground {s t : State} (h : t.ground = s.ground) : t.tracker.plain = s.tracker.plain := congrArg Ground.tracker h

theorem conveyorSync_plain (s : State) : (conveyorSync s).tracker.plain = s.tracker.plain :=
  (congrArg Core.tracker (conveyorSync_core s) :)

theorem conveyorSync_maps (s : State) : (conveyorSync s).maps = s.maps := by
  unfold conveyorSync
  split
  · rfl
  · split <;> rfl

/-- An alarm that is in force and not of severity NOTICE keeps the gate shut. -/
theorem admissionTest_of_stop {s : State} {k : AlarmKind} (hk : severity k = .stop) (hs : (s.alarm k).state ≠ .clear) :
    admissionTest s = s := by
  refine admissionTest_closed ?_
  rw [← Bool.not_eq_true]
  intro hmay
  obtain ⟨-, -, -, -, -, -, -, hclear, -⟩ := mayAdmit_iff.mp hmay
  exact hs (hclear k (.inl hk))

/-! ### A record that leaves -/

section
variable {s : State} {tag : Nat}

theorem releaseOwned_far : (releaseOwned tag s).far = s.far := by
  unfold releaseOwned
  split
  · exact releaseBuffer_far _ _
  · rfl

theorem releaseOwned_dry : (releaseOwned tag s).dry = s.dry := by
  unfold releaseOwned
  split
  · exact releaseBuffer_dry _ _
  · rfl

theorem plain_of_dry {s t : State} (h : t.dry = s.dry) : t.tracker.plain = s.tracker.plain :=
  (congrArg Core.tracker (core_of_dry h) :)

theorem releaseOwned_alarms : (releaseOwned tag s).alarms = s.alarms := by
  unfold releaseOwned
  split
  · exact releaseBuffer_alarms _ _
  · rfl

theorem releaseOwned_recedes : Recedes s (releaseOwned tag s) := by
  unfold releaseOwned
  split
  · exact releaseBuffer_recedes s _
  · exact .refl s

/-- The buffer that the record names is FREE, and stands in the composition order no more. -/
theorem releaseOwned_freed {r : Record} {b : BufferId} (hr : s.record? tag = some r) (hb : r.buffer = some b) :
    (releaseOwned tag s).maps.buffers.get b = none ∧ b ∉ (releaseOwned tag s).maps.order := by
  have howned : releaseOwned tag s = releaseBuffer b s := by
    unfold releaseOwned
    rw [hr]
    show (match r.buffer with | some b => releaseBuffer b s | none => s) = _
    rw [hb]
  obtain ⟨hbuffers, horder⟩ := releaseBuffer_freed s b
  rw [howned, hbuffers, horder]
  refine ⟨four_get_set_same _ _ _, fun hm => ?_⟩
  simpa using (List.mem_filter.mp hm).2

end

/-- The entry of an event alarm after one more occurrence. -/
def State.latched (s : State) (k : AlarmKind) : AlarmEntry :=
  { state := .latched, count := min 255 ((s.alarm k).count + 1), time := some (s.seconds, .current) }

/-! ### The entry timer (R38, R41) -/

/-- The announcement that a record came from. -/
def Record.announcement (r : Record) : Announcement := { tag := r.tag, slot := r.slot, orientation := r.orientation }

/-- The state once the record has left and its announcement is back at the head of the queue. -/
def entryReturned (tag : Nat) (r : Record) (s : State) : State :=
  let a := dropRecord tag (releaseOwned tag (closeGate s))
  a.setTracker { a.tracker with queue := r.announcement :: a.tracker.queue, admission := none }

theorem entryTimesOut_returns {s : State} {tag n : Nat} {r : Record} (ha : s.tracker.admission = some { tag := tag, timer := some n })
    (hr : s.record? tag = some r) (hc : s.tracker.conveyorRun = true) :
    entryTimesOut s = conveyorSync (occur .entryTimeout (drainTest (entryReturned tag r s))) := by
  unfold entryTimesOut
  simp only [ha, hr, if_pos hc]
  rfl

theorem entryReturned_tracker {s : State} (tag : Nat) (r : Record) : (entryReturned tag r s).tracker.queue = r.announcement :: s.tracker.queue
    ∧ (entryReturned tag r s).tracker.records.map (·.tag) = (s.tracker.records.map (·.tag)).filter (fun x => x ≠ tag)
    ∧ (entryReturned tag r s).tracker.admission = none ∧ (entryReturned tag r s).tracker.gapRef = s.tracker.gapRef
    ∧ (entryReturned tag r s).tracker.gateOpen = false := by
  obtain ⟨a, ha⟩ : ∃ a, a = releaseOwned tag (closeGate s) := ⟨_, rfl⟩
  have hplain : a.tracker.plain = (closeGate s).tracker.plain := ha ▸ plain_of_dry releaseOwned_dry
  have hgate : a.tracker.gateOpen = false := ha ▸ (releaseOwned_recedes (s := closeGate s)).gate rfl
  have htags : a.tracker.records.map (·.tag) = s.tracker.records.map (·.tag) :=
    records_map_of_plain (s := closeGate s) (f := (·.tag)) hplain fun _ => rfl
  unfold entryReturned
  rw [← ha]
  refine ⟨congrArg (r.announcement :: ·) (queue_of_plain hplain :), ?_, rfl, (gapRef_of_plain hplain :), hgate⟩
  show (a.tracker.records.filter (fun x => x.tag ≠ tag)).map (·.tag) = _
  rw [← htags, List.filter_map]
  rfl

/-- Settles O37: the record's return, and what the drain test, the alarm and the conveyor leave of it. -/
theorem entryTimeoutReturnsTheAnnouncement : Obligations.EntryTimeoutReturnsTheAnnouncement := by
  intro tag n r s hadm hr hc
  obtain ⟨v, hv⟩ : ∃ v, v = entryReturned tag r s := ⟨_, rfl⟩
  obtain ⟨hqueue, htags, hnone, hgap, hgate⟩ := entryReturned_tracker (s := s) tag r
  have hfreed : ∀ b, r.buffer = some b → v.maps.buffers.get b = none ∧ b ∉ v.maps.order := fun b hb =>
    hv ▸ releaseOwned_freed (s := closeGate s) hr hb
  have hfar : v.far = s.far := by
    rw [hv]
    exact (releaseOwned_far (tag := tag) (s := closeGate s) :).trans (closeGate_far s)
  have halarm : v.alarm .entryTimeout = s.alarm .entryTimeout := by
    rw [hv]
    exact (congrArg (·.get .entryTimeout) (releaseOwned_alarms (tag := tag) (s := closeGate s)) :)
  obtain ⟨d, hd⟩ : ∃ d, d = drainTest v := ⟨_, rfl⟩
  obtain ⟨o, ho⟩ : ∃ o, o = occur .entryTimeout d := ⟨_, rfl⟩
  have hplain : (conveyorSync o).tracker.plain = v.tracker.plain := by
    rw [conveyorSync_plain, ho, plain_of_ground (occur_ground d _), hd, plain_of_ground (drainTest_ground v)]
  have hrecedes : Recedes v (conveyorSync o) := by
    rw [ho, hd]
    exact (drainTest_recedes v).trans ((occur_recedes _ _).trans (conveyorSync_recedes _))
  have hentry : (conveyorSync o).alarm .entryTimeout = s.latched .entryTimeout := by
    rw [conveyorSync_alarm _ (by decide), ho, occur_alarm_same (by decide), hd, drainTest_alarm (by decide), halarm,
      seconds_of_far ((drainTest_far v).trans hfar)]
    rfl
  have hout : (conveyorSync o).far = s.far := by
    rw [conveyorSync_far, ho, occur_far, hd, drainTest_far, hfar]
  have hexec : exec .entryTimerExpiry s = .next (conveyorSync o) := by
    show Host.Outcome.next (admissionTest (entryTimesOut s)) = _
    rw [entryTimesOut_returns hadm hr hc, ← hv, ← hd, ← ho,
      admissionTest_of_stop (k := .entryTimeout) rfl (by rw [hentry]; show AlarmState.latched ≠ .clear; decide)]
  rw [← hv] at hqueue htags hnone hgap hgate
  refine ⟨conveyorSync o, hexec, sameOutside_of_far hout, (queue_of_plain hplain).trans hqueue, ?_, hrecedes.gate hgate,
    (admission_of_plain hplain).trans hnone, (gapRef_of_plain hplain).trans hgap, fun b hb => ?_, hentry⟩
  · exact (records_map_of_plain hplain fun _ => rfl).trans htags
  · obtain ⟨hget, horder⟩ := hfreed b hb
    exact ⟨hrecedes.buffer b hget, fun hm => horder (hrecedes.order b hm)⟩

end Sys2Proof.Machine

end

section
/-! PROOFS. A record leaves the Transit Table as a report, by the five steps of R54. -/

namespace Sys2Proof.Machine

/-! ### The records by what the removal of another leaves -/

/-- What no row, no stage event and no mode changes of a record. -/
def Record.face (r : Record) : Nat × Nat × Option Count24 × Option Nat × Nat × Stage × Bool :=
  (r.tag, r.slot, r.entry, r.measured, r.rowsTotal, r.stage, r.matched)

theorem find?_of_map_eq {α : Type} {l m : List Record} {f : Record → α} {p : α → Bool} (h : m.map f = l.map f) :
    (m.find? (p ∘ f)).map f = (l.find? (p ∘ f)).map f := by
  rw [← List.find?_map, ← List.find?_map, h]

section
variable {s t : State} {tag : Nat}

/-- The record found by a tag is known by its face. -/
theorem record?_face (h : t.tracker.records.map Record.face = s.tracker.records.map Record.face) :
    (t.record? tag).map Record.face = (s.record? tag).map Record.face :=
  find?_of_map_eq (f := Record.face) (p := fun f => decide (Prod.fst f = tag)) h

theorem find?_resolved (l : List Record) : (l.find? (fun r => r.tag = tag)).map Record.resolved
    = ((l.map (resolvedOf tag)).find? Option.isSome).bind id := by
  rw [List.find?_map]
  have hp : (Option.isSome ∘ resolvedOf tag) = fun r => decide (r.tag = tag) := funext fun r => by
    show (resolvedOf tag r).isSome = _
    unfold resolvedOf
    split
    next h => exact (decide_eq_true h).symm
    next h => exact (decide_eq_false h).symm
  rw [hp]
  cases hf : l.find? (fun r => r.tag = tag) with
  | none => rfl
  | some r =>
    have htag : r.tag = tag := by simpa using List.find?_some hf
    exact (if_pos htag : resolvedOf tag r = some r.resolved).symm

/-- The rows of the record found by a tag. -/
theorem record?_resolved (h : t.tracker.records.map (resolvedOf tag) = s.tracker.records.map (resolvedOf tag)) :
    (t.record? tag).map Record.resolved = (s.record? tag).map Record.resolved := by
  unfold State.record?
  rw [find?_resolved, find?_resolved, h]

/-- A record found by its tag after a change of the records with that tag. -/
theorem record?_updateRecord {f : Record → Record} (hf : ∀ r, (f r).tag = r.tag) :
    (updateRecord tag f s).record? tag = (s.record? tag).map f := by
  show (s.tracker.records.map _).find? _ = (s.tracker.records.find? _).map f
  rw [List.find?_map]
  have hp : ((fun r : Record => decide (r.tag = tag)) ∘ fun r : Record => if r.tag = tag then f r else r)
      = fun r => decide (r.tag = tag) := funext fun r => by
    show decide ((if r.tag = tag then f r else r).tag = tag) = decide (r.tag = tag)
    split
    · rw [hf]
    · rfl
  rw [hp]
  cases hr : s.tracker.records.find? (fun r => decide (r.tag = tag)) with
  | none => rfl
  | some r =>
    have htag : r.tag = tag := by simpa using List.find?_some hr
    exact congrArg some (if_pos htag)

theorem updateRecord_face {f : Record → Record} (hf : ∀ r, (f r).face = r.face) :
    (updateRecord tag f s).tracker.records.map Record.face = s.tracker.records.map Record.face := by
  show (s.tracker.records.map _).map Record.face = _
  rw [List.map_map]
  refine List.map_congr_left fun r _ => ?_
  show (if r.tag = tag then f r else r).face = r.face
  split
  · exact hf r
  · rfl

theorem face_of_plain (h : t.tracker.plain = s.tracker.plain) :
    t.tracker.records.map Record.face = s.tracker.records.map Record.face := records_map_of_plain h fun _ => rfl

/-! ### Step 1: the rows (R54, R82) -/

/-- The Stroke Queue without the board's rows. -/
def queueCleared (tag : Nat) (s : State) : State := s.setSpray { s.spray with queue := s.spray.queue.filter (fun e => e.tag ≠ tag) }

theorem queueCleared_entries {e : StrokeEntry} (h : e ∈ (queueCleared tag s).spray.queue) : e.tag ≠ tag := by
  simpa using (List.mem_filter.mp h).2

/-- The board's stroke ends where it stands. -/
def strokeCleared (tag : Nat) (n : Stroke) (s : State) : State :=
  updateRecord tag (Record.addDose n.deliveredNow) (haltTraverse (queueCleared tag s))

theorem sprayClear_cases : (sprayClear tag s = queueCleared tag s ∧ (queueCleared tag s).Cleared tag)
    ∨ ∃ n, sprayClear tag s = serveQueue (strokeCleared tag n s) := by
  unfold sprayClear
  dsimp only
  split
  next n hn =>
    by_cases ht : n.tag = tag
    · exact .inr ⟨n, if_pos ht⟩
    · refine .inl ⟨if_neg ht, fun _ => queueCleared_entries, fun m hm => ?_⟩
      have hrun : s.spray.running = .stroke m := hm
      have hsame : s.spray.running = .stroke n := hn
      rw [hsame] at hrun
      cases hrun
      exact ht
  next hn => exact .inl ⟨rfl, fun _ => queueCleared_entries, fun m hm => nomatch hn.symm.trans hm⟩
  next hn => exact .inl ⟨rfl, fun _ => queueCleared_entries, fun m hm => nomatch hn.symm.trans hm⟩

theorem strokeCleared_cleared (n : Stroke) : (strokeCleared tag n s).Cleared tag :=
  ⟨fun _ => queueCleared_entries, fun _ hm => nomatch hm⟩

theorem sprayClear_cleared : (sprayClear tag s).Cleared tag := by
  obtain ⟨h, hc⟩ | ⟨n, h⟩ := sprayClear_cases (s := s) (tag := tag)
  · rw [h]
    exact hc
  · rw [h]
    exact serveQueue_recedes.cleared tag (strokeCleared_cleared n)

theorem sprayClear_dry : (sprayClear tag s).dry = s.dry := by
  obtain ⟨h, -⟩ | ⟨n, h⟩ := sprayClear_cases (s := s) (tag := tag)
  · rw [h]
    exact setSpray_dry s _
  · rw [h, serveQueue_dry, strokeCleared, updateRecord_dry _ _ (plain_addDose _)]
    rfl

/-- The board's resolved rows stand as they did. -/
theorem sprayClear_resolved : (sprayClear tag s).tracker.records.map (resolvedOf tag) = s.tracker.records.map (resolvedOf tag) := by
  obtain ⟨h, -⟩ | ⟨n, h⟩ := sprayClear_cases (s := s) (tag := tag)
  · rw [h]
    rfl
  · rw [h, serveQueue_recedes.rows tag (strokeCleared_cleared n)]
    refine resolved_map ?_ tag
    show (s.tracker.records.map _).map Record.resolved = _
    rw [List.map_map]
    refine List.map_congr_left fun r _ => ?_
    show (if r.tag = tag then r.addDose n.deliveredNow else r).resolved = r.resolved
    split <;> rfl

/-- Every row of a record is resolved once its rest counts as skipped. -/
theorem skipUnresolved_counts (r : Record) : r.skipUnresolved.sprayed = r.sprayed
    ∧ r.skipUnresolved.sprayed + r.skipUnresolved.skipped = max r.rowsTotal (r.sprayed + r.skipped) := by
  unfold Record.skipUnresolved Record.unresolved
  dsimp only
  split
  · exact ⟨rfl, by omega⟩
  · exact ⟨rfl, by dsimp only; omega⟩

theorem skipUnresolved_face (r : Record) : r.skipUnresolved.face = r.face := by
  unfold Record.skipUnresolved
  dsimp only
  split <;> rfl

/-! ### Step 2: the pyrometer (R47, R54) -/

theorem evaluate_kept (recipe : Recipe) (r : Record) : (r.evaluate recipe).face = r.face ∧ (r.evaluate recipe).resolved = r.resolved := by
  unfold Record.evaluate
  dsimp only
  split
  · exact ⟨rfl, rfl⟩
  · split
    · exact ⟨rfl, rfl⟩
    · split <;> exact ⟨rfl, rfl⟩

/-- The evaluation that a record has not had yet. -/
def Record.judged (recipe : Recipe) (r : Record) : Record := if r.pyroDone then r else r.evaluate recipe

theorem judged_kept (recipe : Recipe) (r : Record) : (r.judged recipe).face = r.face ∧ (r.judged recipe).resolved = r.resolved := by
  unfold Record.judged
  split
  · exact ⟨rfl, rfl⟩
  · exact evaluate_kept recipe r

/-! ### Step 3: the overlaps and the wave window (R17, R46, R48) -/

theorem waveClearTest_ground (occupied : Bool) : (waveClearTest occupied s).ground = s.ground := by
  unfold waveClearTest
  split
  · exact enterHold_ground s
  · rfl

theorem waveClearTest_recedes (occupied : Bool) : Recedes s (waveClearTest occupied s) := by
  unfold waveClearTest
  split
  · exact enterHold_recedes s
  · exact .refl s

theorem giveBoosts_recedes : Recedes s (giveBoosts s) := .of_eq rfl rfl rfl rfl id

/-- The board's rows and its pyrometer evaluation settled. -/
def rowsSettled (tag : Nat) (s : State) : State :=
  let s1 := updateRecord tag Record.skipUnresolved (sprayClear tag s)
  updateRecord tag (fun r => r.judged (s1.recipeOf r.slot)) s1

/-- The overlaps ended, before the wave window's test. -/
def overlapsEnded (tag : Nat) (s : State) : State := giveBoosts (updateRecord tag Record.endOverlaps (rowsSettled tag s))

/-- The record as its report is made, its buffer released. -/
def readyToLeave (tag : Nat) (s : State) : State := releaseOwned tag (waveClearTest s.waveOccupied (overlapsEnded tag s))

theorem removeAsReport_eq (lost : Bool) :
    removeAsReport tag lost s = conveyorSync (drainTest (reportRecord tag lost (readyToLeave tag s))) := rfl

theorem rowsSettled_face : (rowsSettled tag s).tracker.records.map Record.face = s.tracker.records.map Record.face := by
  unfold rowsSettled
  dsimp only
  rw [updateRecord_face fun r => (judged_kept _ r).1, updateRecord_face skipUnresolved_face, face_of_plain (plain_of_dry sprayClear_dry)]

/-- The record whose report is made: the board's rows are all resolved. -/
theorem rowsSettled_record {r : Record} (hr : s.record? tag = some r) : ∃ x, (rowsSettled tag s).record? tag = some x
    ∧ x.face = r.face ∧ x.sprayed = r.sprayed ∧ x.sprayed + x.skipped = max r.rowsTotal (r.sprayed + r.skipped) := by
  have hface := record?_face (tag := tag) (face_of_plain (plain_of_dry (sprayClear_dry (s := s) (tag := tag))))
  have hresolved := record?_resolved (tag := tag) (sprayClear_resolved (s := s))
  rw [hr] at hface hresolved
  obtain ⟨y, hy, hyface⟩ := Option.map_eq_some_iff.mp hface
  rw [hy] at hresolved
  have hrows : y.resolved = r.resolved := Option.some.inj hresolved
  have htotal : y.rowsTotal = r.rowsTotal := (congrArg (fun f => f.2.2.2.2.1) hyface :)
  have hsprayed : y.sprayed = r.sprayed := (congrArg (fun f => f.2.1) hrows :)
  have hskipped : y.skipped = r.skipped := (congrArg (fun f => f.2.2) hrows :)
  obtain ⟨hs, hsum⟩ := skipUnresolved_counts y
  unfold rowsSettled
  dsimp only
  rw [record?_updateRecord fun x => (congrArg Prod.fst (judged_kept _ x).1 :),
    record?_updateRecord fun x => (congrArg Prod.fst (skipUnresolved_face x) :), hy]
  obtain ⟨hjface, hjrows⟩ := judged_kept
    ((updateRecord tag Record.skipUnresolved (sprayClear tag s)).recipeOf y.skipUnresolved.slot) y.skipUnresolved
  have hjs : (y.skipUnresolved.judged _).sprayed = y.skipUnresolved.sprayed := (congrArg (fun f => f.2.1) hjrows :)
  have hjk : (y.skipUnresolved.judged _).skipped = y.skipUnresolved.skipped := (congrArg (fun f => f.2.2) hjrows :)
  refine ⟨_, rfl, hjface.trans ((skipUnresolved_face y).trans hyface), hjs.trans (hs.trans hsprayed), ?_⟩
  rw [hjs, hjk, hsum, htotal, hsprayed, hskipped]

/-! ### Steps 4 and 5: the buffer, and the report (R54, R69, R172) -/

theorem endOverlaps_face (r : Record) : r.endOverlaps.face = r.face := rfl

theorem rowsSettled_far : (rowsSettled tag s).far = s.far := by
  unfold rowsSettled
  dsimp only
  rw [updateRecord_far, updateRecord_far, sprayClear_far]

theorem overlapsEnded_cleared : (overlapsEnded tag s).Cleared tag := by
  have hspray : (overlapsEnded tag s).spray = (sprayClear tag s).spray := rfl
  unfold State.Cleared
  rw [hspray]
  exact sprayClear_cleared

theorem readyToLeave_ground : (readyToLeave tag s).far = s.far
    ∧ (readyToLeave tag s).tracker.records.map Record.face = s.tracker.records.map Record.face := by
  have hground := waveClearTest_ground (s := overlapsEnded tag s) s.waveOccupied
  refine ⟨?_, ?_⟩
  · rw [readyToLeave, releaseOwned_far, far_of_ground hground, overlapsEnded, giveBoosts_far, updateRecord_far, rowsSettled_far]
  · rw [readyToLeave, face_of_plain (plain_of_dry releaseOwned_dry), face_of_plain (plain_of_ground hground)]
    exact (updateRecord_face (s := rowsSettled tag s) endOverlaps_face).trans rowsSettled_face

theorem readyToLeave_recedes : Recedes (overlapsEnded tag s) (readyToLeave tag s) :=
  (waveClearTest_recedes _).trans releaseOwned_recedes

theorem readyToLeave_record {r : Record} (hr : s.record? tag = some r) : ∃ x, (readyToLeave tag s).record? tag = some x
    ∧ x.face = r.face ∧ x.sprayed = r.sprayed ∧ x.sprayed + x.skipped = max r.rowsTotal (r.sprayed + r.skipped) := by
  obtain ⟨y, hy, hyface, hys, hysum⟩ := rowsSettled_record hr
  have hended : (overlapsEnded tag s).record? tag = some y.endOverlaps := by
    refine Eq.trans ?_ (congrArg (Option.map Record.endOverlaps) hy)
    exact record?_updateRecord (s := rowsSettled tag s) (f := Record.endOverlaps) fun _ => rfl
  have hrows := record?_resolved ((readyToLeave_recedes (s := s)).rows tag overlapsEnded_cleared)
  have hface := record?_face (tag := tag) (readyToLeave_ground (s := s) (tag := tag)).2
  rw [hended] at hrows
  rw [hr] at hface
  obtain ⟨x, hx, hxface⟩ := Option.map_eq_some_iff.mp hface
  rw [hx] at hrows
  have hresolved : x.resolved = y.endOverlaps.resolved := Option.some.inj hrows
  have hs : x.sprayed = y.sprayed := (congrArg (fun f => f.2.1) hresolved :)
  have hk : x.skipped = y.skipped := (congrArg (fun f => f.2.2) hresolved :)
  exact ⟨x, hx, hxface, hs.trans hys, by rw [hs, hk, hysum]⟩

/-- The record gone, its report in the queue. -/
def reported (tag : Nat) (lost : Bool) (x : Record) (s : State) : State :=
  joinReport (makeReport s.reports.next s.seconds lost x) (dropRecord tag (readyToLeave tag s))

theorem reportRecord_readyToLeave {lost : Bool} {x : Record} (hx : (readyToLeave tag s).record? tag = some x) :
    reportRecord tag lost (readyToLeave tag s) = reported tag lost x s := by
  have hfar := (readyToLeave_ground (s := s) (tag := tag)).1
  have hreports : (readyToLeave tag s).reports = s.reports := (congrArg Far.reports hfar :)
  unfold reportRecord reported
  rw [hx, ← seconds_of_far hfar, ← hreports]

/-- What stands behind the report joins the queue: the drain test and the conveyor change no report. -/
theorem removeAsReport_ground {lost : Bool} {x : Record} (hx : (readyToLeave tag s).record? tag = some x) :
    (removeAsReport tag lost s).far = (reported tag lost x s).far
    ∧ (removeAsReport tag lost s).tracker.plain = (reported tag lost x s).tracker.plain
    ∧ Recedes (reported tag lost x s) (removeAsReport tag lost s) := by
  rw [removeAsReport_eq, reportRecord_readyToLeave hx]
  refine ⟨by rw [conveyorSync_far, drainTest_far], ?_, (drainTest_recedes _).trans (conveyorSync_recedes _)⟩
  rw [conveyorSync_plain, plain_of_ground (drainTest_ground _)]

theorem onReport_attention (a : Alert) : a.onReport.attention = true := by
  unfold Alert.onReport
  cases a.mode <;> simp

/-- The records that stay. -/
theorem removeAsReport_records {lost : Bool} {r : Record} (hr : s.record? tag = some r) :
    (removeAsReport tag lost s).tracker.records.map Record.face
      = (s.tracker.records.map Record.face).filter (fun f => f.1 ≠ tag) := by
  obtain ⟨x, hx, -⟩ := readyToLeave_record hr
  rw [face_of_plain (removeAsReport_ground hx).2.1, ← (readyToLeave_ground (s := s) (tag := tag)).2]
  show ((readyToLeave tag s).tracker.records.filter (fun x => x.tag ≠ tag)).map Record.face = _
  rw [List.filter_map]
  rfl

theorem removeAsReport_tags {lost : Bool} {r : Record} (hr : s.record? tag = some r) :
    (removeAsReport tag lost s).tracker.records.map (·.tag) = (s.tracker.records.map (·.tag)).filter (fun x => x ≠ tag) := by
  have htags := congrArg (List.map Prod.fst) (removeAsReport_records (lost := lost) hr)
  rw [List.map_map, List.filter_map, List.map_map] at htags
  rw [List.filter_map]
  exact htags

/-- The report of a record that leaves, at the tail of the queue. -/
theorem removeAsReport_report {lost : Bool} {r : Record} (hr : s.record? tag = some r) : ∃ x : Record,
    x.face = r.face ∧ x.sprayed = r.sprayed ∧ x.sprayed + x.skipped = max r.rowsTotal (r.sprayed + r.skipped)
    ∧ (removeAsReport tag lost s).far = { s.far with reports :=
        { queue := s.reports.queue ++ [makeReport s.reports.next s.seconds lost x], next := (s.reports.next + 1) % 65536 } }
    ∧ (∀ e ∈ (removeAsReport tag lost s).spray.queue, e.tag ≠ tag) ∧ (removeAsReport tag lost s).alert.attention = true := by
  obtain ⟨x, hx, hface, hs, hsum⟩ := readyToLeave_record hr
  obtain ⟨hfar, -, hrecedes⟩ := removeAsReport_ground (lost := lost) hx
  have hready := (readyToLeave_ground (s := s) (tag := tag)).1
  have hcleared : (readyToLeave tag s).Cleared tag := readyToLeave_recedes.cleared tag (overlapsEnded_cleared (s := s))
  refine ⟨x, hface, hs, hsum, ?_, (hrecedes.cleared tag hcleared).1, hrecedes.attention (onReport_attention _)⟩
  rw [hfar]
  have hreports : (readyToLeave tag s).reports = s.reports := (congrArg Far.reports hready :)
  have hjoined : (reported tag lost x s).far = { (readyToLeave tag s).far with reports :=
      { queue := (readyToLeave tag s).reports.queue ++ [makeReport s.reports.next s.seconds lost x],
        next := ((readyToLeave tag s).reports.next + 1) % 65536 } } := rfl
  rw [hjoined, hready, hreports]

end

end Sys2Proof.Machine

end

section
/-! PROOFS. The exit sensor (R51, R52, R54, R172), the entry sensor (R39, R40, R42) and the speed window (R30). -/

namespace Sys2Proof.Machine

/-! ### The exit sensor -/

section
variable {s : State}

theorem exitRises_matches {r : Record} (h : s.exitCandidate? = some r) :
    exitRises s = updateRecord r.tag (fun r => { r with matched := true, stage := .exiting }) s := by
  unfold exitRises
  rw [h]

theorem exitRises_none (h : s.exitCandidate? = none) : exitRises s = occur .trackLost s := by
  unfold exitRises
  rw [h]

theorem exitFalls_reports {r : Record} (h : s.tracker.records.find? (·.matched) = some r) :
    exitFalls s = removeAsReport r.tag false s := by
  unfold exitFalls
  rw [h]

theorem exitFalls_none (h : s.tracker.records.find? (·.matched) = none) : exitFalls s = s := by
  unfold exitFalls
  rw [h]

/-- TRACK_LOST keeps the gate shut, and changes nothing of the boards but what a drain leaves of their rows. -/
theorem occur_stop {k : AlarmKind} (hk : severity k = .stop) (h : k ∉ modeKinds) : admissionTest (occur k s) = occur k s
    ∧ SameOutside s (occur k s) ∧ (occur k s).tracker.plain = s.tracker.plain ∧ (occur k s).alarm k = s.latched k := by
  have hentry : (occur k s).alarm k = s.latched k := occur_alarm_same h s
  refine ⟨admissionTest_of_stop hk ?_, sameOutside_of_far (occur_far k s), plain_of_ground (occur_ground s k), hentry⟩
  rw [hentry]
  show AlarmState.latched ≠ .clear
  decide

/-- A report that is not LOST is GOOD where its record has no exception. -/
theorem outcomeOf_kept (e : ExcList) : outcomeOf false e ≠ .lost ∧ (outcomeOf false e = .good ↔ e.items = [] ∧ e.more = false) := by
  unfold outcomeOf
  by_cases h : e.items = [] ∧ e.more = false
  · simp [h]
  · simp [h]

end

/-- Settles O38: the candidate matched or the board lost, and the matched record's report. -/
theorem exitSensorMatchesAndReports : Obligations.ExitSensorMatchesAndReports := by
  intro s
  refine ⟨fun r h => ?rise, fun h => ?lost, fun h => ?ignored, fun r h hr => ?fall⟩
  case rise => exact congrArg (fun u => Host.Outcome.next (admissionTest u)) (exitRises_matches h)
  case lost =>
    obtain ⟨htest, hout, hplain, hentry⟩ := occur_stop (s := s) (k := .trackLost) rfl (by decide)
    refine ⟨occur .trackLost s, ?_, hout, records_map_of_plain hplain fun _ => rfl, hentry⟩
    show Host.Outcome.next (admissionTest (exitRises s)) = _
    rw [exitRises_none h, htest]
  case ignored => exact congrArg (fun u => Host.Outcome.next (admissionTest u)) (exitFalls_none h)
  case fall =>
    obtain ⟨x, hface, hs, hsum, hfar, hqueue, hattention⟩ := removeAsReport_report (lost := false) hr
    obtain ⟨u, hu⟩ : ∃ u, u = removeAsReport r.tag false s := ⟨_, rfl⟩
    rw [← hu] at hfar hqueue hattention
    obtain ⟨hlost, hgood⟩ := outcomeOf_kept x.exc
    refine ⟨u, makeReport s.reports.next s.seconds false x, ?_,
      ⟨(congrArg Far.scan hfar :), (congrArg Far.store hfar :), (congrArg Far.uptime hfar :), (congrArg Far.freeIndex hfar :),
        (congrArg Far.pending hfar :)⟩, (congrArg Far.link hfar :), (congrArg Far.reports hfar :), rfl,
      (congrArg (fun f => f.1) hface :), (congrArg (fun f => f.2.1) hface :), hlost, (congrArg (fun f => f.2.2.2.1) hface :), rfl, hs,
      hsum, hgood, ?_, hqueue, hattention⟩
    · show Host.Outcome.next (admissionTest (exitFalls s)) = _
      rw [exitFalls_reports h, ← hu]
    · rw [hu]
      exact removeAsReport_tags hr

end Sys2Proof.Machine

end

section
/-! PROOFS. The end of a speed window (R30), with the conveyor that goes on running through a drain (R16, R22, R29). -/

namespace Sys2Proof.Machine

/-! ### The conveyor through an entry into a mode -/

/-- The speed window in progress, the two run counts and the conveyor's command. -/
def Tracker.window (x : Tracker) : Int × Bool × Nat × Nat × Bool :=
  (x.windowCounts, x.windowFirst, x.outsideRun, x.insideRun, x.conveyorRun)

section
variable {s : State} {new : Mode}

theorem waveSync_window (s : State) : (waveSync s).tracker.window = s.tracker.window := by
  unfold waveSync driveWave
  split <;> rfl

theorem judgeSide_window (side : WaveSide) (s : State) : (judgeSide side s).tracker.window = s.tracker.window := by
  have hlimit : (if side = .none then conditionEnds .waveLimit (s.setWave { s.wave with side := side })
      else conditionAppears .waveLimit (s.setWave { s.wave with side := side })).tracker.window = s.tracker.window := by
    split
    · rfl
    · rw [conditionAppears_tracker]
      rfl
  unfold judgeSide
  dsimp only
  split
  · exact hlimit
  · exact hlimit

theorem waveAtMode_window (old new : Mode) (s : State) : (waveAtMode old new s).tracker.window = s.tracker.window := by
  unfold waveAtMode
  split
  · unfold computeDrive
    dsimp only
    rw [waveSync_window]
    exact judgeSide_window _ s
  · split
    · rw [judgeSide_window, waveSync_window]
      rfl
    · exact waveSync_window s

theorem failSearch_window (c : CalCause) (s : State) : (failSearch c s).tracker.window = s.tracker.window :=
  waveSync_window (s.setWave { s.wave with phase := .none, outcome := .failed, cause := c })

theorem waveMode_window : (waveMode new s).tracker.window = s.tracker.window := by
  have hset : (modeSet new s).tracker = s.tracker := by
    unfold modeSet
    dsimp only
    split <;> rfl
  have hjudged : (modeJudged new s).tracker.window = s.tracker.window := by
    have hfan : (modeJudged new s).tracker.window = (supplyAtMode s.modes.mode new (entryMarks new (modeSet new s))).tracker.window :=
      (congrArg (fun d : Dry => d.tracker.window) (fanSync_dry (supplyAtMode s.modes.mode new (entryMarks new (modeSet new s)))) :)
    rw [hfan, supplyAtMode_tracker, entryMarks_tracker, hset]
  have hspray : (sprayAtMode new (modeJudged new s)).tracker.window = s.tracker.window :=
    (congrArg (fun d : Dry => d.tracker.window) (sprayAtMode_dry (modeJudged new s) new) :).trans hjudged
  unfold waveMode
  split
  · unfold searchAtSafe
    split
    · rw [failSearch_window, hspray]
    · exact hspray
    · exact hspray
  · exact hspray

/-- The state before the conveyor's command and the loops follow. -/
def beforeConveyor (new : Mode) (s : State) : State := trackAtMode new (waveAtMode s.modes.mode new (waveMode new s))

theorem setMode_beforeConveyor : setMode new s = afterLoops (conveyorSync (beforeConveyor new s)) := rfl

theorem beforeConveyor_window : (beforeConveyor new s).tracker.window = s.tracker.window := by
  have htrack : ∀ u : State, (trackAtMode new u).tracker.window = u.tracker.window := fun u => by cases new <;> rfl
  rw [beforeConveyor, htrack, waveAtMode_window, waveMode_window]

/-- What the conveyor's command is to be, before it follows. -/
theorem beforeConveyor_wanted : (beforeConveyor new s).conveyorWanted = new.conveyorWanted (!s.tracker.records.isEmpty) := by
  rw [← setMode_conveyorRun new s, setMode_beforeConveyor, afterLoops_tracker, conveyorSync_run]

/-- Where the conveyor's command stands, the speed window goes on. -/
theorem setMode_window (h : new.conveyorWanted (!s.tracker.records.isEmpty) = s.tracker.conveyorRun) :
    (setMode new s).tracker.window = s.tracker.window ∧ (setMode new s).alarm .conveyorDev = s.alarm .conveyorDev := by
  have hrun : (beforeConveyor new s).tracker.conveyorRun = s.tracker.conveyorRun :=
    (congrArg (fun w => w.2.2.2.2) (beforeConveyor_window (s := s) (new := new)) :)
  have hsync : conveyorSync (beforeConveyor new s) = beforeConveyor new s := if_pos (by rw [beforeConveyor_wanted, h, hrun])
  have hmark : AlarmKind.conveyorDev ∉ new.markKinds := by cases new <;> decide
  have hset : (modeSet new s).alarm .conveyorDev = s.alarm .conveyorDev := by
    unfold modeSet
    dsimp only
    split
    · exact conditionEnds_alarm_other _ (by decide)
    · rfl
  have hspray : (sprayAtMode new (modeJudged new s)).alarm .conveyorDev = s.alarm .conveyorDev := by
    rw [sprayAtMode_alarm _ new (by decide), modeJudged, fanSync_alarm _ (by decide), supplyAtMode_alarm _ (by decide),
      entryMarks_alarm _ hmark, hset]
  have hmode : (waveMode new s).alarm .conveyorDev = s.alarm .conveyorDev := by
    unfold waveMode
    split
    · rw [searchAtSafe_alarm _ (by decide), hspray]
    · exact hspray
  rw [setMode_beforeConveyor, hsync, afterLoops_tracker, beforeConveyor_window, alarm_of_alarms (afterLoops_alarms _), beforeConveyor,
    alarm_of_alarms (trackAtMode_alarms _ _), waveAtMode_alarm _ (by decide), hmode]
  exact ⟨rfl, rfl⟩

/-- A drain to READY with the conveyor running, no forced standby being due: the conveyor runs on. -/
theorem enterDrain_ready_window (hd : s.extr.forcedDue = false) (hr : s.tracker.conveyorRun = true) :
    (enterDrain .ready s).tracker.window = s.tracker.window ∧ (enterDrain .ready s).alarm .conveyorDev = s.alarm .conveyorDev := by
  have hdrain : (toDrain .ready s).tracker.window = s.tracker.window ∧ (toDrain .ready s).alarm .conveyorDev = s.alarm .conveyorDev := by
    have h := setMode_window (new := .drain) (s := s.setModes { s.modes with drain := .ready }) (hr.symm ▸ rfl)
    exact h
  by_cases he : s.tracker.records = []
  · rw [enterDrain_of_empty .ready hd he]
    have hrun : (toDrain .ready s).tracker.conveyorRun = true := toDrain_conveyorRun .ready
    have hready := setMode_window (new := .ready) (s := toDrain .ready s) (hrun.symm ▸ rfl)
    exact ⟨hready.1.trans hdrain.1, hready.2.trans hdrain.2⟩
  · rw [enterDrain_of_boards .ready hd he]
    exact hdrain

/-! ### CONVEYOR_DEV (R30) -/

theorem raise_conveyorDev (hd : s.extr.forcedDue = false) (hr : s.tracker.conveyorRun = true) :
    (raise .conveyorDev s).tracker.window = s.tracker.window
    ∧ (raise .conveyorDev s).tracker.measuredSpeed = s.tracker.measuredSpeed
    ∧ (raise .conveyorDev s).condition .conveyorDev = true := by
  have hspeed : (raise .conveyorDev s).tracker.measuredSpeed = s.tracker.measuredSpeed :=
    measuredSpeed_of_plain (plain_of_ground (raise_ground s _))
  cases hc : s.condition .conveyorDev with
  | true =>
    rw [raise_of_present hc] at hspeed ⊢
    exact ⟨rfl, rfl, hc⟩
  | false =>
    obtain ⟨u, hu⟩ : ∃ u, u = occurrence .conveyorDev .active s := ⟨_, rfl⟩
    have hcond : u.condition .conveyorDev = true := by
      have h := conditionAppears_condition (k := .conveyorDev) s
      rwa [conditionAppears_of_absent hc, ← hu] at h
    have htracker : u.tracker = s.tracker := by rw [hu]; rfl
    have hdue : u.extr.forcedDue = false := by rw [hu]; exact hd
    rw [raise_of_absent hc, show severity .conveyorDev = .stop from rfl, ← hu] at hspeed ⊢
    refine ⟨?_, hspeed, ?_⟩
    · by_cases hm : u.modes.mode = .run
      · rw [react_stop_of_run hm, (enterDrain_ready_window hdue (by rw [htracker]; exact hr)).1, htracker]
      · rw [react_stop_of_not_run hm, htracker]
    · by_cases hm : u.modes.mode = .run
      · rw [react_stop_of_run hm]
        exact (condition_congr u (enterDrain_ready_window hdue (by rw [htracker]; exact hr)).2).trans hcond
      · rw [react_stop_of_not_run hm]
        exact hcond

/-- The admission test moves no count of the conveyor. -/
theorem admissionTest_window (s : State) : (admissionTest s).tracker.window = s.tracker.window
    ∧ (admissionTest s).tracker.measuredSpeed = s.tracker.measuredSpeed ∧ (admissionTest s).tracker.count = s.tracker.count := by
  unfold admissionTest
  split
  · split
    · obtain ⟨m, hm⟩ := compositionTest_eq (admitted _ _ _ s)
      rw [openGate_eq, hm]
      exact ⟨rfl, rfl, rfl⟩
    · exact ⟨rfl, rfl, rfl⟩
  · exact ⟨rfl, rfl, rfl⟩

/-- Whether a window's speed lies outside the tolerance. -/
def State.windowOut (s : State) : Bool := windowOutside (s.activeField (·.speed)) (windowSpeed s.tracker.windowCounts s.kScale)

/-- The state once a window is counted, before CONVEYOR_DEV follows. -/
def windowTaken (s : State) : State := s.setTracker { s.tracker with
  measuredSpeed := some (windowSpeed s.tracker.windowCounts s.kScale), windowCounts := 0,
  outsideRun := if s.windowOut then min 3 (s.tracker.outsideRun + 1) else 0,
  insideRun := if s.windowOut then 0 else min 3 (s.tracker.insideRun + 1) }

theorem speedWindowEnds_stopped (h : s.tracker.conveyorRun = false) : speedWindowEnds s = s := if_pos (by rw [h]; decide)

theorem speedWindowEnds_first (h : s.tracker.conveyorRun = true) (hf : s.tracker.windowFirst = true) :
    speedWindowEnds s = s.setTracker { s.tracker with windowCounts := 0, windowFirst := false } :=
  (if_neg (not_not.mpr h)).trans (if_pos hf)

theorem speedWindowEnds_judged (h : s.tracker.conveyorRun = true) (hf : s.tracker.windowFirst = false) : speedWindowEnds s
    = if (windowTaken s).tracker.outsideRun = 3 then raise .conveyorDev (windowTaken s)
      else if (windowTaken s).tracker.insideRun = 3 then conditionEnds .conveyorDev (windowTaken s) else windowTaken s :=
  (if_neg (not_not.mpr h)).trans (if_neg (by rw [hf]; decide))

/-- The end of a window: its counts stand, and CONVEYOR_DEV follows them. -/
theorem speedWindowEnds_counts (hd : s.extr.forcedDue = false) (h : s.tracker.conveyorRun = true) (hf : s.tracker.windowFirst = false) :
    (speedWindowEnds s).tracker.window = (windowTaken s).tracker.window
    ∧ (speedWindowEnds s).tracker.measuredSpeed = (windowTaken s).tracker.measuredSpeed
    ∧ (speedWindowEnds s).condition .conveyorDev = (if (windowTaken s).tracker.outsideRun = 3 then true
        else if (windowTaken s).tracker.insideRun = 3 then false else s.condition .conveyorDev) := by
  rw [speedWindowEnds_judged h hf]
  by_cases ho : (windowTaken s).tracker.outsideRun = 3
  · rw [if_pos ho, if_pos ho]
    exact raise_conveyorDev (s := windowTaken s) hd h
  · rw [if_neg ho, if_neg ho]
    by_cases hi : (windowTaken s).tracker.insideRun = 3
    · rw [if_pos hi, if_pos hi]
      exact ⟨rfl, rfl, conditionEnds_condition _⟩
    · rw [if_neg hi, if_neg hi]
      exact ⟨rfl, rfl, rfl⟩

theorem speedWindowEnds_far (s : State) : (speedWindowEnds s).far = s.far := by
  cases hr : s.tracker.conveyorRun with
  | false => rw [speedWindowEnds_stopped hr]
  | true =>
    cases hf : s.tracker.windowFirst with
    | true =>
      rw [speedWindowEnds_first hr hf]
      rfl
    | false =>
      rw [speedWindowEnds_judged hr hf]
      split
      · exact raise_far _ _
      · split
        · exact conditionEnds_far _ _
        · rfl

end

/-! ### Counting a step (R28) -/

/-- What counting a step leaves: nothing outside the two counts. -/
theorem countStep_far (forward : Bool) (s : State) : (countStep forward s).far = s.far := rfl

theorem stageEvents_nil (s : State) : stageEvents [] s = s := rfl

end Sys2Proof.Machine

end

section
/-! PROOFS. What a step of the encoder leaves of the blocks around the boards (R28, R45 to R53), and the speed window's
statement (R30). -/

namespace Sys2Proof.Machine

/-! ### The encoder count through the stage events -/

/-- What a row that falls due leaves alone: everything around the rows but the boards themselves. -/
def State.ambient (s : State) : Dry := { s.dry with tracker := { s.tracker with records := [] } }

section
variable {s t : State} {tag : Nat}

theorem ambient_of_dry (h : t.dry = s.dry) : t.ambient = s.ambient :=
  (congrArg (fun d : Dry => { d with tracker := { d.tracker with records := [] } }) h :)

theorem updateRecord_ambient (tag : Nat) (f : Record → Record) : (updateRecord tag f s).ambient = s.ambient := rfl

theorem count_of_ambient (h : t.ambient = s.ambient) : t.tracker.count = s.tracker.count := (congrArg (fun d => d.tracker.count) h :)
theorem quiet_of_ambient (h : t.ambient = s.ambient) : t.quiet = s.quiet := (congrArg Dry.quiet h :)
theorem wave_of_ambient (h : t.ambient = s.ambient) : t.wave = s.wave := (congrArg Dry.wave h :)
theorem extr_of_ambient (h : t.ambient = s.ambient) : t.extr = s.extr := (congrArg Dry.extr h :)
theorem store_of_ambient (h : t.ambient = s.ambient) : t.store = s.store := (congrArg Quiet.store (quiet_of_ambient h) :)
theorem scan_of_ambient (h : t.ambient = s.ambient) : t.scan = s.scan := (congrArg Quiet.scan (quiet_of_ambient h) :)
theorem modes_of_ambient (h : t.ambient = s.ambient) : t.modes = s.modes := (congrArg Quiet.modes (quiet_of_ambient h) :)
theorem heat_of_ambient (h : t.ambient = s.ambient) : t.heat = s.heat := (congrArg Dry.heat h :)

/-- An arriving row is sprayed at, waits, or is skipped. -/
theorem rowArrives_dry (e : StrokeEntry) : (rowArrives e s).dry = s.dry := by
  unfold rowArrives
  split
  · exact skipRow_dry s _ _ _ _
  · split
    · exact serveRows_dry [e] s
    · split
      · exact setSpray_dry s _
      · exact skipRow_dry s _ _ _ _

theorem rowDue_dry (row : Nat) (b : BufferId) : (rowDue tag row b s).dry = s.dry := by
  unfold rowDue
  split
  · rfl
  · split
    · exact skipRow_dry s _ _ _ _
    · split
      · exact sprayRow_dry s _ _ _
      · exact rowArrives_dry _

/-- A row of a record falls due: the record's next row moves on, and the row goes to the compositor. -/
def rowFallsDue (r : Record) (s : State) : State :=
  let t := updateRecord r.tag (fun r => { r with nextRow := r.nextRow + 1 }) s
  match r.buffer with
  | some b => rowDue r.tag r.nextRow b t
  | none => t

/-- The record with a tag whose next row the leading edge has reached, if there is one (R45). -/
def State.rowAhead? (tag : Nat) (s : State) : Option Record :=
  (s.record? tag).filter (fun r => match s.position r with
    | some d => decide (r.nextRow < r.rowsTotal) && decide (s.counts (s.sprayLine + 10 * r.nextRow) ≤ d)
    | none => false)

theorem tag_of_record? {r : Record} (h : s.record? tag = some r) : r.tag = tag := by simpa using List.find?_some h

theorem dueRows_succ (n tag : Nat) (s : State) : dueRows (n + 1) tag s = match s.rowAhead? tag with
    | some r => dueRows n tag (rowFallsDue r s)
    | none => s := by
  unfold State.rowAhead?
  rw [dueRows]
  cases hr : s.record? tag with
  | none => rfl
  | some r =>
    obtain rfl := tag_of_record? hr
    cases hd : s.position r with
    | none =>
      simp only [Option.filter_some, hd] <;> rfl
    | some d =>
      by_cases hdue : r.nextRow < r.rowsTotal ∧ s.counts (s.sprayLine + 10 * r.nextRow) ≤ d
      · simp only [Option.filter_some, hd, hdue, and_self, decide_true, Bool.and_self, if_true]
        rfl
      · have hno : (decide (r.nextRow < r.rowsTotal) && decide (s.counts (s.sprayLine + 10 * r.nextRow) ≤ d)) = false := by
          simpa using hdue
        simp only [Option.filter_some, hd, hno, if_neg hdue] <;> rfl

theorem rowFallsDue_ambient (r : Record) : (rowFallsDue r s).ambient = s.ambient := by
  unfold rowFallsDue
  dsimp only
  split
  · exact (ambient_of_dry (rowDue_dry _ _) :).trans (updateRecord_ambient r.tag _)
  · rfl

theorem dueRows_ambient (n : Nat) : (dueRows n tag s).ambient = s.ambient := by
  induction n generalizing s with
  | zero => rfl
  | succ n ih =>
    rw [dueRows_succ]
    split
    · exact ih.trans (rowFallsDue_ambient _)
    · rfl

theorem stageEvents_ambient (tags : List Nat) : (stageEvents tags s).ambient = s.ambient := by
  induction tags generalizing s with
  | nil => rfl
  | cons tag rest ih =>
    refine ih.trans ?_
    rw [updateRecord_ambient]
    split
    · exact dueRows_ambient _
    · rfl

/-! ### The encoder count through the removals -/

theorem reportRecord_count (lost : Bool) : (reportRecord tag lost s).tracker.count = s.tracker.count := by
  unfold reportRecord
  split <;> rfl

theorem removeAsReport_count (tag : Nat) (lost : Bool) (s : State) : (removeAsReport tag lost s).tracker.count = s.tracker.count := by
  have hsettled : (rowsSettled tag s).tracker.count = s.tracker.count :=
    (count_of_plain (plain_of_dry (sprayClear_dry (s := s) (tag := tag))) :)
  have hended : (overlapsEnded tag s).tracker.count = s.tracker.count := hsettled
  rw [removeAsReport_eq, count_of_plain (conveyorSync_plain _), count_of_plain (plain_of_ground (drainTest_ground _)),
    reportRecord_count, readyToLeave, count_of_plain (plain_of_dry releaseOwned_dry),
    count_of_plain (plain_of_ground (waveClearTest_ground _)), hended]

theorem occur_count (k : AlarmKind) (s : State) : (occur k s).tracker.count = s.tracker.count :=
  count_of_plain (plain_of_ground (occur_ground s k))

theorem overrunExits_count (n : Nat) (s : State) : (overrunExits n s).tracker.count = s.tracker.count := by
  induction n generalizing s with
  | zero => rfl
  | succ n ih =>
    unfold overrunExits
    split
    · rw [ih, occur_count, removeAsReport_count]
    · rfl

theorem missingExits_count (n : Nat) (s : State) : (missingExits n s).tracker.count = s.tracker.count := by
  induction n generalizing s with
  | zero => rfl
  | succ n ih =>
    unfold missingExits
    split
    · rw [ih, occur_count, removeAsReport_count]
    · rfl

theorem forwardEvents_count (s : State) : (forwardEvents s).tracker.count = s.tracker.count := by
  have hboosts : (giveBoosts (stageEvents s.tags s)).tracker.count = s.tracker.count :=
    (count_of_ambient (stageEvents_ambient (s := s) s.tags) :)
  unfold forwardEvents
  rw [missingExits_count, overrunExits_count, count_of_plain (plain_of_ground (waveClearTest_ground _)), hboosts]

/-! ### A step with no board in transit -/

theorem waveOccupied_of_empty (h : s.tracker.records = []) : s.waveOccupied = false := by
  unfold State.waveOccupied
  rw [h]
  rfl

/-- With no board in transit a forward step clears the boosts, and has no stage event. -/
theorem forwardEvents_of_empty (h : s.tracker.records = []) : forwardEvents s = giveBoosts s := by
  have htags : s.tags = [] := by rw [State.tags, h]; rfl
  have hrecords : (giveBoosts s).tracker.records = [] := h
  unfold forwardEvents
  rw [htags, stageEvents_nil, waveOccupied_of_empty h, waveClearTest, if_neg (by simp)]
  dsimp only
  rw [hrecords]
  rfl

/-- A quadrature step without stage events counts, and no more. -/
theorem encoderSteps_counts {forward : Bool} (h : forward = false ∨ s.tracker.records = []) :
    (encoderSteps forward s).tracker = (countStep forward s).tracker := by
  cases forward with
  | false => rfl
  | true =>
    have hempty : (countStep true s).tracker.records = [] := h.resolve_left (by decide)
    show (forwardEvents (countStep true s)).tracker = _
    rw [forwardEvents_of_empty hempty]
    rfl

theorem encoderSteps_count (forward : Bool) (s : State) :
    (encoderSteps forward s).tracker.count = s.tracker.count + (if forward = true then 1 else -1) := by
  cases forward with
  | false => exact sub_eq_add_neg s.tracker.count 1
  | true => exact forwardEvents_count (countStep true s)

end

/-! ### The statement -/

/-- Settles O39: a window judged by the state once it is counted, and the count of a step through its stage events. -/
theorem speedWindowJudges : Obligations.SpeedWindowJudges := by
  refine ⟨fun s hd => ⟨fun hr => ?stopped, fun hr hf => ?first, fun hr hf => ?judged⟩, fun forward s => ?step⟩
  case stopped => exact congrArg (fun u => Host.Outcome.next (admissionTest u)) (speedWindowEnds_stopped hr)
  case first => exact congrArg (fun u => Host.Outcome.next (admissionTest u)) (speedWindowEnds_first hr hf)
  case judged =>
    obtain ⟨hwindow, hspeed, hcond⟩ := speedWindowEnds_counts hd hr hf
    obtain ⟨htest, htestSpeed, -⟩ := admissionTest_window (speedWindowEnds s)
    have hw := htest.trans hwindow
    obtain ⟨u, hu⟩ : ∃ u, u = admissionTest (speedWindowEnds s) := ⟨_, rfl⟩
    have hcounts : u.tracker.windowCounts = 0 := by rw [hu]; exact (congrArg (fun w => w.1) hw :)
    have hout : u.tracker.outsideRun = if s.windowOut then min 3 (s.tracker.outsideRun + 1) else 0 := by
      rw [hu]; exact (congrArg (fun w => w.2.2.1) hw :)
    have hin : u.tracker.insideRun = if s.windowOut then 0 else min 3 (s.tracker.insideRun + 1) := by
      rw [hu]; exact (congrArg (fun w => w.2.2.2.1) hw :)
    have hfar : u.far = s.far := by rw [hu, admissionTest_far, speedWindowEnds_far]
    have hdev : u.condition .conveyorDev = (if u.tracker.outsideRun = 3 then true
        else if u.tracker.insideRun = 3 then false else s.condition .conveyorDev) := by
      rw [hout, hin, hu, admissionTest_condition]
      exact hcond
    have hmeasured : u.tracker.measuredSpeed = some (windowSpeed s.tracker.windowCounts s.kScale) := by
      rw [hu]
      exact htestSpeed.trans hspeed
    refine ⟨u, congrArg Host.Outcome.next hu.symm, sameOutside_of_far hfar, hmeasured, hcounts, fun ho => ?_, fun ho => ?_, hdev⟩
    · have hyes : s.windowOut = true := decide_eq_true ho
      rw [hout, hin, hyes]
      exact ⟨rfl, rfl⟩
    · have hno : s.windowOut = false := decide_eq_false ho
      rw [hout, hin, hno]
      exact ⟨rfl, rfl⟩
  case step =>
    obtain ⟨hwindow, hspeed, hcount⟩ := admissionTest_window (encoderSteps forward s)
    refine ⟨_, rfl, hcount.trans (encoderSteps_count forward s), fun h => ?_⟩
    have htracker := encoderSteps_counts h
    refine ⟨hspeed.trans (congrArg Tracker.measuredSpeed htracker :), ?_⟩
    exact (congrArg Prod.fst hwindow :).trans (congrArg Tracker.windowCounts htracker :)

end Sys2Proof.Machine

end

section
/-! PROOFS. The edges of the entry sensor (R39, R40, R42). -/

namespace Sys2Proof.Machine

section
variable {s : State} {a : Admission} {r : Record}

/-! ### The edges by what the admission finds -/

theorem entryRises_none (h : s.tracker.admission = none) : entryRises s = occur .trackLost s := by
  unfold entryRises
  rw [h]

theorem entryRises_taken (h : s.tracker.admission = some a) (hr : s.record? a.tag = some r) (he : r.stage = .entering) :
    entryRises s = (updateRecord a.tag (Record.convey s.tracker.count) s).setTracker
      { (updateRecord a.tag (Record.convey s.tracker.count) s).tracker with admission := some { a with timer := none } } := by
  unfold entryRises
  rw [h]
  dsimp only
  rw [hr]
  exact if_pos he

theorem entryRises_ignored (h : s.tracker.admission = some a) (hr : ∀ r, s.record? a.tag = some r → r.stage ≠ .entering) :
    entryRises s = s := by
  unfold entryRises
  rw [h]
  dsimp only
  split
  next r hr' => exact if_neg (hr r hr')
  next => rfl

theorem entryFalls_none (h : s.tracker.admission = none) : entryFalls s = s := by
  unfold entryFalls
  rw [h]

/-- The admission ended with no board measured. -/
def admissionOver (s : State) : State :=
  s.setTracker { s.tracker with gateOpen := false, gapRef := some s.tracker.count, admission := none }

theorem entryFalls_gone (h : s.tracker.admission = some a) (hr : s.record? a.tag = none) : entryFalls s = admissionOver s := by
  unfold entryFalls
  rw [h]
  dsimp only
  rw [hr]
  rfl

theorem entryFalls_entering (h : s.tracker.admission = some a) (hr : s.record? a.tag = some r) (he : r.stage = .entering) :
    entryFalls s = occur .trackLost s := by
  unfold entryFalls
  rw [h]
  dsimp only
  rw [hr]
  exact if_pos he

theorem entryFalls_measured {d : Int} (h : s.tracker.admission = some a) (hr : s.record? a.tag = some r) (he : r.stage ≠ .entering)
    (hd : s.position r = some d) : entryFalls s = endAdmission a.tag d s := by
  have htag := tag_of_record? hr
  unfold entryFalls
  rw [h]
  dsimp only
  rw [hr]
  dsimp only
  rw [if_neg he, hd, htag]

/-! ### The admission test on a board that has passed the stopper -/

/-- No board is admitted while an admission is in progress. -/
theorem admissionTest_admitting (h : s.tracker.admission = some a) : admissionTest s = s := by
  refine admissionTest_closed ?_
  unfold State.mayAdmit
  rw [h]
  simp

/-! ### The measured board (R40) -/

theorem checkLength_kept (recipe : Recipe) (m : Nat) (r : Record) : r.Grown (r.checkLength recipe m)
    ∧ (r.checkLength recipe m).measured = some m ∧ (r.checkLength recipe m).inWave = r.inWave
    ∧ (m + recipe.tolerance < recipe.length ∨ recipe.length + recipe.tolerance < m → (r.checkLength recipe m).noted .lengthMismatch) := by
  unfold Record.checkLength
  dsimp only
  split
  next h => exact ⟨⟨rfl, rfl, (noted_add _ 1 r.exc).2⟩, rfl, rfl, fun _ => (noted_add _ 1 r.exc).1⟩
  next h => exact ⟨⟨rfl, rfl, fun _ => id⟩, rfl, rfl, fun hm => absurd hm h⟩

theorem meetWave_kept (out : Nat) (high safe : Bool) (r : Record) : r.Grown (r.meetWave out high safe)
    ∧ (r.meetWave out high safe).measured = r.measured := by
  obtain ⟨q, hq⟩ : ∃ q, q = { r with inWave := true, wave := some (out, out) } := ⟨_, rfl⟩
  have hmet : r.Grown q := by rw [hq]; exact ⟨rfl, rfl, fun _ => id⟩
  have hmeasured : q.measured = r.measured := by rw [hq]
  have hsafe : ∀ x : Record, x.safePass.measured = x.measured := fun x => by
    unfold Record.safePass
    split <;> rfl
  unfold Record.meetWave
  dsimp only
  rw [← hq]
  cases high <;> cases safe
  · exact ⟨hmet, hmeasured⟩
  · exact ⟨hmet.trans (grown_safePass q), (hsafe q).trans hmeasured⟩
  · exact ⟨hmet.trans (grown_except _ q), hmeasured⟩
  · exact ⟨hmet.trans ((grown_except _ q).trans (grown_safePass _)), (hsafe _).trans hmeasured⟩

theorem waveMark_kept (s : State) (again : Bool) (d len : Int) (r : Record) : r.Grown (waveMark s again d len r)
    ∧ (waveMark s again d len r).measured = r.measured := by
  unfold waveMark
  dsimp only
  split
  · split
    · exact ⟨⟨rfl, rfl, fun _ => id⟩, rfl⟩
    · exact ⟨.refl r, rfl⟩
  · split
    · exact meetWave_kept _ _ _ r
    · exact ⟨.refl r, rfl⟩

theorem zoneMarks_grown (s : State) (again : Bool) (d len : Int) (r : Record) : r.Grown (zoneMarks s again d len r) :=
  ⟨rfl, rfl, fun _ => id⟩

theorem retest_kept (s : State) (r : Record) : r.Grown (retest s r) ∧ (retest s r).measured = r.measured := by
  unfold retest
  split
  next d _ =>
    obtain ⟨hgrown, hmeasured⟩ := waveMark_kept s true d (s.boardCounts r) (zoneMarks s true d (s.boardCounts r) r)
    exact ⟨(zoneMarks_grown s true d _ r).trans hgrown, hmeasured⟩
  next => exact ⟨.refl r, rfl⟩

/-- The record of the board that the entry sensor has measured. -/
def Record.measuredAs (s : State) (m : Nat) (r : Record) : Prop := r.measured = some m
  ∧ (m + (s.recipeOf r.slot).tolerance < (s.recipeOf r.slot).length ∨ (s.recipeOf r.slot).length + (s.recipeOf r.slot).tolerance < m →
      r.noted .lengthMismatch)

/-- The admission ended, before the wave window's test. -/
def boardMeasured (tag : Nat) (d : Int) (s : State) : State :=
  let t := updateRecord tag (fun r => r.checkLength (s.recipeOf r.slot) (measuredLength d s.kScale)) s
  let b := updateRecord tag (retest t) t
  giveBoosts (b.setTracker { b.tracker with gateOpen := false, gapRef := some s.tracker.count, admission := none })

theorem endAdmission_eq (tag : Nat) (d : Int) (s : State) :
    endAdmission tag d s = waveClearTest s.waveOccupied (boardMeasured tag d s) := rfl

theorem boardMeasured_records (tag : Nat) (d : Int) (s : State) : (boardMeasured tag d s).tracker.records
    = (updateRecord tag (retest (updateRecord tag (fun r => r.checkLength (s.recipeOf r.slot) (measuredLength d s.kScale)) s))
        (updateRecord tag (fun r => r.checkLength (s.recipeOf r.slot) (measuredLength d s.kScale)) s)).tracker.records := rfl

/-- A record of the table after an update of the records with a tag. -/
theorem mem_updateRecord {tag : Nat} {f : Record → Record} {x : Record}
    (hx : x ∈ (updateRecord tag f s).tracker.records) (ht : x.tag = tag) : ∃ r ∈ s.tracker.records, r.tag = tag ∧ x = f r := by
  have hx' : x ∈ s.tracker.records.map (fun r => if r.tag = tag then f r else r) := hx
  obtain ⟨r, hr, hrx⟩ := List.mem_map.mp hx'
  by_cases hrt : r.tag = tag
  · exact ⟨r, hr, hrt, hrx.symm.trans (if_pos hrt)⟩
  · have hsame : x = r := hrx.symm.trans (if_neg hrt)
    exact absurd (hsame ▸ ht) hrt

theorem boardMeasured_record {tag : Nat} {d : Int} {x : Record} (hx : x ∈ (boardMeasured tag d s).tracker.records) (ht : x.tag = tag) :
    x.measuredAs s (measuredLength d s.kScale) := by
  rw [boardMeasured_records] at hx
  obtain ⟨q, hq, hqt, rfl⟩ := mem_updateRecord hx ht
  obtain ⟨r, -, -, rfl⟩ := mem_updateRecord hq hqt
  obtain ⟨hg, hm⟩ := retest_kept (updateRecord tag (fun r => r.checkLength (s.recipeOf r.slot) (measuredLength d s.kScale)) s)
    (r.checkLength (s.recipeOf r.slot) (measuredLength d s.kScale))
  obtain ⟨hg', hm', -, hn⟩ := checkLength_kept (s.recipeOf r.slot) (measuredLength d s.kScale) r
  refine ⟨hm.trans hm', fun h => hg.noted _ (hn ?_)⟩
  rwa [hg.slot, hg'.slot] at h

theorem map_updateRecord_tag {tag : Nat} {f : Record → Record} (hf : ∀ r : Record, r.Grown (f r)) :
    (updateRecord tag f s).tracker.records.map (·.tag) = s.tracker.records.map (·.tag) := by
  show (s.tracker.records.map _).map _ = _
  rw [List.map_map]
  refine List.map_congr_left fun r _ => ?_
  show (if r.tag = tag then f r else r).tag = r.tag
  split
  · exact (hf r).tag
  · rfl

theorem boardMeasured_tags (tag : Nat) (d : Int) (s : State) :
    (boardMeasured tag d s).tracker.records.map (·.tag) = s.tracker.records.map (·.tag) := by
  rw [boardMeasured_records, map_updateRecord_tag fun r => (retest_kept _ r).1, map_updateRecord_tag fun r => (checkLength_kept _ _ r).1]

/-- What the end of an admission leaves: the measured board, the gate closed, and nothing outside. -/
theorem endAdmission_leaves (tag : Nat) (d : Int) (s : State) : (endAdmission tag d s).far = s.far
    ∧ (endAdmission tag d s).tracker.plain = (boardMeasured tag d s).tracker.plain
    ∧ Recedes (boardMeasured tag d s) (endAdmission tag d s) := by
  rw [endAdmission_eq]
  have hground := waveClearTest_ground (s := boardMeasured tag d s) s.waveOccupied
  exact ⟨(far_of_ground hground :).trans rfl, plain_of_ground hground, waveClearTest_recedes _⟩

theorem endAdmission_record {tag : Nat} {d : Int} {x : Record} (hx : x ∈ (endAdmission tag d s).tracker.records) (ht : x.tag = tag) :
    x.measuredAs s (measuredLength d s.kScale) := by
  obtain ⟨-, hplain, hrecedes⟩ := endAdmission_leaves tag d s
  obtain ⟨r, hr, hg⟩ := hrecedes.grows x hx
  have hmap := records_map_of_plain (f := fun r : Record => (r.tag, r.measured)) hplain fun _ => rfl
  have hmem : (x.tag, x.measured) ∈ (boardMeasured tag d s).tracker.records.map (fun r => (r.tag, r.measured)) :=
    hmap ▸ List.mem_map_of_mem hx
  obtain ⟨q, hq, hqx⟩ := List.mem_map.mp hmem
  obtain ⟨hqt, hqm⟩ := Prod.mk.inj hqx
  obtain ⟨hm, -⟩ := boardMeasured_record hq (hqt.trans ht)
  obtain ⟨-, hn⟩ := boardMeasured_record hr (hg.tag.symm.trans ht)
  refine ⟨hqm.symm.trans hm, fun h => hg.noted _ (hn ?_)⟩
  rwa [hg.slot] at h

end

/-! ### The statements -/

/-- Settles O35: every case of the edges but the admitted board's own. -/
theorem entryEdgesOutsideAnAdmission : Obligations.EntryEdgesOutsideAnAdmission := by
  intro s keeps
  obtain ⟨htest, hout, hplain, hentry⟩ := occur_stop (s := s) (k := .trackLost) rfl (by decide)
  have hkeeps : keeps (occur .trackLost s) :=
    ⟨count_of_plain hplain, admission_of_plain hplain, records_map_of_plain hplain fun _ => rfl, hentry⟩
  refine ⟨rfl, fun h => ⟨_, ?rise, hkeeps, hout⟩, fun h => ?idle, fun a h hr => ?ignored, fun a h hr => ?gone,
    fun a r h hr he => ⟨_, ?fall, hkeeps, hout⟩⟩
  case rise =>
    show Host.Outcome.next (admissionTest (entryRises s)) = _
    rw [entryRises_none h, htest]
  case idle => exact congrArg (fun u => Host.Outcome.next (admissionTest u)) (entryFalls_none h)
  case ignored =>
    show Host.Outcome.next (admissionTest (entryRises s)) = _
    rw [entryRises_ignored h hr, admissionTest_admitting h]
  case gone => exact congrArg (fun u => Host.Outcome.next (admissionTest u)) (entryFalls_gone h hr)
  case fall =>
    show Host.Outcome.next (admissionTest (entryFalls s)) = _
    rw [entryFalls_entering h hr he, htest]

/-- Settles O36: the leading edge conveys the record, and the trailing edge measures it. -/
theorem admittedBoardsEdges : Obligations.AdmittedBoardsEdges := by
  refine ⟨fun a r s h hr he => ?rise, fun a r d s h hr he hd => ?fall⟩
  case rise =>
    show Host.Outcome.next (admissionTest (entryRises s)) = _
    rw [entryRises_taken h hr he, admissionTest_admitting rfl]
    rfl
  case fall =>
    obtain ⟨hfar, hplain, hrecedes⟩ := endAdmission_leaves a.tag d s
    refine ⟨endAdmission a.tag d s, ?_, sameOutside_of_far hfar, hrecedes.gate rfl, gapRef_of_plain hplain, admission_of_plain hplain,
      (queue_of_plain hplain :).trans rfl, ?_, fun x hx ht => endAdmission_record hx ht⟩
    · exact congrArg (fun u => Host.Outcome.next (admissionTest u)) (entryFalls_measured h hr he hd)
    · rw [records_map_of_plain (f := fun r : Record => r.tag) hplain fun _ => rfl]
      exact boardMeasured_tags a.tag d s

end Sys2Proof.Machine

end

section
/-! PROOFS. The rows that the traverse serves when it comes to rest (R75, R76, R84). -/

namespace Sys2Proof.Machine

/-! ### A row resolved (R68, R79, R81) -/

section
variable {s t : State}

/-- What is read of the records without their buffers stands through the release of one. -/
theorem rowResolved_records {α : Type} {f : Record → α} (hf : ∀ r : Record, f { r with buffer := none } = f r) (b : BufferId) (s : State) :
    (rowResolved b s).tracker.records.map f = s.tracker.records.map f := by
  unfold rowResolved
  split
  · rfl
  · dsimp only
    split
    · rw [releaseBuffer_tracker]
      show (s.tracker.records.map _).map f = _
      rw [List.map_map]
      refine List.map_congr_left fun r _ => ?_
      show f (if r.buffer = some b then { r with buffer := none } else r) = f r
      split
      · exact hf r
      · rfl
    · rfl

theorem updateRecord_map {α : Type} (f : Record → α) (tag : Nat) (g : Record → Record) (s : State) :
    (updateRecord tag g s).tracker.records.map f = s.tracker.records.map (fun r => f (if r.tag = tag then g r else r)) :=
  List.map_map

theorem skipRow_records {α : Type} {f : Record → α} (hf : ∀ r : Record, f { r with buffer := none } = f r) (tag : Nat) (b : BufferId)
    (k : ExcKind) (dose : Nat) (s : State) : (skipRow tag b k dose s).tracker.records.map f
      = s.tracker.records.map (fun r => f (if r.tag = tag then r.skipRow k dose else r)) :=
  (rowResolved_records hf b _).trans (updateRecord_map f tag _ s)

theorem sprayRow_records {α : Type} {f : Record → α} (hf : ∀ r : Record, f { r with buffer := none } = f r) (tag : Nat) (b : BufferId)
    (dose : Nat) (s : State) : (sprayRow tag b dose s).tracker.records.map f
      = s.tracker.records.map (fun r => f (if r.tag = tag then r.sprayRow dose else r)) :=
  (rowResolved_records hf b _).trans (updateRecord_map f tag _ s)

theorem updateRecord_grows {tag : Nat} {f : Record → Record} (hf : ∀ r : Record, r.Grown (f r)) :
    Grows s.tracker.records (updateRecord tag f s).tracker.records := by
  refine .map (fun r => ?_) _
  split
  · exact hf r
  · exact .refl r

theorem skipRow_grows (tag : Nat) (b : BufferId) (k : ExcKind) (dose : Nat) (s : State) :
    Grows s.tracker.records (skipRow tag b k dose s).tracker.records :=
  (updateRecord_grows (grown_skipRow k dose)).trans (rowResolved_recedes _ b).grows

/-- The record whose row is skipped notes why. -/
theorem skipRow_noted {tag : Nat} {k : ExcKind} {dose : Nat} {b : BufferId} {x : Record}
    (hx : x ∈ (skipRow tag b k dose s).tracker.records) (ht : x.tag = tag) : x.noted k := by
  have hmem := List.mem_map_of_mem (f := fun r : Record => (r.tag, r.exc)) hx
  rw [skipRow_records fun _ => rfl] at hmem
  obtain ⟨r, -, hr⟩ := List.mem_map.mp hmem
  obtain ⟨htag, hexc⟩ := Prod.mk.inj hr
  have hrt : r.tag = tag := by
    by_contra hne
    rw [if_neg hne] at htag
    exact hne (htag.trans ht)
  rw [if_pos hrt] at hexc
  unfold Record.noted
  rw [← hexc]
  exact (noted_add k 1 r.exc).1

theorem dropRow_tracker (e : StrokeEntry) (k : ExcKind) (p : Bool) (s : State) :
    (dropRow e k p s).tracker = (skipRow e.tag e.buffer k 0 s).tracker := by
  unfold dropRow
  dsimp only
  split
  · exact conditionAppears_tracker _ _
  · rfl

/-! ### The three tests of a stroke start (R75) -/

/-- The record of a row is no further past the spray line than the traverse reaches. -/
def State.inReach (s : State) (e : StrokeEntry) : Prop :=
  ∀ d, (s.record? e.tag).bind s.position = some d → d - e.front ≤ (s.sprayReach * s.kScale : Nat)

/-- The flux supply pressure is known and high enough. -/
def State.pressed (s : State) : Prop := ∃ v, (s.slot 11).freshValue = some v ∧ (s.minFluxPressure : Int) ≤ v

/-- A row passes the three tests. -/
def State.starts (s : State) (e : StrokeEntry) : Prop :=
  (s.extr.state = .proven ∨ s.extr.state = .warn) ∧ s.inReach e ∧ s.pressed

theorem inReach_iff (e : StrokeEntry) : (match (s.record? e.tag).bind s.position with
      | some d => decide (s.counts s.sprayReach < d - e.front)
      | none => false) = false ↔ s.inReach e := by
  unfold State.inReach State.counts
  cases (s.record? e.tag).bind s.position with
  | none => simp
  | some d => simp

/-- Without proven extraction no row passes. -/
theorem strokeTests_unsound {e : StrokeEntry} (h : ¬ (s.extr.state = .proven ∨ s.extr.state = .warn)) :
    strokeTests e s = some (.fluxInhibit, false) := if_pos fun hs => h ((sound_iff _).mp hs)

theorem strokeTests_late {e : StrokeEntry} (h : s.extr.state = .proven ∨ s.extr.state = .warn) (hr : ¬ s.inReach e) :
    strokeTests e s = some (.fluxSkip, false) :=
  (if_neg (not_not.mpr ((sound_iff _).mpr h))).trans (if_pos (Bool.not_eq_false _ ▸ fun hf => hr ((inReach_iff e).mp hf)))

theorem strokeTests_reached {e : StrokeEntry} (h : s.extr.state = .proven ∨ s.extr.state = .warn) (hr : s.inReach e) :
    strokeTests e s = match (s.slot 11).freshValue with
      | none => some (.fluxSkip, true)
      | some p => if p < s.minFluxPressure then some (.fluxSkip, true) else none :=
  (if_neg (not_not.mpr ((sound_iff _).mpr h))).trans 
    (if_neg fun hm => Bool.false_ne_true (((inReach_iff e).mpr hr).symm.trans hm))

theorem strokeTests_unpressed {e : StrokeEntry} (h : s.extr.state = .proven ∨ s.extr.state = .warn) (hr : s.inReach e)
    (hp : ¬ s.pressed) : strokeTests e s = some (.fluxSkip, true) := by
  rw [strokeTests_reached h hr]
  split
  next => rfl
  next v hv => exact if_pos (not_le.mp fun hle => hp ⟨v, hv, hle⟩)

theorem strokeTests_starts {e : StrokeEntry} (h : s.starts e) : strokeTests e s = none := by
  obtain ⟨hsound, hreach, v, hv, hle⟩ := h
  rw [strokeTests_reached hsound hreach, hv]
  exact if_neg (not_lt.mpr hle)

/-- Why a row that does not start is dropped. -/
theorem strokeTests_fails {e : StrokeEntry} (h : ¬ s.starts e) : ∃ p, strokeTests e s
      = some (if s.extr.state = .proven ∨ s.extr.state = .warn then .fluxSkip else .fluxInhibit, p)
    ∧ (p = true ↔ (s.extr.state = .proven ∨ s.extr.state = .warn) ∧ s.inReach e) := by
  by_cases hs : s.extr.state = .proven ∨ s.extr.state = .warn
  · rw [if_pos hs]
    by_cases hr : s.inReach e
    · exact ⟨true, strokeTests_unpressed hs hr fun hp => h ⟨hs, hr, hp⟩, fun _ => ⟨hs, hr⟩, fun _ => rfl⟩
    · exact ⟨false, strokeTests_late hs hr, ⟨fun hf => absurd hf Bool.false_ne_true, fun hf => absurd hf.2 hr⟩⟩
  · rw [if_neg hs]
    exact ⟨false, strokeTests_unsound hs, ⟨fun hf => absurd hf Bool.false_ne_true, fun hf => absurd hf.1 hs⟩⟩

/-- The tests read nothing that a row leaves behind. -/
theorem strokeTests_of_dry (h : t.dry = s.dry) (e : StrokeEntry) : strokeTests e t = strokeTests e s := by
  have hambient := ambient_of_dry h
  have hcount := count_of_ambient hambient
  have hstore := store_of_ambient hambient
  have hscan := scan_of_ambient hambient
  have hextr := extr_of_ambient hambient
  have hentry : (t.record? e.tag).map Record.entry = (s.record? e.tag).map Record.entry := by
    have hface := record?_face (tag := e.tag) (face_of_plain (plain_of_dry h))
    have hmap := congrArg (Option.map fun f : Nat × Nat × Option Count24 × Option Nat × Nat × Stage × Bool => f.2.2.1) hface
    rwa [Option.map_map, Option.map_map] at hmap
  have hbind : ∀ u : State, (u.record? e.tag).bind u.position
      = (((u.record? e.tag).map Record.entry).bind id).map (fun c => (u.tracker.count - c).toInt) := fun u => by
    cases u.record? e.tag <;> rfl
  have hposition : (t.record? e.tag).bind t.position = (s.record? e.tag).bind s.position := by
    rw [hbind t, hbind s, hentry, hcount]
  have hparam : ∀ i, t.param i = s.param i := fun i => by
    unfold State.param State.config?
    rw [hstore]
  have hslot : t.slot 11 = s.slot 11 := by
    unfold State.slot
    rw [hscan]
  unfold strokeTests State.counts State.sprayReach State.kScale State.minFluxPressure
  rw [hextr, hposition, hslot]
  simp only [hparam]

/-! ### Rows that fail one after another (R75, R84) -/

/-- Every row of a list that fails its tests is dropped. -/
def dropFailing : List StrokeEntry → State → State
  | [], s => s
  | e :: rest, s => dropFailing rest (match strokeTests e s with
    | some (k, p) => dropRow e k p s
    | none => s)

theorem dropFailing_cons {e : StrokeEntry} {k : ExcKind} {p : Bool} (rest : List StrokeEntry) (h : strokeTests e s = some (k, p)) :
    dropFailing (e :: rest) s = dropFailing rest (dropRow e k p s) := by
  rw [dropFailing, h]

/-- The rows that fail are dropped, and those behind them served. -/
theorem serveRows_append {skipped : List StrokeEntry} (rest : List StrokeEntry) (h : ∀ q ∈ skipped, ¬ s.starts q) (ht : t.dry = s.dry) :
    serveRows (skipped ++ rest) t = serveRows rest (dropFailing skipped t) := by
  induction skipped generalizing t with
  | nil => rfl
  | cons e more ih =>
    obtain ⟨p, htests, -⟩ := strokeTests_fails (h e List.mem_cons_self)
    rw [← strokeTests_of_dry ht] at htests
    rw [List.cons_append, serveRows, htests, dropFailing_cons more htests]
    exact ih (fun q hq => h q (List.mem_cons_of_mem _ hq)) ((dropRow_dry t e _ p).trans ht)

section
variable {skipped : List StrokeEntry}

theorem dropFailing_dry (skipped : List StrokeEntry) (s : State) : (dropFailing skipped s).dry = s.dry := by
  induction skipped generalizing s with
  | nil => rfl
  | cons e more ih =>
    rw [dropFailing, ih]
    split
    · exact dropRow_dry s _ _ _
    · rfl

theorem dropFailing_spray (skipped : List StrokeEntry) (s : State) : (dropFailing skipped s).spray = s.spray := by
  induction skipped generalizing s with
  | nil => rfl
  | cons e more ih =>
    rw [dropFailing, ih]
    split
    · exact dropRow_spray e _ _ s
    · rfl

theorem dropFailing_grows (skipped : List StrokeEntry) (s : State) :
    Grows s.tracker.records (dropFailing skipped s).tracker.records := by
  induction skipped generalizing s with
  | nil => exact .refl _
  | cons e more ih =>
    rw [dropFailing]
    refine Grows.trans ?_ (ih _)
    split
    · rw [dropRow_tracker]
      exact skipRow_grows _ _ _ _ s
    · exact .refl _

/-- Each row that is dropped counts as skipped on its record. -/
theorem dropFailing_records (h : ∀ q ∈ skipped, ¬ s.starts q) (ht : t.dry = s.dry) :
    (dropFailing skipped t).tracker.records.map (fun x => (x.tag, x.skipped))
      = t.tracker.records.map (fun x => (x.tag, x.skipped + skipped.countP (fun q => q.tag = x.tag))) := by
  induction skipped generalizing t with
  | nil => rfl
  | cons e more ih =>
    obtain ⟨p, htests, -⟩ := strokeTests_fails (h e List.mem_cons_self)
    rw [← strokeTests_of_dry ht] at htests
    rw [dropFailing_cons more htests, ih (fun q hq => h q (List.mem_cons_of_mem _ hq)) ((dropRow_dry t e _ p).trans ht),
      dropRow_tracker, skipRow_records fun _ => rfl]
    refine List.map_congr_left fun r _ => ?_
    rw [List.countP_cons]
    by_cases hr : r.tag = e.tag
    · rw [if_pos hr, if_pos (c := decide (e.tag = r.tag) = true) (decide_eq_true hr.symm)]
      exact congrArg (Prod.mk _) (Nat.add_right_comm r.skipped 1 _)
    · rw [if_neg hr, if_neg (c := decide (e.tag = r.tag) = true) (by simpa using Ne.symm hr)]
      rfl

/-- The records whose rows are dropped note why. -/
theorem dropFailing_noted (h : ∀ q ∈ skipped, ¬ s.starts q) (ht : t.dry = s.dry) {q : StrokeEntry} (hq : q ∈ skipped) {x : Record}
    (hx : x ∈ (dropFailing skipped t).tracker.records) (hxt : x.tag = q.tag) :
    x.noted (if s.extr.state = .proven ∨ s.extr.state = .warn then .fluxSkip else .fluxInhibit) := by
  induction skipped generalizing t with
  | nil => nomatch hq
  | cons e more ih =>
    obtain ⟨p, htests, -⟩ := strokeTests_fails (h e List.mem_cons_self)
    rw [← strokeTests_of_dry ht] at htests
    rw [dropFailing_cons more htests] at hx
    obtain rfl | hmore := List.mem_cons.mp hq
    · obtain ⟨r, hr, hg⟩ := dropFailing_grows more _ x hx
      rw [dropRow_tracker] at hr
      exact hg.noted _ (skipRow_noted hr (hg.tag.symm.trans hxt))
    · exact ih (fun q hq => h q (List.mem_cons_of_mem _ hq)) ((dropRow_dry t e _ p).trans ht) hmore hx

theorem dropRow_alarms (e : StrokeEntry) (k : ExcKind) (s : State) : (dropRow e k false s).alarms = s.alarms :=
  skipRow_alarms s e.tag e.buffer k 0

theorem dropRow_pressure (e : StrokeEntry) (k : ExcKind) (s : State) : (dropRow e k true s).condition .fluxPressLow = true :=
  conditionAppears_condition (k := .fluxPressLow) (skipRow e.tag e.buffer k 0 s)

theorem dropRow_condition (e : StrokeEntry) (k : ExcKind) (p : Bool) (h : s.condition .fluxPressLow = true) :
    (dropRow e k p s).condition .fluxPressLow = true := by
  cases p with
  | true => exact dropRow_pressure e k s
  | false => exact (condition_congr s (alarm_of_alarms (dropRow_alarms e k s))).trans h

theorem dropFailing_condition (skipped : List StrokeEntry) (h : s.condition .fluxPressLow = true) :
    (dropFailing skipped s).condition .fluxPressLow = true := by
  induction skipped generalizing s with
  | nil => exact h
  | cons e more ih =>
    rw [dropFailing]
    refine ih ?_
    split
    · exact dropRow_condition e _ _ h
    · exact h

/-- A row that fails at the pressure alone makes the pressure known as low. -/
theorem dropFailing_pressure (h : ∀ q ∈ skipped, ¬ s.starts q) (ht : t.dry = s.dry) {q : StrokeEntry} (hq : q ∈ skipped)
    (hr : (s.extr.state = .proven ∨ s.extr.state = .warn) ∧ s.inReach q) :
    (dropFailing skipped t).condition .fluxPressLow = true := by
  induction skipped generalizing t with
  | nil => nomatch hq
  | cons e more ih =>
    obtain ⟨p, htests, hp⟩ := strokeTests_fails (h e List.mem_cons_self)
    rw [← strokeTests_of_dry ht] at htests
    rw [dropFailing_cons more htests]
    obtain rfl | hmore := List.mem_cons.mp hq
    · rw [hp.mpr hr]
      exact dropFailing_condition more (dropRow_pressure q _ t)
    · exact ih (fun q hq => h q (List.mem_cons_of_mem _ hq)) ((dropRow_dry t e _ p).trans ht) hmore

theorem dropFailing_alarms (h : ∀ q ∈ skipped, ¬ s.starts q) (ht : t.dry = s.dry)
    (hr : ∀ q ∈ skipped, ¬ ((s.extr.state = .proven ∨ s.extr.state = .warn) ∧ s.inReach q)) :
    (dropFailing skipped t).alarms = t.alarms := by
  induction skipped generalizing t with
  | nil => rfl
  | cons e more ih =>
    obtain ⟨p, htests, hp⟩ := strokeTests_fails (h e List.mem_cons_self)
    have hno : p = false := Bool.eq_false_iff.mpr fun hpt => hr e List.mem_cons_self (hp.mp hpt)
    rw [← strokeTests_of_dry ht] at htests
    rw [dropFailing_cons more htests, ih (fun q hq => h q (List.mem_cons_of_mem _ hq)) ((dropRow_dry t e _ p).trans ht)
      (fun q hq => hr q (List.mem_cons_of_mem _ hq)), hno, dropRow_alarms]

end

end

end Sys2Proof.Machine

end

section
/-! PROOFS. The traverse: purges, strokes, and the rows that it serves when it comes to rest (R72 to R79, R84, R86). -/

namespace Sys2Proof.Machine

section
variable {s u : State}

/-! ### Moves of a purge and of a stroke -/

theorem sound_eq (e : ExtState) : e.sound = (e == .proven || e == .warn) := by cases e <;> rfl

theorem purgeParks_parking {n : Nat} (h : s.spray.running = .purge .park n) : purgeParks s
    = s.setSpray { s.spray with position := some 0, running := .purge .flush 0, purgeOpen := s.extr.state.sound } := by
  unfold purgeParks
  rw [h]

theorem purgeParks_other (h : ∀ n, s.spray.running ≠ .purge .park n) : purgeParks s = s := by
  unfold purgeParks
  split
  next n hn => exact absurd hn (h n)
  all_goals rfl

/-- The purge over, before the queue is served. -/
def flushed (s : State) : State :=
  s.setSpray { s.spray with position := some 0, running := .idle, purgeOpen := false, purge := .completed }

theorem purgeCompletes_flushing {n : Nat} (h : s.spray.running = .purge .flush n) : purgeCompletes s = serveQueue (flushed s) := by
  unfold purgeCompletes
  rw [h]
  rfl

theorem purgeCompletes_other (h : ∀ n, s.spray.running ≠ .purge .flush n) : purgeCompletes s = s := by
  unfold purgeCompletes
  split
  next n hn => exact absurd hn (h n)
  all_goals rfl

/-- With no stroke under way, none of its events changes anything. -/
theorem strokeEvents_other (h : ∀ r, s.spray.running ≠ .stroke r) :
    strokePhaseEnds s = s ∧ cellEntered s = s ∧ valveTimeEnds s = s ∧ strokeCompletes s = s := by
  unfold strokePhaseEnds cellEntered valveTimeEnds strokeCompletes
  cases hr : s.spray.running with
  | stroke r => exact absurd hr (h r)
  | idle => exact ⟨rfl, rfl, rfl, rfl⟩
  | purge p n => exact ⟨rfl, rfl, rfl, rfl⟩

section
variable {r : Stroke}

theorem strokePhaseEnds_homing (h : s.spray.running = .stroke r) (hp : r.phase = .homing) : strokePhaseEnds s
    = s.setSpray { s.spray with
        position := some 0, running := .stroke { r with phase := if r.startEnd = 0 then .crossing else .reposition, elapsed := 0 } } := by
  unfold strokePhaseEnds
  rw [h]
  dsimp only
  rw [hp]

theorem strokePhaseEnds_reposition (h : s.spray.running = .stroke r) (hp : r.phase = .reposition) : strokePhaseEnds s
    = s.setSpray { s.spray with position := some r.startEnd, running := .stroke { r with phase := .crossing, elapsed := 0 } } := by
  unfold strokePhaseEnds
  rw [h]
  dsimp only
  rw [hp]

theorem strokePhaseEnds_crossing (h : s.spray.running = .stroke r) (hp : r.phase = .crossing) : strokePhaseEnds s = s := by
  unfold strokePhaseEnds
  rw [h]
  dsimp only
  rw [hp]

/-- The open time of the cell that the nozzle leaves counts as delivered. -/
theorem settleCell_eq (r : Stroke) : r.settleCell = { r with delivered := r.delivered + r.openTime.getD 0, openTime := none } := by
  unfold Stroke.settleCell
  cases h : r.openTime with
  | some t => rfl
  | none =>
    cases r
    cases h
    rfl

theorem cellEntered_enters (h : s.spray.running = .stroke r) (hp : r.phase = .crossing) (he : r.entered < r.last + 1 - r.first) :
    cellEntered s = s.setSpray { s.spray with
      running := .stroke { r.settleCell with
        entered := r.entered + 1
        openTime := if decide (s.cellLevel r.buffer r.row r.nextColumn ≠ 0) && s.extr.state.sound
          then some (openTimeOf s.traverseSpeed (s.cellLevel r.buffer r.row r.nextColumn)) else none
        cellElapsed := 0 }
      sprayOpen := decide (s.cellLevel r.buffer r.row r.nextColumn ≠ 0) && s.extr.state.sound } := by
  unfold cellEntered
  rw [h]
  exact if_pos ⟨hp, he⟩

theorem valveTimeEnds_open {o : Nat} (h : s.spray.running = .stroke r) (ho : r.openTime = some o) : valveTimeEnds s
    = s.setSpray { s.spray with running := .stroke { r with delivered := r.delivered + o, openTime := none }, sprayOpen := false } := by
  have hsettle : r.settleCell = { r with delivered := r.delivered + o, openTime := none } := by
    rw [settleCell_eq, ho]
    rfl
  unfold valveTimeEnds
  rw [h, ← hsettle]
  exact if_pos (by rw [ho]; rfl)

/-! ### Coming to rest (R79, R86) -/

/-- The traverse at the far end of its stroke, its valve shut. -/
def crossed (r : Stroke) (s : State) : State := s.setSpray { s.spray with position := some r.farEnd, running := .idle, sprayOpen := false }

/-- The stroke over, before the queue is served. -/
def strokeOver (r : Stroke) (s : State) : State := sprayRow r.tag r.buffer (s.spanDose r) (crossed r s)

theorem strokeCompletes_crossing (h : s.spray.running = .stroke r) (hp : r.phase = .crossing) :
    strokeCompletes s = serveQueue (strokeOver r s) := by
  unfold strokeCompletes
  rw [h]
  exact if_pos hp

/-- The traverse has come to rest, its queue as it stood. -/
structure Rests (s u : State) (at_ : Nat) : Prop where
  dry : u.dry = s.dry
  running : u.spray.running = .idle
  queue : u.spray.queue = s.spray.queue
  position : u.spray.position = some at_
  rows : u.tracker.records.map (fun x => (x.tag, x.skipped)) = s.tracker.records.map (fun x => (x.tag, x.skipped))
  alarms : u.alarms = s.alarms

theorem flushed_rests (s : State) : Rests s (flushed s) 0 :=
  ⟨setSpray_dry s _, rfl, rfl, rfl, rfl, rfl⟩

theorem strokeOver_rests (r : Stroke) (s : State) : Rests s (strokeOver r s) r.farEnd := by
  have hspray : (strokeOver r s).spray = (crossed r s).spray := sprayRow_spray _ _ _ _
  refine ⟨?_, by rw [hspray]; rfl, by rw [hspray]; rfl, by rw [hspray]; rfl, ?_, ?_⟩
  · exact (sprayRow_dry (crossed r s) _ _ _).trans (setSpray_dry s _)
  · refine (sprayRow_records (fun _ => rfl) _ _ _ _).trans (List.map_congr_left fun x _ => ?_)
    show _ = (x.tag, x.skipped)
    split <;> rfl
  · exact sprayRow_alarms (crossed r s) _ _ _

/-- The row of a completed stroke counts as sprayed, with its dose. -/
theorem strokeOver_records (r : Stroke) (s : State) :
    (strokeOver r s).tracker.records.map (fun x => (x.tag, x.sprayed, x.skipped, x.dose))
      = s.tracker.records.map (fun x => if x.tag = r.tag
          then (x.tag, x.sprayed + 1, x.skipped, min maxDose (x.dose + s.spanDose r)) else (x.tag, x.sprayed, x.skipped, x.dose)) := by
  refine (sprayRow_records (fun _ => rfl) _ _ _ _).trans (List.map_congr_left fun x _ => ?_)
  split <;> rfl

/-- With no row waiting the traverse stays at rest. -/
theorem serveQueue_empty (h : u.spray.queue = []) : serveQueue u = u := by
  have hset : u.setSpray { u.spray with queue := [] } = u := by
    rw [← h]
    rfl
  unfold serveQueue
  split
  · rfl
  · rw [h, serveRows, hset]

end

/-! ### The queue served at rest (R75 to R77) -/

/-- A stroke starts from the rail that lies nearer. -/
theorem buildStroke_nearer {e : StrokeEntry} {at_ : Nat} (he : e.first ≤ e.last) :
    let near := ((at_ : Int) - 10 * e.first).natAbs ≤ ((at_ : Int) - 10 * (e.last + 1)).natAbs
    let a := if near then 10 * e.first else 10 * (e.last + 1)
    buildStroke (some at_) e = { tag := e.tag, buffer := e.buffer, row := e.row, first := e.first, last := e.last, startEnd := a,
                                 farEnd := if near then 10 * (e.last + 1) else 10 * e.first,
                                 phase := if at_ = a then .crossing else .reposition, delivered := 0, entered := 0,
                                 openTime := none, elapsed := 0, cellElapsed := 0 } := by
  intro near a
  have hnear : (decide ((at_ : Int) - (10 * e.first : Nat) ≤ ((10 * (e.last + 1) : Nat) : Int) - at_)
      && decide (((10 * e.first : Nat) : Int) - at_ ≤ ((10 * (e.last + 1) : Nat) : Int) - at_)) = decide near := by
    rw [← Bool.decide_and]
    refine decide_eq_decide.mpr ?_
    show _ ↔ ((at_ : Int) - 10 * e.first).natAbs ≤ ((at_ : Int) - 10 * (e.last + 1)).natAbs
    omega
  unfold buildStroke
  by_cases hn : near
  · have ha : a = 10 * e.first := if_pos hn
    rw [decide_eq_true hn] at hnear
    simp only [hnear, ha, if_pos hn, if_true]
  · have ha : a = 10 * (e.last + 1) := if_neg hn
    rw [decide_eq_false hn] at hnear
    simp only [hnear, ha, if_neg hn, Bool.false_eq_true, if_false]

section
variable {at_ : Nat}

theorem Rests.serves (h : Rests s u at_) (hm : s.modes.mode ≠ .safe) : serveQueue u = serveRows s.spray.queue u := by
  have hmode : u.modes.mode ≠ .safe := by rwa [modes_of_ambient (ambient_of_dry h.dry)]
  rw [← h.queue]
  exact if_neg (by simp [hmode, (isIdle_iff u.spray.running).mpr h.running])

theorem Rests.waits (h : Rests s u at_) (hm : s.modes.mode = .safe) : serveQueue u = u := by
  have hmode : u.modes.mode = .safe := by rwa [modes_of_ambient (ambient_of_dry h.dry)]
  exact if_pos (by simp [hmode])

theorem far_of_dry (h : u.dry = s.dry) : u.far = s.far := (congrArg (fun d : Dry => (⟨d.quiet.reports, d.quiet.scan, d.quiet.store,
  d.quiet.link, d.quiet.uptime, d.quiet.freeIndex, d.quiet.pending⟩ : Far)) h :)

/-- What stands around the rows that were served. -/
theorem Rests.outside (h : Rests s u at_) (skipped : List StrokeEntry) :
    SameOutside s (dropFailing skipped u) ∧ (dropFailing skipped u).modes = s.modes := by
  have hdry := (dropFailing_dry skipped u).trans h.dry
  exact ⟨sameOutside_of_far (far_of_dry hdry), modes_of_ambient (ambient_of_dry hdry)⟩

/-- A row of the queue that starts, those before it failing. -/
theorem Rests.started (h : Rests s u at_) (hm : s.modes.mode ≠ .safe) {skipped rest : List StrokeEntry} {e : StrokeEntry}
    (hq : s.spray.queue = skipped ++ e :: rest) (hfail : ∀ q ∈ skipped, ¬ s.starts q) (he : s.starts e) :
    serveQueue u = beginStroke e ((dropFailing skipped u).setSpray { (dropFailing skipped u).spray with queue := rest }) := by
  have htests : strokeTests e (dropFailing skipped u) = none :=
    (strokeTests_of_dry ((dropFailing_dry skipped u).trans h.dry) e).trans (strokeTests_starts he)
  rw [h.serves hm, hq, serveRows_append _ hfail h.dry, serveRows, htests]

/-- Every row of the queue fails. -/
theorem Rests.none_started (h : Rests s u at_) (hm : s.modes.mode ≠ .safe) (hfail : ∀ q ∈ s.spray.queue, ¬ s.starts q) :
    serveQueue u = (dropFailing s.spray.queue u).setSpray { (dropFailing s.spray.queue u).spray with queue := [] } := by
  have happend := serveRows_append [] hfail h.dry
  rw [List.append_nil] at happend
  rw [h.serves hm, happend, serveRows]

theorem Rests.skips (h : Rests s u at_) {skipped : List StrokeEntry} (hfail : ∀ q ∈ skipped, ¬ s.starts q) :
    (dropFailing skipped u).tracker.records.map (fun x => (x.tag, x.skipped))
      = s.tracker.records.map (fun x => (x.tag, x.skipped + skipped.countP (fun q => q.tag = x.tag))) := by
  have hmap := congrArg (List.map fun y : Nat × Nat => (y.1, y.2 + skipped.countP (fun q => q.tag = y.1))) h.rows
  rw [List.map_map, List.map_map] at hmap
  exact (dropFailing_records hfail h.dry).trans hmap

end

end

/-- The traverse serves its queue when a command brings it to rest (R75 to R77, R84). -/
theorem rest_serves {s u : State} {c : Instr} {at_ : Nat} (hrests : Rests s u at_)
    (hexec : exec c s = .next (admissionTest (serveQueue u))) :
    (s.modes.mode = .safe → ∃ u, exec c s = .next (admissionTest u) ∧ u.spray.running = .idle ∧ u.spray.queue = s.spray.queue)
    ∧ (∀ (skipped rest : List StrokeEntry) (e : StrokeEntry), s.modes.mode ≠ .safe → s.spray.queue = skipped ++ e :: rest →
      (∀ q ∈ skipped, ¬ s.starts q) → s.starts e → e.first ≤ e.last →
      ∃ u n, exec c s = .next (admissionTest u) ∧ SameOutside s u ∧ u.modes = s.modes ∧ u.spray.queue = rest
        ∧ u.spray.position = some at_ ∧ u.spray.running = .stroke n 
        ∧ (let near := ((at_ : Int) - 10 * e.first).natAbs ≤ ((at_ : Int) - 10 * (e.last + 1)).natAbs
           let a := if near then 10 * e.first else 10 * (e.last + 1)
           n = { tag := e.tag, buffer := e.buffer, row := e.row, first := e.first, last := e.last, startEnd := a,
                 farEnd := if near then 10 * (e.last + 1) else 10 * e.first, phase := if at_ = a then .crossing else .reposition,
                 delivered := 0, entered := 0, openTime := none, elapsed := 0, cellElapsed := 0 })
        ∧ (∀ q ∈ skipped, ∀ x ∈ u.tracker.records, x.tag = q.tag →
          x.noted (if s.extr.state = .proven ∨ s.extr.state = .warn then .fluxSkip else .fluxInhibit))
        ∧ u.tracker.records.map (fun x => (x.tag, x.skipped))
          = s.tracker.records.map (fun x => (x.tag, x.skipped + skipped.countP (fun q => q.tag = x.tag)))
        ∧ u.alarms = s.alarms)
    ∧ (s.modes.mode ≠ .safe → (∀ q ∈ s.spray.queue, ¬ s.starts q) →
      ∃ u, exec c s = .next (admissionTest u) ∧ SameOutside s u ∧ u.modes = s.modes ∧ u.spray.queue = []
        ∧ u.spray.position = some at_ ∧ u.spray.running = .idle
        ∧ u.tracker.records.map (fun x => (x.tag, x.skipped))
          = s.tracker.records.map (fun x => (x.tag, x.skipped + s.spray.queue.countP (fun q => q.tag = x.tag)))
        ∧ ((∃ q ∈ s.spray.queue, (s.extr.state = .proven ∨ s.extr.state = .warn) ∧ s.inReach q) → u.condition .fluxPressLow = true)
        ∧ ((∀ q ∈ s.spray.queue, ¬ ((s.extr.state = .proven ∨ s.extr.state = .warn) ∧ s.inReach q)) → u.alarms = s.alarms)) := by
  refine ⟨fun hm => ?safe, fun skipped rest e hm hq hfail he hspan => ?starts, fun hm hfail => ?fails⟩
  case safe => exact ⟨u, by rw [hexec, hrests.waits hm], hrests.running, hrests.queue⟩
  case starts =>
    obtain ⟨hout, hmodes⟩ := hrests.outside skipped
    have hspray := dropFailing_spray skipped u
    have hposition : (dropFailing skipped u).spray.position = some at_ := by rw [hspray, hrests.position]
    have hquiet : ∀ q ∈ skipped, ¬ ((s.extr.state = .proven ∨ s.extr.state = .warn) ∧ s.inReach q) :=
      fun q hqs hr => hfail q hqs ⟨hr.1, hr.2, he.2.2⟩
    refine ⟨_, _, hexec.trans (congrArg (fun v => Host.Outcome.next (admissionTest v)) (hrests.started hm hq hfail he)),
      ⟨⟨hout.scan, hout.store, hout.uptime, hout.freeIndex, hout.pending⟩, hout.link, hout.reports⟩, hmodes, rfl, hposition,
      rfl, (congrArg (buildStroke · e) hposition).trans (buildStroke_nearer hspan), fun q hqs x hx hxt => dropFailing_noted hfail hrests.dry hqs hx hxt,
      hrests.skips hfail, ?_⟩
    exact (dropFailing_alarms hfail hrests.dry hquiet).trans hrests.alarms
  case fails =>
    obtain ⟨hout, hmodes⟩ := hrests.outside s.spray.queue
    have hspray := dropFailing_spray s.spray.queue u
    refine ⟨_, hexec.trans (congrArg (fun v => Host.Outcome.next (admissionTest v)) (hrests.none_started hm hfail)),
      ⟨⟨hout.scan, hout.store, hout.uptime, hout.freeIndex, hout.pending⟩, hout.link, hout.reports⟩, hmodes, rfl, ?_, ?_,
      hrests.skips hfail, fun ⟨q, hq, hr⟩ => dropFailing_pressure hfail hrests.dry hq hr,
      fun hr => (dropFailing_alarms hfail hrests.dry hr).trans hrests.alarms⟩
    · exact (congrArg Spray.position hspray).trans hrests.position
    · exact (congrArg Spray.running hspray).trans hrests.running

/-- Settles O45: each event of a move by the move under way, and the queue served where the traverse comes to rest. -/
theorem traverseRuns : Obligations.TraverseRuns := by
  intro s
  have hsound : (decide (s.extr.state = .proven ∨ s.extr.state = .warn)) = s.extr.state.sound := by
    cases s.extr.state <;> rfl
  refine ⟨fun n h => ?park, fun h => congrArg Host.Outcome.next (purgeParks_other h), fun n h hq => ?flush,
    fun h => congrArg (fun u => Host.Outcome.next (admissionTest u)) (purgeCompletes_other h), fun h => ?other, fun r h => ?stroke,
    fun r h hp => ?strokeRests, fun n h => ?purgeRests⟩
  case park =>
    refine congrArg Host.Outcome.next ((purgeParks_parking h).trans ?_)
    rw [sound_eq]
    rfl
  case flush =>
    refine congrArg (fun u => Host.Outcome.next (admissionTest u)) ((purgeCompletes_flushing h).trans ?_)
    exact serveQueue_empty (u := flushed s) hq
  case other =>
    obtain ⟨hphase, hcell, hvalve, hcompletes⟩ := strokeEvents_other h
    exact ⟨congrArg Host.Outcome.next hphase, congrArg Host.Outcome.next hcell, congrArg Host.Outcome.next hvalve,
      congrArg (fun u => Host.Outcome.next (admissionTest u)) hcompletes⟩
  case stroke =>
    refine ⟨fun hp => congrArg Host.Outcome.next (strokePhaseEnds_homing h hp),
      fun hp => congrArg Host.Outcome.next (strokePhaseEnds_reposition h hp),
      fun hp => congrArg Host.Outcome.next (strokePhaseEnds_crossing h hp), fun hp he => ?cell,
      fun o ho => congrArg Host.Outcome.next (valveTimeEnds_open h ho), fun hp hq => ?ends⟩
    case cell =>
      intro column level opens
      refine congrArg Host.Outcome.next ((cellEntered_enters h hp he).trans ?_)
      have hopens : (decide (s.cellLevel r.buffer r.row r.nextColumn ≠ 0) && s.extr.state.sound) = decide opens := by
        rw [← hsound, ← Bool.decide_and]
        rfl
      rw [hopens, settleCell_eq]
      simp only [decide_eq_true_eq]
      rfl
    case ends =>
      have hrests := strokeOver_rests r s
      refine ⟨strokeOver r s, ?_, sameOutside_of_far (far_of_dry hrests.dry), modes_of_ambient (ambient_of_dry hrests.dry), hrests.alarms,
        sprayRow_spray _ _ _ _, strokeOver_records r s⟩
      refine congrArg (fun u => Host.Outcome.next (admissionTest u)) ((strokeCompletes_crossing h hp).trans ?_)
      exact serveQueue_empty (hrests.queue.trans hq)
  case strokeRests =>
    exact rest_serves (strokeOver_rests r s) (congrArg (fun u => Host.Outcome.next (admissionTest u)) (strokeCompletes_crossing h hp))
  case purgeRests =>
    exact rest_serves (flushed_rests s) (congrArg (fun u => Host.Outcome.next (admissionTest u)) (purgeCompletes_flushing h))

end Sys2Proof.Machine

end

section
/-! PROOFS. A row of a record falls due: at the compositor, and then at the Stroke Queue (R45, R65 to R67, R73). -/

namespace Sys2Proof.Machine

section
variable {s : State} {tag : Nat}

/-! ### One row after another (R45) -/

/-- The rows of a record fall due one after another. -/
theorem dueRows_step (n tag : Nat) (s : State) : dueRows (n + 1) tag s = dueRows n tag (dueRows 1 tag s) := by
  rw [dueRows_succ, dueRows_succ 0]
  cases h : s.rowAhead? tag with
  | some r => rfl
  | none =>
    cases n with
    | zero => rfl
    | succ n =>
      show s = dueRows (n + 1) tag s
      rw [dueRows_succ, h]

/-- The next row of a record moves on. -/
def rowPassed (tag : Nat) (s : State) : State := updateRecord tag (fun r => { r with nextRow := r.nextRow + 1 }) s

theorem rowAhead?_iff {r : Record} {d : Int} (hr : s.record? tag = some r) (hd : s.position r = some d) :
    s.rowAhead? tag = if r.nextRow < r.rowsTotal ∧ s.counts (s.sprayLine + 10 * r.nextRow) ≤ d then some r else none := by
  unfold State.rowAhead?
  rw [hr]
  by_cases h : r.nextRow < r.rowsTotal ∧ s.counts (s.sprayLine + 10 * r.nextRow) ≤ d
  · rw [if_pos h]
    simp [Option.filter_some, hd, h]
  · rw [if_neg h]
    simp only [Option.filter_some, hd, Bool.and_eq_true, decide_eq_true_eq, if_neg h]

/-- A row that falls due goes to the buffer that holds the board's map. -/
theorem dueRows_one {r : Record} {d : Int} {b : BufferId} (hr : s.record? tag = some r) (hd : s.position r = some d)
    (hb : r.buffer = some b) (hn : r.nextRow < r.rowsTotal) (hf : s.counts (s.sprayLine + 10 * r.nextRow) ≤ d) :
    dueRows 1 tag s = rowDue tag r.nextRow b (rowPassed tag s) := by
  obtain rfl := tag_of_record? hr
  rw [dueRows_succ, rowAhead?_iff hr hd, if_pos ⟨hn, hf⟩]
  show rowFallsDue r s = _
  unfold rowFallsDue
  rw [hb]
  rfl

/-! ### At the compositor (R65 to R67) -/

section
variable {b : BufferId} {m : MapBuffer} {row : Nat}

theorem rowDue_composing (hm : s.maps.buffers.get b = some m) (hc : m.composing = true) :
    rowDue tag row b s = skipRow tag b .fluxLate 0 s := by
  unfold rowDue
  rw [hm]
  exact if_pos hc

theorem rowDue_empty (hm : s.maps.buffers.get b = some m) (hc : m.composing = false) (hs : m.spans.getD row none = none) :
    rowDue tag row b s = sprayRow tag b 0 s := by
  unfold rowDue
  rw [hm]
  refine (if_neg (by rw [hc]; decide)).trans ?_
  rw [hs]

/-- The row that arrives at the Stroke Queue. -/
def arriving (tag : Nat) (b : BufferId) (row first last : Nat) (s : State) : StrokeEntry :=
  { tag := tag, buffer := b, row := row, front := s.counts (s.sprayLine + 10 * row), first := first, last := last }

theorem rowDue_arrives {first last : Nat} (hm : s.maps.buffers.get b = some m) (hc : m.composing = false)
    (hs : m.spans.getD row none = some (first, last)) : rowDue tag row b s = rowArrives (arriving tag b row first last s) s := by
  unfold rowDue
  rw [hm]
  refine (if_neg (by rw [hc]; decide)).trans ?_
  rw [hs]
  rfl

end

/-! ### At the Stroke Queue (R73) -/

section
variable {e : StrokeEntry}

theorem rowArrives_safe (h : s.modes.mode = .safe) : rowArrives e s = skipRow e.tag e.buffer .fluxSkip 0 s := if_pos h

theorem rowArrives_served (h : s.modes.mode ≠ .safe) (hi : s.spray.running = .idle) (hq : s.spray.queue = []) :
    rowArrives e s = serveRows [e] s :=
  (if_neg h).trans (if_pos (by rw [hi, hq]; rfl))

theorem not_idle_empty (h : s.spray.running ≠ .idle ∨ s.spray.queue ≠ []) :
    ¬ (s.spray.running.isIdle && s.spray.queue.isEmpty) = true := by
  rw [Bool.and_eq_true, isIdle_iff, List.isEmpty_iff]
  exact fun ⟨hi, hq⟩ => h.elim (· hi) (· hq)

theorem rowArrives_waits (h : s.modes.mode ≠ .safe) (hb : s.spray.running ≠ .idle ∨ s.spray.queue ≠ []) (hq : s.spray.queue.length < 4) :
    rowArrives e s = s.setSpray { s.spray with queue := s.spray.queue ++ [e] } :=
  (if_neg h).trans ((if_neg (not_idle_empty hb)).trans (if_pos hq))

theorem rowArrives_full (h : s.modes.mode ≠ .safe) (hq : 4 ≤ s.spray.queue.length) :
    rowArrives e s = skipRow e.tag e.buffer .fluxSkip 0 s := by
  have hne : s.spray.queue ≠ [] := fun he => by rw [he] at hq; exact absurd hq (by decide)
  exact (if_neg h).trans ((if_neg (not_idle_empty (.inr hne))).trans (if_neg (not_lt.mpr hq)))

/-- A row that arrives at a traverse at rest and passes its tests starts its stroke. -/
theorem serveRows_starts (h : s.starts e) (hq : s.spray.queue = []) :
    serveRows [e] s = s.setSpray { s.spray with running := .stroke (buildStroke s.spray.position e) } := by
  have hset : ({ s.spray with queue := [] } : Spray) = s.spray := by rw [← hq]
  rw [serveRows, strokeTests_starts h, hset]
  rfl

/-- One that fails a test is dropped. -/
theorem serveRows_fails (h : ¬ s.starts e) (hq : s.spray.queue = []) : ∃ p, serveRows [e] s
    = dropRow e (if s.extr.state = .proven ∨ s.extr.state = .warn then .fluxSkip else .fluxInhibit) p s := by
  obtain ⟨p, htests, -⟩ := strokeTests_fails h
  refine ⟨p, ?_⟩
  have hspray := dropRow_spray e (if s.extr.state = .proven ∨ s.extr.state = .warn then .fluxSkip else .fluxInhibit) p s
  rw [serveRows, htests]
  show State.setSpray _ _ = _
  have hset : ({ s.spray with queue := [] } : Spray) = s.spray := by rw [← hq]
  rw [hspray, hset, ← hspray]
  rfl

end

/-! ### The counts of a row (R43, R65, R66) -/

/-- What a record counts of its rows. -/
def Record.counts (r : Record) : Nat × Nat × Nat × Nat × Nat := (r.tag, r.sprayed, r.skipped, r.dose, r.nextRow)

/-- A row of a board counted as sprayed and skipped this many times, no dose being delivered. -/
def State.counted (s : State) (tag sprayed skipped : Nat) (q : State) : Prop := q.tracker.records.map Record.counts
  = s.tracker.records.map (fun x => if x.tag = tag then
      (x.tag, x.sprayed + sprayed, x.skipped + skipped, min 4294967295 x.dose, x.nextRow + 1)
    else (x.tag, x.sprayed, x.skipped, x.dose, x.nextRow))

theorem rowPassed_map {α : Type} (f : Record → α) : (rowPassed tag s).tracker.records.map f
    = s.tracker.records.map (fun x => f (if x.tag = tag then { x with nextRow := x.nextRow + 1 } else x)) :=
  updateRecord_map f tag _ s

theorem counted_skipRow (b : BufferId) (k : ExcKind) : s.counted tag 0 1 (skipRow tag b k 0 (rowPassed tag s)) := by
  refine (skipRow_records (fun _ => rfl) _ _ _ _ _).trans ((rowPassed_map _).trans (List.map_congr_left fun x _ => ?_))
  by_cases h : x.tag = tag
  · rw [if_pos h, if_pos h, if_pos h]
    rfl
  · rw [if_neg h, if_neg h, if_neg h]
    rfl

theorem counted_sprayRow (b : BufferId) : s.counted tag 1 0 (sprayRow tag b 0 (rowPassed tag s)) := by
  refine (sprayRow_records (fun _ => rfl) _ _ _ _).trans ((rowPassed_map _).trans (List.map_congr_left fun x _ => ?_))
  by_cases h : x.tag = tag
  · rw [if_pos h, if_pos h, if_pos h]
    rfl
  · rw [if_neg h, if_neg h, if_neg h]
    rfl

/-- A skipped row: counted, noted, and nothing of the traverse moved. -/
def State.skipped (s : State) (tag : Nat) (k : ExcKind) (q : State) : Prop :=
  s.counted tag 0 1 q ∧ q.spray = s.spray ∧ ∀ x ∈ q.tracker.records, x.tag = tag → x.noted k

theorem skipped_skipRow (b : BufferId) (k : ExcKind) : s.skipped tag k (skipRow tag b k 0 (rowPassed tag s)) :=
  ⟨counted_skipRow b k, skipRow_spray _ _ _ _ _, fun _ hx ht => skipRow_noted hx ht⟩

theorem skipped_dropRow {e : StrokeEntry} (k : ExcKind) (p : Bool) (h : e.tag = tag) : s.skipped tag k (dropRow e k p (rowPassed tag s)) := by
  subst h
  obtain ⟨hcounted, -, hnoted⟩ := skipped_skipRow (s := s) (tag := e.tag) e.buffer k
  have htracker := dropRow_tracker e k p (rowPassed e.tag s)
  refine ⟨?_, dropRow_spray e k p _, fun x hx ht => hnoted x (htracker ▸ hx) ht⟩
  unfold State.counted
  rw [htracker]
  exact hcounted

/-! ### The tests of the row, once it has passed (R75) -/

theorem rowPassed_record {r : Record} (hr : s.record? tag = some r) :
    (rowPassed tag s).record? tag = some { r with nextRow := r.nextRow + 1 } := by
  refine Eq.trans ?_ (congrArg (Option.map fun r : Record => { r with nextRow := r.nextRow + 1 }) hr)
  exact record?_updateRecord fun _ => rfl

theorem rowPassed_starts {r : Record} {d : Int} {e : StrokeEntry} (hr : s.record? tag = some r) (hd : s.position r = some d)
    (he : e.tag = tag) : (rowPassed tag s).starts e ↔ (s.extr.state = .proven ∨ s.extr.state = .warn)
      ∧ d - e.front ≤ (s.sprayReach * s.kScale : Nat) ∧ ∃ v, (s.slot 11).freshValue = some v ∧ (s.minFluxPressure : Int) ≤ v := by
  have hposition : ((rowPassed tag s).record? e.tag).bind (rowPassed tag s).position = some d := by
    rw [he, rowPassed_record hr]
    exact hd
  have hreach : (rowPassed tag s).inReach e ↔ d - e.front ≤ (s.sprayReach * s.kScale : Nat) := by
    unfold State.inReach
    rw [hposition]
    exact ⟨fun h => h d rfl, fun h x hx => Option.some.inj hx ▸ h⟩
  unfold State.starts
  rw [hreach]
  rfl

end

end Sys2Proof.Machine

end

section
/-! PROOFS. What the row that falls due does, in every case (R65 to R67, R73, R75). -/

namespace Sys2Proof.Machine

section
variable {s : State} {tag : Nat} {r : Record} {d : Int} {b : BufferId} {m : MapBuffer}

/-- The extraction is proven. -/
def State.proven (s : State) : Prop := s.extr.state = .proven ∨ s.extr.state = .warn

/-- The row of a record passes the tests of a stroke start. -/
def State.rowPasses (s : State) (d front : Int) : Prop := s.proven ∧ d - front ≤ (s.sprayReach * s.kScale : Nat)
  ∧ ∃ v, (s.slot 11).freshValue = some v ∧ (s.minFluxPressure : Int) ≤ v

/-- A row arrives at a traverse at rest with no row waiting: it starts its stroke, or is dropped. -/
theorem rowArrives_at_rest {e : StrokeEntry} (hr : s.record? tag = some r) (hd : s.position r = some d) (he : e.tag = tag)
    (hm : s.modes.mode ≠ .safe) (hi : s.spray.running = .idle) (hq : s.spray.queue = []) :
    let q := rowArrives e (rowPassed tag s)
    (s.rowPasses d e.front → q.tracker.records = (rowPassed tag s).tracker.records
      ∧ q.spray = { s.spray with running := .stroke (buildStroke s.spray.position e) })
    ∧ (¬ s.rowPasses d e.front → s.skipped tag (if s.extr.state = .proven ∨ s.extr.state = .warn then .fluxSkip else .fluxInhibit) q) := by
  intro q
  have hserved : q = serveRows [e] (rowPassed tag s) := rowArrives_served (s := rowPassed tag s) hm hi hq
  have hstarts := rowPassed_starts hr hd he
  refine ⟨fun h => ?_, fun h => ?_⟩
  · rw [hserved, serveRows_starts (s := rowPassed tag s) (hstarts.mpr h) hq]
    exact ⟨rfl, rfl⟩
  · obtain ⟨p, hp⟩ := serveRows_fails (s := rowPassed tag s) (fun hs => h (hstarts.mp hs)) hq
    rw [hserved, hp]
    exact skipped_dropRow _ p he

/-- What the next row of a record does when it falls due, by its buffer, its span, the mode and the traverse. -/
theorem dueRow_cases (hr : s.record? tag = some r) (hd : s.position r = some d) (hb : r.buffer = some b)
    (hm : s.maps.buffers.get b = some m) (hn : r.nextRow < r.rowsTotal) (hf : s.counts (s.sprayLine + 10 * r.nextRow) ≤ d) :
    let q := dueRows 1 tag s
    let front := s.counts (s.sprayLine + 10 * r.nextRow)
    (m.composing = true → s.skipped tag .fluxLate q)
    ∧ (m.composing = false → m.spans.getD r.nextRow none = none → s.counted tag 1 0 q ∧ q.spray = s.spray)
    ∧ ∀ first last, m.composing = false → m.spans.getD r.nextRow none = some (first, last) →
      (s.modes.mode = .safe → s.skipped tag .fluxSkip q)
      ∧ (s.modes.mode ≠ .safe → s.spray.running = .idle → s.spray.queue = [] →
        (s.rowPasses d front → q.tracker.records = (rowPassed tag s).tracker.records
          ∧ ∃ n, q.spray = { s.spray with running := .stroke n } ∧ n.tag = tag ∧ n.buffer = b ∧ n.row = r.nextRow
            ∧ n.first = first ∧ n.last = last)
        ∧ (¬ s.rowPasses d front → s.skipped tag (if s.extr.state = .proven ∨ s.extr.state = .warn then .fluxSkip else .fluxInhibit) q))
      ∧ (s.modes.mode ≠ .safe → s.spray.running ≠ .idle ∨ s.spray.queue ≠ [] → s.spray.queue.length < 4 →
        q.spray = { s.spray with queue := s.spray.queue ++
          [{ tag := tag, buffer := b, row := r.nextRow, front := front, first := first, last := last }] }
        ∧ q.tracker.records = (rowPassed tag s).tracker.records)
      ∧ (s.modes.mode ≠ .safe → 4 ≤ s.spray.queue.length → s.skipped tag .fluxSkip q) := by
  intro q front
  have hone : q = rowDue tag r.nextRow b (rowPassed tag s) := dueRows_one hr hd hb hn hf
  have hbuffer : (rowPassed tag s).maps.buffers.get b = some m := hm
  refine ⟨fun hc => ?composing, fun hc hs => ?empty, fun first last hc hs => ?arrives⟩
  case composing =>
    rw [hone, rowDue_composing hbuffer hc]
    exact skipped_skipRow b .fluxLate
  case empty =>
    rw [hone, rowDue_empty hbuffer hc hs]
    exact ⟨counted_sprayRow b, sprayRow_spray _ _ _ _⟩
  case arrives =>
    rw [hone, rowDue_arrives hbuffer hc hs]
    refine ⟨fun hsafe => ?_, fun hsafe hi hq => ?_, fun hsafe hi hq => ?_, fun hsafe hq => ?_⟩
    · rw [rowArrives_safe (s := rowPassed tag s) hsafe]
      exact skipped_skipRow b .fluxSkip
    · obtain ⟨hpass, hfail⟩ := rowArrives_at_rest (e := arriving tag b r.nextRow first last (rowPassed tag s)) hr hd rfl hsafe hi hq
      refine ⟨fun h => ?_, hfail⟩
      obtain ⟨hrecords, hspray⟩ := hpass h
      exact ⟨hrecords, _, hspray, rfl, rfl, rfl, rfl, rfl⟩
    · rw [rowArrives_waits (s := rowPassed tag s) hsafe hi hq]
      exact ⟨rfl, rfl⟩
    · rw [rowArrives_full (s := rowPassed tag s) hsafe hq]
      exact skipped_skipRow b .fluxSkip

end

end Sys2Proof.Machine

end

section
/-! PROOFS. The rows of a record through a step of the encoder, and what they leave of every other record (R45). -/

namespace Sys2Proof.Machine

/-- A record without its buffer. -/
def Record.unbuffered (r : Record) : Record := { r with buffer := none }

/-- A record without what its rows change. -/
def Record.aside (r : Record) : Record :=
  { r with buffer := none, exc := { items := [], more := false }, dose := 0, sprayed := 0, skipped := 0, nextRow := 0 }

/-- What the rows of the record with a tag leave of the others. -/
def Record.besides (tag : Nat) (r : Record) : Nat × Option Record := (r.tag, if r.tag = tag then none else some r.unbuffered)

section
variable {s t : State} {tag : Nat}

/-! ### A record found by its tag -/

theorem find?_of_nodup {l : List Record} (hn : (l.map (·.tag)).Nodup) {r : Record} (hr : r ∈ l) :
    l.find? (fun x => x.tag = r.tag) = some r := by
  induction l with
  | nil => nomatch hr
  | cons x xs ih =>
    obtain ⟨hx, hxs⟩ := List.nodup_cons.mp hn
    obtain rfl | hmem := List.mem_cons.mp hr
    · exact List.find?_cons_of_pos (decide_eq_true rfl)
    · have hne : x.tag ≠ r.tag := fun h => hx (List.mem_map.mpr ⟨r, hmem, h.symm⟩)
      rw [List.find?_cons_of_neg (by simpa using hne)]
      exact ih hxs hmem

theorem record?_of_mem (hn : s.tags.Nodup) {r : Record} (hr : r ∈ s.tracker.records) : s.record? r.tag = some r := find?_of_nodup hn hr

theorem mem_of_record? {r : Record} (hr : s.record? tag = some r) : r ∈ s.tracker.records := List.mem_of_find?_eq_some hr

/-- A record of a table with distinct tags has grown from the record with its tag. -/
theorem Grows.record? (h : Grows s.tracker.records t.tracker.records) (hn : s.tags.Nodup) {r x : Record} (hr : s.record? tag = some r)
    (hx : t.record? tag = some x) : r.Grown x := by
  obtain ⟨q, hq, hg⟩ := h x (mem_of_record? hx)
  have hqr := record?_of_mem hn hq
  rw [← hg.tag, tag_of_record? hx, hr] at hqr
  cases hqr
  exact hg

theorem record?_besides (h : t.tracker.records.map (Record.besides tag) = s.tracker.records.map (Record.besides tag)) {a : Nat}
    (ha : a ≠ tag) : (t.record? a).map Record.unbuffered = (s.record? a).map Record.unbuffered := by
  have hfound : (t.record? a).map (Record.besides tag) = (s.record? a).map (Record.besides tag) :=
    find?_of_map_eq (f := Record.besides tag) (p := fun o => decide (o.1 = a)) h
  cases hr : s.record? a with
  | none =>
    rw [hr] at hfound
    rw [Option.map_eq_none_iff.mp hfound]
  | some r =>
    rw [hr] at hfound
    obtain ⟨x, hx, hxr⟩ := Option.map_eq_some_iff.mp hfound
    have hne : ∀ y : Record, y.tag = a → y.besides tag = (y.tag, some y.unbuffered) := fun y hy =>
      congrArg (Prod.mk _) (if_neg (hy ▸ ha))
    rw [hne x (tag_of_record? hx), hne r (tag_of_record? hr)] at hxr
    rw [hx]
    exact (Prod.mk.inj hxr).2

/-- The records by what their faces and their rows' own items leave. -/
theorem record?_aside (h : t.tracker.records.map Record.aside = s.tracker.records.map Record.aside) (a : Nat) :
    (t.record? a).map Record.aside = (s.record? a).map Record.aside :=
  find?_of_map_eq (f := Record.aside) (p := fun r => decide (r.tag = a)) h

theorem record?_rows (h : t.tracker.records.map (fun r => (r.tag, r.nextRow)) = s.tracker.records.map (fun r => (r.tag, r.nextRow)))
    (a : Nat) : (t.record? a).map (fun r => (r.tag, r.nextRow)) = (s.record? a).map (fun r => (r.tag, r.nextRow)) :=
  find?_of_map_eq (f := fun r : Record => (r.tag, r.nextRow)) (p := fun r => decide (r.1 = a)) h

/-! ### A row due, by the records it changes -/

theorem far_of_ambient (h : t.ambient = s.ambient) : t.far = s.far := (congrArg (fun d : Dry => (⟨d.quiet.reports, d.quiet.scan,
  d.quiet.store, d.quiet.link, d.quiet.uptime, d.quiet.freeIndex, d.quiet.pending⟩ : Far)) h :)

theorem rowArrives_tracker (e : StrokeEntry) (s : State) :
    (rowArrives e s).tracker = s.tracker ∨ ∃ k, (rowArrives e s).tracker = (skipRow e.tag e.buffer k 0 s).tracker := by
  unfold rowArrives
  split
  · exact .inr ⟨_, rfl⟩
  · split
    · unfold serveRows
      split
      · exact .inl rfl
      · exact .inr ⟨_, dropRow_tracker e _ _ s⟩
    · split
      · exact .inl rfl
      · exact .inr ⟨_, rfl⟩

theorem rowDue_tracker (tag row : Nat) (b : BufferId) (s : State) : (rowDue tag row b s).tracker = s.tracker
    ∨ (∃ k, (rowDue tag row b s).tracker = (skipRow tag b k 0 s).tracker) ∨ (rowDue tag row b s).tracker = (sprayRow tag b 0 s).tracker := by
  unfold rowDue
  split
  · exact .inl rfl
  · split
    · exact .inr (.inl ⟨_, rfl⟩)
    · split
      · exact .inr (.inr rfl)
      · exact (rowArrives_tracker _ s).imp_right .inl

/-- What is read of the records beside buffers and the resolved rows of the board stands when a row falls due. -/
theorem rowDue_records {α : Type} {f : Record → α} (hf : ∀ r : Record, f { r with buffer := none } = f r)
    (hk : ∀ (k : ExcKind) (r : Record), r.tag = tag → f (r.skipRow k 0) = f r) (hs : ∀ r : Record, r.tag = tag → f (r.sprayRow 0) = f r)
    (row : Nat) (b : BufferId) (s : State) : (rowDue tag row b s).tracker.records.map f = s.tracker.records.map f := by
  have hsame : ∀ g : Record → Record, (∀ r : Record, r.tag = tag → f (g r) = f r) →
      s.tracker.records.map (fun r => f (if r.tag = tag then g r else r)) = s.tracker.records.map f := fun g hg =>
    List.map_congr_left fun r _ => by
      split
      next h => exact hg r h
      next => rfl
  obtain h | ⟨k, h⟩ | h := rowDue_tracker tag row b s
  · rw [h]
  · rw [h, skipRow_records hf]
    exact hsame _ (hk k)
  · rw [h, sprayRow_records hf]
    exact hsame _ hs

theorem sprayRow_grows (tag : Nat) (b : BufferId) (dose : Nat) (s : State) :
    Grows s.tracker.records (sprayRow tag b dose s).tracker.records :=
  (updateRecord_grows (tag := tag) (f := Record.sprayRow dose) fun _ => ⟨rfl, rfl, fun _ => id⟩).trans (rowResolved_recedes _ b).grows

theorem rowDue_grows (tag row : Nat) (b : BufferId) (s : State) : Grows s.tracker.records (rowDue tag row b s).tracker.records := by
  obtain h | ⟨k, h⟩ | h := rowDue_tracker tag row b s
  · rw [h]
    exact .refl _
  · rw [h]
    exact skipRow_grows tag b k 0 s
  · rw [h]
    exact sprayRow_grows tag b 0 s

theorem rowPassed_grows : Grows s.tracker.records (rowPassed tag s).tracker.records :=
  updateRecord_grows (tag := tag) fun _ => ⟨rfl, rfl, fun _ => id⟩

theorem rowFallsDue_cases (r : Record) (s : State) :
    rowFallsDue r s = rowPassed r.tag s ∨ ∃ b, rowFallsDue r s = rowDue r.tag r.nextRow b (rowPassed r.tag s) := by
  unfold rowFallsDue
  dsimp only
  split
  next b _ => exact .inr ⟨b, rfl⟩
  next => exact .inl rfl

/-- What is read of the records beside what rows change stands when a row falls due. -/
theorem rowFallsDue_records {α : Type} {f : Record → α} (r : Record) (hf : ∀ x : Record, f { x with buffer := none } = f x)
    (hk : ∀ (k : ExcKind) (x : Record), x.tag = r.tag → f (x.skipRow k 0) = f x)
    (hs : ∀ x : Record, x.tag = r.tag → f (x.sprayRow 0) = f x) : (rowFallsDue r s).tracker.records.map f
      = s.tracker.records.map (fun x => f (if x.tag = r.tag then { x with nextRow := x.nextRow + 1 } else x)) := by
  obtain h | ⟨b, h⟩ := rowFallsDue_cases r s
  · rw [h]
    exact rowPassed_map f
  · rw [h, rowDue_records hf hk hs]
    exact rowPassed_map f

theorem rowFallsDue_grows (r : Record) (s : State) : Grows s.tracker.records (rowFallsDue r s).tracker.records := by
  obtain h | ⟨b, h⟩ := rowFallsDue_cases r s
  · rw [h]
    exact rowPassed_grows
  · rw [h]
    exact rowPassed_grows.trans (rowDue_grows _ _ b _)

theorem rowFallsDue_aside (r : Record) (s : State) :
    (rowFallsDue r s).tracker.records.map Record.aside = s.tracker.records.map Record.aside := by
  refine (rowFallsDue_records r (fun _ => rfl) (fun _ _ _ => rfl) fun _ _ => rfl).trans (List.map_congr_left fun x _ => ?_)
  split <;> rfl

theorem rowFallsDue_besides (r : Record) (s : State) :
    (rowFallsDue r s).tracker.records.map (Record.besides r.tag) = s.tracker.records.map (Record.besides r.tag) := by
  have hown : ∀ x y : Record, x.tag = r.tag → y.tag = x.tag → y.besides r.tag = x.besides r.tag := fun x y hx hy => by
    unfold Record.besides
    rw [if_pos hx, if_pos (hy.trans hx), hy]
  have hfree : ∀ x : Record, Record.besides r.tag { x with buffer := none } = x.besides r.tag := fun _ => rfl
  refine (rowFallsDue_records r hfree (fun _ x hx => hown x _ hx rfl) fun x hx => hown x _ hx rfl).trans
    (List.map_congr_left fun x _ => ?_)
  split
  next hx => exact hown x _ hx rfl
  next => rfl

theorem tags_of_aside (h : t.tracker.records.map Record.aside = s.tracker.records.map Record.aside) : t.tags = s.tags := by
  have htags := congrArg (List.map Record.tag) h
  rwa [List.map_map, List.map_map] at htags

/-! ### The rows of one record (R45) -/

/-- The rows of a record whose fronts the leading edge has reached, `n` of them at most. -/
structure RowsPassed (s : State) (d : Int) (n : Nat) (r x : Record) : Prop where
  aside : x.aside = r.aside
  noted : ∀ k, r.noted k → x.noted k
  onward : r.nextRow ≤ x.nextRow
  due : ∀ i, r.nextRow ≤ i → i < x.nextRow → i < r.rowsTotal ∧ s.counts (s.sprayLine + 10 * i) ≤ d
  rest : x.nextRow < r.rowsTotal → x.nextRow < r.nextRow + n → d < s.counts (s.sprayLine + 10 * x.nextRow)

theorem rowsPassed_refl {d : Int} {n : Nat} {r : Record}
    (h : r.nextRow < r.rowsTotal → r.nextRow < r.nextRow + n → d < s.counts (s.sprayLine + 10 * r.nextRow)) : RowsPassed s d n r r :=
  ⟨rfl, fun _ => id, le_rfl, fun _ hi hr => absurd hr (not_lt.mpr hi), h⟩

theorem counts_of_far (h : t.far = s.far) (mm : Nat) : t.counts mm = s.counts mm := by
  unfold State.counts State.kScale
  rw [param_of_far h]

theorem sprayLine_of_far (h : t.far = s.far) : t.sprayLine = s.sprayLine := param_of_far h _

theorem position_of_ambient (h : t.ambient = s.ambient) {r x : Record} (he : x.entry = r.entry) : t.position x = s.position r := by
  unfold State.position
  rw [he, count_of_ambient h]

theorem rowFallsDue_own {r : Record} (hn : s.tags.Nodup) (hr : s.record? tag = some r) : ∃ x, (rowFallsDue r s).record? tag = some x
    ∧ x.aside = r.aside ∧ x.nextRow = r.nextRow + 1 ∧ ∀ k, r.noted k → x.noted k := by
  have haside := record?_aside (rowFallsDue_aside r s) tag
  rw [hr] at haside
  obtain ⟨x, hx, hxaside⟩ := Option.map_eq_some_iff.mp haside
  have hpassed : (rowPassed tag s).record? tag = some { r with nextRow := r.nextRow + 1 } := rowPassed_record hr
  have hrows : (rowFallsDue r s).tracker.records.map (fun r => (r.tag, r.nextRow))
      = (rowPassed tag s).tracker.records.map (fun r => (r.tag, r.nextRow)) := by
    rw [rowPassed_map, ← tag_of_record? hr]
    exact rowFallsDue_records r (fun _ => rfl) (fun _ _ _ => rfl) fun _ _ => rfl
  have hnext := record?_rows hrows tag
  rw [hx, hpassed] at hnext
  exact ⟨x, hx, hxaside, (Prod.mk.inj (Option.some.inj hnext)).2, ((rowFallsDue_grows r s).record? hn hr hx).noted⟩

/-- The rows due of a record, after its own and the others' rows due have gone through the Spray Controller. -/
theorem dueRows_own {r : Record} {d : Int} (n : Nat) (hn : s.tags.Nodup) (hr : s.record? tag = some r) (hd : s.position r = some d) :
    ∃ x, (dueRows n tag s).record? tag = some x ∧ RowsPassed s d n r x := by
  induction n generalizing s r with
  | zero => exact ⟨r, hr, rowsPassed_refl fun _ h => absurd h (lt_irrefl _)⟩
  | succ n ih =>
    rw [dueRows_succ, rowAhead?_iff hr hd]
    by_cases hdue : r.nextRow < r.rowsTotal ∧ s.counts (s.sprayLine + 10 * r.nextRow) ≤ d
    · rw [if_pos hdue]
      obtain ⟨y, hy, haside, hnext, hnoted⟩ := rowFallsDue_own hn hr
      have hambient := rowFallsDue_ambient (s := s) r
      have hfar := far_of_ambient hambient
      have hentry : y.entry = r.entry := (congrArg Record.entry haside :)
      have htotal : y.rowsTotal = r.rowsTotal := (congrArg Record.rowsTotal haside :)
      have hposition := (position_of_ambient hambient hentry).trans hd
      have htags : (rowFallsDue r s).tags.Nodup := by rwa [tags_of_aside (rowFallsDue_aside r s)]
      obtain ⟨x, hx, hpassed⟩ := ih htags hy hposition
      have hcounts : ∀ i, (rowFallsDue r s).counts ((rowFallsDue r s).sprayLine + 10 * i) = s.counts (s.sprayLine + 10 * i) := fun i => by
        rw [counts_of_far hfar, sprayLine_of_far hfar]
      have hle := hpassed.onward
      have hrest := hpassed.rest
      rw [hnext] at hle
      rw [hcounts, htotal, hnext] at hrest
      refine ⟨x, hx, hpassed.aside.trans haside, fun k h => hpassed.noted k (hnoted k h), by omega, fun i hi hix => ?_,
        fun hlt hbound => hrest hlt (by omega)⟩
      by_cases hfirst : i = r.nextRow
      · rw [hfirst]
        exact hdue
      · have hlater := hpassed.due i (by omega) hix
        rwa [hcounts, htotal] at hlater
    · rw [if_neg hdue]
      exact ⟨r, hr, rowsPassed_refl fun hlt _ => not_le.mp fun hle => hdue ⟨hlt, hle⟩⟩

/-- The rows of a record leave every other record as it is, its buffer apart. -/
theorem dueRows_other (n : Nat) {a : Nat} (ha : a ≠ tag) :
    ((dueRows n tag s).record? a).map Record.unbuffered = (s.record? a).map Record.unbuffered := by
  induction n generalizing s with
  | zero => rfl
  | succ n ih =>
    rw [dueRows_succ]
    cases hr : s.rowAhead? tag with
    | none => rfl
    | some r =>
      have htag : r.tag = tag := tag_of_record? (Option.filter_eq_some_iff.mp hr).1
      refine ih.trans (record?_besides (tag := tag) ?_ ha)
      rw [← htag]
      exact rowFallsDue_besides r s

theorem dueRows_aside (n : Nat) : (dueRows n tag s).tracker.records.map Record.aside = s.tracker.records.map Record.aside := by
  induction n generalizing s with
  | zero => rfl
  | succ n ih =>
    rw [dueRows_succ]
    split
    · exact ih.trans (rowFallsDue_aside _ s)
    · rfl

end

end Sys2Proof.Machine

end

section
/-! PROOFS. The stage events of one record at a forward step: the pyrometer, the zones and the wave window (R46 to R49). -/

namespace Sys2Proof.Machine

section
variable {s : State} {d len : Int} {r : Record}

/-! ### The thresholds in counts -/

theorem counts_eq (s : State) (mm : Nat) : s.counts mm = (mm : Int) * s.kScale := by
  unfold State.counts
  push_cast
  rfl

/-- How far the leading edge is past the pyrometer line. -/
def State.pastPyro (s : State) (d : Int) : Int := d - (s.pyroLine : Int) * s.kScale

/-- The leading edge stands on a sample point that the record has not crossed yet (R47). -/
abbrev State.onPoint (s : State) (d : Int) (r : Record) : Prop := 0 ≤ s.pastPyro d ∧ s.pastPyro d % ((20 : Int) * s.kScale) = 0
  ∧ (r.pointsCrossed : Int) ≤ s.pastPyro d / ((20 : Int) * s.kScale)

/-- The trailing edge has not reached the pyrometer line. -/
abbrev State.shortOf (s : State) (d len : Int) : Prop := d - len < (s.pyroLine : Int) * s.kScale

/-! ### The pyrometer (R47) -/

/-- The record at the sample point that the leading edge stands on, if any. -/
def pyroCrossed (s : State) (d len : Int) (r : Record) : Record := match s.samplePoint? d with
  | some n => r.crossPoint n (decide (d - len < s.counts s.pyroLine)) (s.slot 12).freshValue
  | none => r

theorem pyroStep_eq (s : State) (d len : Int) (r : Record) : pyroStep s d len r
    = if decide (d - len < s.counts s.pyroLine) || r.pyroDone then pyroCrossed s d len r
      else (pyroCrossed s d len r).evaluate (s.recipeOf r.slot) := rfl

theorem samplePoint?_some (h : 0 ≤ s.pastPyro d ∧ s.pastPyro d % ((20 : Int) * s.kScale) = 0) :
    s.samplePoint? d = some (s.pastPyro d / ((20 : Int) * s.kScale)).toNat := by
  unfold State.samplePoint?
  dsimp only
  rw [counts_eq, counts_eq]
  exact if_pos h

theorem samplePoint?_none (h : ¬ (0 ≤ s.pastPyro d ∧ s.pastPyro d % ((20 : Int) * s.kScale) = 0)) : s.samplePoint? d = none := by
  unfold State.samplePoint?
  dsimp only
  rw [counts_eq, counts_eq]
  exact if_neg h

/-- The record with a point crossed, and acted at while its trailing edge is ahead of the line. -/
def Record.passed (n : Nat) (ahead : Bool) (v : Option Int) (r : Record) : Record :=
  if ahead then { r with pointsCrossed := n + 1 }.passPoint n v else { r with pointsCrossed := n + 1 }

theorem pyroCrossed_on (h : s.onPoint d r) : ∃ n : Nat, (n : Int) = s.pastPyro d / ((20 : Int) * s.kScale)
    ∧ pyroCrossed s d len r = r.passed n (decide (d - len < s.counts s.pyroLine)) (s.slot 12).freshValue := by
  obtain ⟨hpast, hmod, hle⟩ := h
  have hpos : 0 ≤ s.pastPyro d / ((20 : Int) * s.kScale) := Int.ediv_nonneg hpast (by positivity)
  refine ⟨_, Int.toNat_of_nonneg hpos, ?_⟩
  unfold pyroCrossed
  rw [samplePoint?_some ⟨hpast, hmod⟩]
  exact if_pos (by omega)

theorem pyroCrossed_off (h : ¬ s.onPoint d r) : pyroCrossed s d len r = r := by
  unfold pyroCrossed
  by_cases hp : 0 ≤ s.pastPyro d ∧ s.pastPyro d % ((20 : Int) * s.kScale) = 0
  · have hpos : 0 ≤ s.pastPyro d / ((20 : Int) * s.kScale) := Int.ediv_nonneg hp.1 (by positivity)
    have hle : ¬ (r.pointsCrossed : Int) ≤ s.pastPyro d / ((20 : Int) * s.kScale) := fun hle => h ⟨hp.1, hp.2, hle⟩
    rw [samplePoint?_some hp]
    exact if_neg (by omega)
  · rw [samplePoint?_none hp]

/-- What the pyrometer leaves of a record. -/
def Record.besidePyro (r : Record) : Record :=
  { r with peak := none, nextSample := 0, pointsCrossed := 0, pyroDone := false, exc := { items := [], more := false } }

/-- A sample joins the peak (R47). -/
def peakWith (sample peak : Option Int) : Option Int :=
  match sample, peak with
  | none, p => p
  | some c, none => some c
  | some c, some p => some (max p c)

theorem passed_claims (n : Nat) (ahead : Bool) (v : Option Int) (r : Record) : (r.passed n ahead v).pointsCrossed = n + 1
    ∧ (r.passed n ahead v).nextSample = (if ahead then n + 1 else r.nextSample)
    ∧ (r.passed n ahead v).peak = (if ahead then peakWith v r.peak else r.peak)
    ∧ (r.passed n ahead v).pyroDone = r.pyroDone ∧ (r.passed n ahead v).exc = r.exc
    ∧ (r.passed n ahead v).besidePyro = r.besidePyro := by
  cases ahead with
  | true => exact ⟨rfl, rfl, rfl, rfl, rfl, rfl⟩
  | false => exact ⟨rfl, rfl, rfl, rfl, rfl, rfl⟩

/-- The pyrometer's part of a forward step, by the record before it. -/
structure PyroStepped (s : State) (d len : Int) (r x : Record) : Prop where
  crossed : s.onPoint d r → (x.pointsCrossed : Int) = s.pastPyro d / ((20 : Int) * s.kScale) + 1
  kept : ¬ s.onPoint d r → x.pointsCrossed = r.pointsCrossed
  next : s.onPoint d r → s.shortOf d len → (x.nextSample : Int) = s.pastPyro d / ((20 : Int) * s.kScale) + 1
  nextKept : ¬ (s.onPoint d r ∧ s.shortOf d len) → x.nextSample = r.nextSample
  peak : s.onPoint d r ∧ s.shortOf d len → x.peak = peakWith (s.slot 12).freshValue r.peak
  peakKept : ¬ (s.onPoint d r ∧ s.shortOf d len) → x.peak = r.peak

theorem short_iff : d - len < s.counts s.pyroLine ↔ s.shortOf d len := by
  unfold State.shortOf
  rw [counts_eq]

theorem pyroCrossed_claims (s : State) (d len : Int) (r : Record) : PyroStepped s d len r (pyroCrossed s d len r)
    ∧ (pyroCrossed s d len r).pyroDone = r.pyroDone ∧ (pyroCrossed s d len r).exc = r.exc
    ∧ (pyroCrossed s d len r).besidePyro = r.besidePyro := by
  by_cases hp : s.onPoint d r
  · obtain ⟨n, hn, hcross⟩ := pyroCrossed_on (len := len) hp
    obtain ⟨hpoints, hnext, hpeak, hdone, hexc, hbeside⟩ :=
      passed_claims n (decide (d - len < s.counts s.pyroLine)) (s.slot 12).freshValue r
    rw [hcross]
    refine ⟨⟨fun _ => ?_, fun h => absurd hp h, fun _ hs => ?_, fun h => ?_, fun h => ?_, fun h => ?_⟩, hdone, hexc, hbeside⟩
    · rw [hpoints, ← hn]
      push_cast
      rfl
    · rw [hnext, if_pos (decide_eq_true (short_iff.mpr hs)), ← hn]
      push_cast
      rfl
    · rw [hnext, if_neg fun hd => h ⟨hp, short_iff.mp (of_decide_eq_true hd)⟩]
    · rw [hpeak, if_pos (decide_eq_true (short_iff.mpr h.2))]
    · rw [hpeak, if_neg fun hd => h ⟨hp, short_iff.mp (of_decide_eq_true hd)⟩]
  · rw [pyroCrossed_off hp]
    exact ⟨⟨fun h => absurd h hp, fun _ => rfl, fun h => absurd h hp, fun _ => rfl, fun h => absurd h.1 hp, fun _ => rfl⟩, rfl, rfl, rfl⟩

/-- A record after its evaluation, the exception apart. -/
structure Marked (r x : Record) : Prop where
  done : x.pyroDone = true
  grown : r.Grown x
  beside : x.besidePyro = r.besidePyro
  points : x.pointsCrossed = r.pointsCrossed
  next : x.nextSample = r.nextSample
  peak : x.peak = r.peak

theorem marked_plain (r : Record) : Marked r { r with pyroDone := true } := ⟨rfl, ⟨rfl, rfl, fun _ => id⟩, rfl, rfl, rfl, rfl⟩

theorem marked_except (k : ExcKind) (r : Record) : Marked r ({ r with pyroDone := true }.except k)
    ∧ ({ r with pyroDone := true }.except k).noted k := by
  obtain ⟨hadd, hmore⟩ := noted_add k 1 r.exc
  exact ⟨⟨rfl, ⟨rfl, rfl, hmore⟩, rfl, rfl, rfl, rfl⟩, hadd⟩

theorem evaluate_none {recipe : Recipe} (h : r.peak = none) : r.evaluate recipe = { r with pyroDone := true }.except .notMeasured := by
  unfold Record.evaluate
  rw [h]

theorem evaluate_some {recipe : Recipe} {p : Int} (h : r.peak = some p) : r.evaluate recipe
    = if p < recipe.exitMin then { r with pyroDone := true }.except .tempLow
      else if recipe.exitMax < p then { r with pyroDone := true }.except .tempHigh else { r with pyroDone := true } := by
  unfold Record.evaluate
  rw [h]

/-- The evaluation against a recipe's exit window. -/
theorem evaluate_claims (recipe : Recipe) (r : Record) : Marked r (r.evaluate recipe)
    ∧ (r.peak = none → (r.evaluate recipe).noted .notMeasured)
    ∧ (∀ p, r.peak = some p → p < recipe.exitMin → (r.evaluate recipe).noted .tempLow)
    ∧ (∀ p, r.peak = some p → recipe.exitMin ≤ p → recipe.exitMax < p → (r.evaluate recipe).noted .tempHigh) := by
  cases hp : r.peak with
  | none =>
    rw [evaluate_none hp]
    obtain ⟨hmarked, hnoted⟩ := marked_except .notMeasured r
    exact ⟨hmarked, fun _ => hnoted, fun _ h => (nomatch h), fun _ h => (nomatch h)⟩
  | some p =>
    rw [evaluate_some hp]
    by_cases hlow : p < recipe.exitMin
    · rw [if_pos hlow]
      obtain ⟨hmarked, hnoted⟩ := marked_except .tempLow r
      refine ⟨hmarked, fun h => (nomatch h), fun _ _ _ => hnoted, fun q hq hge _ => ?_⟩
      cases hq
      exact absurd hlow (not_lt.mpr hge)
    · rw [if_neg hlow]
      by_cases hhigh : recipe.exitMax < p
      · rw [if_pos hhigh]
        obtain ⟨hmarked, hnoted⟩ := marked_except .tempHigh r
        refine ⟨hmarked, fun h => (nomatch h), fun q hq hlt => ?_, fun _ _ _ _ => hnoted⟩
        cases hq
        exact absurd hlt hlow
      · rw [if_neg hhigh]
        refine ⟨marked_plain r, fun h => (nomatch h), fun q hq hlt => ?_, fun q hq _ hgt => ?_⟩
        · cases hq
          exact absurd hlt hlow
        · cases hq
          exact absurd hgt hhigh

/-- The evaluation that a record gets when its trailing edge reaches the line, as far as a later record shows it. -/
structure Evaluated (s : State) (d len : Int) (r x : Record) : Prop where
  done : x.pyroDone = (r.pyroDone || decide (¬ s.shortOf d len))
  missing : r.pyroDone = false → ¬ s.shortOf d len → r.peak = none → x.noted .notMeasured
  low : r.pyroDone = false → ¬ s.shortOf d len → ∀ p, r.peak = some p → p < (s.recipeOf r.slot).exitMin → x.noted .tempLow
  high : r.pyroDone = false → ¬ s.shortOf d len → ∀ p, r.peak = some p → (s.recipeOf r.slot).exitMin ≤ p →
    (s.recipeOf r.slot).exitMax < p → x.noted .tempHigh

theorem pyroStep_claims (s : State) (d len : Int) (r : Record) : PyroStepped s d len r (pyroStep s d len r)
    ∧ Evaluated s d len r (pyroStep s d len r) ∧ r.Grown (pyroStep s d len r) ∧ (pyroStep s d len r).besidePyro = r.besidePyro := by
  obtain ⟨hstep, hdone, hexc, hbeside⟩ := pyroCrossed_claims s d len r
  obtain ⟨q, hq⟩ : ∃ q, q = pyroCrossed s d len r := ⟨_, rfl⟩
  rw [pyroStep_eq, ← hq]
  rw [← hq] at hstep hdone hexc hbeside
  have hgrown : r.Grown q := ⟨(congrArg Record.tag hbeside :), (congrArg Record.slot hbeside :), fun k h => by
    unfold Record.noted
    rwa [hexc]⟩
  by_cases hs : s.shortOf d len
  · rw [if_pos (by rw [decide_eq_true (short_iff.mpr hs)]; rfl)]
    refine ⟨hstep, ⟨?_, fun _ h => absurd hs h, fun _ h => absurd hs h, fun _ h => absurd hs h⟩, hgrown, hbeside⟩
    rw [hdone, decide_eq_false (not_not.mpr hs), Bool.or_false]
  · have hahead : decide (d - len < s.counts s.pyroLine) = false := decide_eq_false fun h => hs (short_iff.mp h)
    cases hr : r.pyroDone with
    | true =>
      rw [hahead, if_pos (by rfl)]
      refine ⟨hstep, ⟨?_, fun h => ?_, fun h => ?_, fun h => ?_⟩, hgrown, hbeside⟩
      · rw [hdone, hr, Bool.true_or]
      all_goals exact absurd (hr.symm.trans h) (by decide)
    | false =>
      obtain ⟨hmarked, hnone, hlow, hhigh⟩ := evaluate_claims (s.recipeOf r.slot) q
      have hpeak : q.peak = r.peak := hstep.peakKept fun h => hs h.2
      rw [hpeak] at hnone hlow hhigh
      rw [hahead, if_neg (by decide)]
      refine ⟨⟨?_, ?_, ?_, ?_, ?_, ?_⟩, ⟨?_, fun _ _ => hnone, fun _ _ => hlow, fun _ _ => hhigh⟩, hgrown.trans hmarked.grown,
        hmarked.beside.trans hbeside⟩
      · rw [hmarked.points]
        exact hstep.crossed
      · rw [hmarked.points]
        exact hstep.kept
      · rw [hmarked.next]
        exact hstep.next
      · rw [hmarked.next]
        exact hstep.nextKept
      · rw [hmarked.peak]
        exact hstep.peak
      · rw [hmarked.peak]
        exact hstep.peakKept
      · rw [hmarked.done, decide_eq_true hs, Bool.or_true]

/-! ### The zones (R46) -/

/-- The zones that a record overlaps after a forward step. -/
def ZonesStepped (s : State) (d len : Int) (r x : Record) : Prop := ∀ k, x.zonesIn.get k = (s.zoneRating k != 0 &&
  (if r.zonesIn.get k then decide (d - len < (s.zoneEnd k : Int) * s.kScale)
   else decide ((s.zoneStart k : Int) * s.kScale < d ∧ d - len < (s.zoneEnd k : Int) * s.kScale) && !r.zonesDone.get k))

theorem zoneMarks_stepped (s : State) (d len : Int) (r : Record) : ZonesStepped s d len r (zoneMarks s false d len r) := by
  intro k
  have hget : (zoneMarks s false d len r).zonesIn.get k = (s.zoneRating k != 0
      && overlapMark false (overlapTest s.kScale (s.zoneSpan k) d len) (r.zonesIn.get k) (r.zonesDone.get k)) := six_get_mapZones _ _ _
  have hpast : decide (¬ (s.zoneEnd k : Int) * s.kScale ≤ d - len) = decide (d - len < (s.zoneEnd k : Int) * s.kScale) :=
    decide_eq_decide.mpr not_le
  rw [hget]
  refine congrArg (fun b => (s.zoneRating k != 0 && b)) ?_
  unfold overlapMark overlapTest State.zoneSpan
  cases r.zonesIn.get k with
  | true => exact decide_not.symm.trans hpast
  | false =>
    rw [Bool.decide_and]
    rfl

/-! ### The wave window (R48, R49) -/

/-- The record begins to overlap the wave window. -/
abbrev State.meetsWave (s : State) (d len : Int) (r : Record) : Prop := r.inWave = false ∧ r.waveDone = false
  ∧ ((s.waveCentre : Int) - s.waveHalf) * s.kScale < d ∧ d - len < ((s.waveCentre : Int) + s.waveHalf) * s.kScale

/-- The wave window's part of a forward step. -/
structure WaveStepped (s : State) (d len : Int) (r x : Record) : Prop where
  staying : r.inWave = true → x.inWave = decide (d - len < ((s.waveCentre : Int) + s.waveHalf) * s.kScale)
  meeting : r.inWave = false → (x.inWave = true ↔ s.meetsWave d len r)
  kept : ¬ s.meetsWave d len r → x.wave = r.wave
  taken : s.meetsWave d len r → x.wave = some (s.wave.output, s.wave.output)
  short : s.meetsWave d len r → s.wave.side = .high → x.noted .waveShort
  safe : s.meetsWave d len r → s.modes.mode = .safe → x.noted .safePass

/-- What the wave window leaves of a record. -/
def Record.besideWave (r : Record) : Record :=
  { r with inWave := false, waveDone := false, wave := none, exc := { items := [], more := false } }

theorem safePass_claims (r : Record) : r.safePass.noted .safePass ∧ { r.safePass with exc := r.exc } = r := by
  unfold Record.safePass
  split
  next h => exact ⟨.inl h, rfl⟩
  next => exact ⟨(noted_add _ 1 r.exc).1, rfl⟩

theorem meetWave_claims (out : Nat) (high safe : Bool) (r : Record) :
    { (r.meetWave out high safe) with exc := r.exc } = { r with inWave := true, wave := some (out, out) }
    ∧ r.Grown (r.meetWave out high safe) ∧ (high = true → (r.meetWave out high safe).noted .waveShort)
    ∧ (safe = true → (r.meetWave out high safe).noted .safePass) := by
  obtain ⟨a, ha⟩ : ∃ a, a = { r with inWave := true, wave := some (out, out) } := ⟨_, rfl⟩
  have hgrown := (meetWave_kept out high safe r).1
  obtain ⟨hsafe, hsame⟩ := safePass_claims a
  obtain ⟨hsafe', hsame'⟩ := safePass_claims (a.except .waveShort)
  have hshort : (a.except .waveShort).noted .waveShort := (noted_add _ 1 a.exc).1
  unfold Record.meetWave at hgrown ⊢
  dsimp only at hgrown ⊢
  rw [← ha] at hgrown ⊢
  have hexc : { a with exc := r.exc } = a := by rw [ha]
  have hno : false = true → ∀ k (x : Record), x.noted k := fun h => absurd h (by decide)
  cases high with
  | false =>
    cases safe with
    | false => exact ⟨hexc, hgrown, fun h => hno h _ _, fun h => hno h _ _⟩
    | true => exact ⟨(congrArg (fun x : Record => { x with exc := r.exc }) hsame).trans hexc, hgrown, fun h => hno h _ _, fun _ => hsafe⟩
  | true =>
    cases safe with
    | false => exact ⟨hexc, hgrown, fun _ => hshort, fun h => hno h _ _⟩
    | true =>
      exact ⟨(congrArg (fun x : Record => { x with exc := r.exc }) hsame').trans hexc, hgrown,
        fun _ => (grown_safePass _).noted _ hshort, fun _ => hsafe'⟩

/-- The wave window's part of a forward step. -/
theorem waveMark_claims (s : State) (d len : Int) (r : Record) : WaveStepped s d len r (waveMark s false d len r)
    ∧ r.Grown (waveMark s false d len r) ∧ (waveMark s false d len r).besideWave = r.besideWave := by
  have hgrown := (waveMark_kept s false d len r).1
  obtain ⟨o, ho⟩ : ∃ o, o = overlapTest s.kScale s.waveSpan d len := ⟨_, rfl⟩
  have hpast : (!o.past) = decide (d - len < ((s.waveCentre : Int) + s.waveHalf) * s.kScale) := by
    rw [ho]
    exact decide_not.symm.trans (decide_eq_decide.mpr not_le)
  have hmeets : r.inWave = false → ((overlapMark false o false r.waveDone) = true ↔ s.meetsWave d len r) := fun hin => by
    rw [ho]
    unfold overlapMark overlapTest State.waveSpan State.meetsWave
    simp [hin]
    tauto
  obtain ⟨x, hx⟩ : ∃ x, x = waveMark s false d len r := ⟨_, rfl⟩
  rw [← hx] at hgrown ⊢
  unfold waveMark at hx
  dsimp only at hx
  rw [← ho] at hx
  cases hin : r.inWave with
  | true =>
    have hno : ¬ s.meetsWave d len r := fun h => absurd (hin.symm.trans h.1) (by decide)
    rw [if_pos hin] at hx
    cases hp : o.past with
    | true =>
      rw [if_pos hp] at hx
      rw [hp] at hpast
      subst hx
      exact ⟨⟨fun _ => hpast, fun h => absurd (hin.symm.trans h) (by decide), fun _ => rfl, fun h => absurd h hno, fun h => absurd h hno,
        fun h => absurd h hno⟩, hgrown, rfl⟩
    | false =>
      rw [if_neg (by rw [hp]; decide)] at hx
      rw [hp] at hpast
      subst hx
      exact ⟨⟨fun _ => hin.trans hpast, fun h => absurd (hin.symm.trans h) (by decide), fun _ => rfl, fun h => absurd h hno,
        fun h => absurd h hno, fun h => absurd h hno⟩, hgrown, rfl⟩
  | false =>
    rw [if_neg (by rw [hin]; decide)] at hx
    by_cases hm : s.meetsWave d len r
    · rw [if_pos ((hmeets hin).mpr hm)] at hx
      obtain ⟨hsame, -, hshort, hsafe⟩ := meetWave_claims s.wave.output (s.wave.side == .high) (s.modes.mode == .safe) r
      rw [← hx] at hsame hshort hsafe
      have hbeside : x.besideWave = r.besideWave := (congrArg Record.besideWave hsame :)
      exact ⟨⟨fun h => absurd (hin.symm.trans h) (by decide), fun _ => ⟨fun _ => hm, fun _ => (congrArg Record.inWave hsame :)⟩,
        fun h => absurd hm h, fun _ => (congrArg Record.wave hsame :), fun _ h => hshort (by rw [h]; rfl),
        fun _ h => hsafe (by rw [h]; rfl)⟩, hgrown, hbeside⟩
    · rw [if_neg fun h => hm ((hmeets hin).mp h)] at hx
      subst hx
      exact ⟨⟨fun h => absurd (hin.symm.trans h) (by decide),
        fun _ => ⟨fun h => absurd (hin.symm.trans h) (by decide), fun h => absurd h hm⟩, fun _ => rfl, fun h => absurd h hm,
        fun h => absurd h hm, fun h => absurd h hm⟩, hgrown, rfl⟩

end

end Sys2Proof.Machine

end

section
/-! PROOFS. The stage events of every record at a forward step (R45 to R49; log 34). -/

namespace Sys2Proof.Machine

/-- The stage events of a record at a leading edge `d` and a board length `len`. -/
structure Staged (s : State) (d len : Int) (r x : Record) : Prop where
  pyro : PyroStepped s d len r x
  judged : Evaluated s d len r x
  zones : ZonesStepped s d len r x
  wave : WaveStepped s d len r x

section
variable {s t : State} {d len : Int} {r x r' x' : Record} {tag : Nat}

/-! ### One record (R46 to R49) -/

theorem stageStep_none (h : s.position r = none) : stageStep s r = r := by
  unfold stageStep
  rw [h]

theorem stageStep_some (h : s.position r = some d) : stageStep s r
    = waveMark s false d (s.boardCounts r) (zoneMarks s false d (s.boardCounts r) (pyroStep s d (s.boardCounts r) r)) := by
  unfold stageStep
  rw [h]

/-- What a stage event leaves of a record: what its rows, the exit sensor and the entry sensor change. -/
def Record.track (r : Record) : Record :=
  { r with peak := none, nextSample := 0, pointsCrossed := 0, pyroDone := false, exc := { items := [], more := false },
           zonesIn := Six.same false, zonesDone := Six.same false, inWave := false, waveDone := false, wave := none }

theorem stageStep_track (s : State) (r : Record) : (stageStep s r).track = r.track ∧ r.Grown (stageStep s r) := by
  cases h : s.position r with
  | none =>
    rw [stageStep_none h]
    exact ⟨rfl, .refl r⟩
  | some d =>
    rw [stageStep_some h]
    obtain ⟨-, -, hgrown, hbeside⟩ := pyroStep_claims s d (s.boardCounts r) r
    obtain ⟨q, hq⟩ : ∃ q, q = pyroStep s d (s.boardCounts r) r := ⟨_, rfl⟩
    rw [← hq] at hgrown hbeside ⊢
    obtain ⟨-, hmore, hside⟩ := waveMark_claims s d (s.boardCounts r) (zoneMarks s false d (s.boardCounts r) q)
    exact ⟨(congrArg Record.track hside :).trans (congrArg Record.track hbeside :),
      hgrown.trans ((zoneMarks_grown s false d _ q).trans hmore)⟩

theorem stageStep_staged (h : s.position r = some d) : Staged s d (s.boardCounts r) r (stageStep s r) := by
  rw [stageStep_some h]
  obtain ⟨hpyro, hjudged, -, hbeside⟩ := pyroStep_claims s d (s.boardCounts r) r
  obtain ⟨q, hq⟩ : ∃ q, q = pyroStep s d (s.boardCounts r) r := ⟨_, rfl⟩
  rw [← hq] at hpyro hjudged hbeside ⊢
  have hzones := zoneMarks_stepped s d (s.boardCounts r) q
  obtain ⟨hwave, hmore, hside⟩ := waveMark_claims s d (s.boardCounts r) (zoneMarks s false d (s.boardCounts r) q)
  obtain ⟨y, hy⟩ : ∃ y, y = waveMark s false d (s.boardCounts r) (zoneMarks s false d (s.boardCounts r) q) := ⟨_, rfl⟩
  rw [← hy] at hwave hmore hside ⊢
  have hgrown := (zoneMarks_grown s false d (s.boardCounts r) q).trans hmore
  have hpoints : y.pointsCrossed = q.pointsCrossed := (congrArg Record.pointsCrossed hside :)
  have hnext : y.nextSample = q.nextSample := (congrArg Record.nextSample hside :)
  have hpeak : y.peak = q.peak := (congrArg Record.peak hside :)
  have hdone : y.pyroDone = q.pyroDone := (congrArg Record.pyroDone hside :)
  have hin : y.zonesIn = (zoneMarks s false d (s.boardCounts r) q).zonesIn := (congrArg Record.zonesIn hside :)
  have hqin : q.zonesIn = r.zonesIn := (congrArg Record.zonesIn hbeside :)
  have hqdone : q.zonesDone = r.zonesDone := (congrArg Record.zonesDone hbeside :)
  have hqwave : q.inWave = r.inWave := (congrArg Record.inWave hbeside :)
  have hqwaveDone : q.waveDone = r.waveDone := (congrArg Record.waveDone hbeside :)
  have hqdrive : q.wave = r.wave := (congrArg Record.wave hbeside :)
  have hmeets : s.meetsWave d (s.boardCounts r) (zoneMarks s false d (s.boardCounts r) q) ↔ s.meetsWave d (s.boardCounts r) r := by
    unfold State.meetsWave
    rw [← hqwave, ← hqwaveDone]
    rfl
  refine ⟨⟨?_, ?_, ?_, ?_, ?_, ?_⟩, ⟨hdone.trans hjudged.done, fun h h' hp => hgrown.noted _ (hjudged.missing h h' hp),
    fun h h' p hp hl => hgrown.noted _ (hjudged.low h h' p hp hl),
    fun h h' p hp hl hh => hgrown.noted _ (hjudged.high h h' p hp hl hh)⟩, fun k => ?_,
    ⟨fun h => hwave.staying (hqwave.trans h), fun h => (hwave.meeting (hqwave.trans h)).trans hmeets,
      fun h => (hwave.kept fun h' => h (hmeets.mp h')).trans hqdrive, fun h => hwave.taken (hmeets.mpr h),
      fun h => hwave.short (hmeets.mpr h), fun h => hwave.safe (hmeets.mpr h)⟩⟩
  · rw [hpoints]
    exact hpyro.crossed
  · rw [hpoints]
    exact hpyro.kept
  · rw [hnext]
    exact hpyro.next
  · rw [hnext]
    exact hpyro.nextKept
  · rw [hpeak]
    exact hpyro.peak
  · rw [hpeak]
    exact hpyro.peakKept
  · have hk := hzones k
    rwa [hqin, hqdone, ← hin] at hk

theorem eq_of_aside (h : r'.aside = r.aside) : ∃ (b : Option BufferId) (e : ExcList) (dose sprayed skipped next : Nat), r'
    = { r with buffer := b, exc := e, dose := dose, sprayed := sprayed, skipped := skipped, nextRow := next } := by
  refine ⟨r'.buffer, r'.exc, r'.dose, r'.sprayed, r'.skipped, r'.nextRow, ?_⟩
  cases r
  cases r'
  cases h
  rfl

theorem eq_of_unbuffered (h : x'.unbuffered = x.unbuffered) : ∃ b, x' = { x with buffer := b } := by
  refine ⟨x'.buffer, ?_⟩
  cases x
  cases x'
  cases h
  rfl

/-- The stage events read nothing of what the rows change, and buffers are none of theirs. -/
theorem Staged.congr (h : Staged s d len r x) (hr : r'.aside = r.aside) (hx : x'.unbuffered = x.unbuffered) : Staged s d len r' x' := by
  obtain ⟨b, e, dose, sprayed, skipped, next, rfl⟩ := eq_of_aside hr
  obtain ⟨c, rfl⟩ := eq_of_unbuffered hx
  obtain ⟨⟨hcrossed, hkept, hnext, hnextKept, hpeak, hpeakKept⟩, ⟨hdone, hmissing, hlow, hhigh⟩, hzones,
    ⟨hstaying, hmeeting, hwave, htaken, hshort, hsafe⟩⟩ := h
  exact ⟨⟨hcrossed, hkept, hnext, hnextKept, hpeak, hpeakKept⟩, ⟨hdone, hmissing, hlow, hhigh⟩, hzones,
    ⟨hstaying, hmeeting, hwave, htaken, hshort, hsafe⟩⟩

/-- The stage events read nothing of the maps, the rows and the alarms. -/
theorem eq_of_ambient (h : t.ambient = s.ambient) : ∃ (l : List Record) (m : Compositor) (y : Spray) (a : AlarmTable) (b : Alert), t
    = { s with tracker := { s.tracker with records := l }, maps := m, spray := y, alarms := a, alert := b } := by
  refine ⟨t.tracker.records, t.maps, t.spray, t.alarms, t.alert, ?_⟩
  obtain ⟨_, ⟨⟩, _⟩ := s
  obtain ⟨_, ⟨⟩, _⟩ := t
  cases h
  rfl

theorem stageStep_of_ambient (h : t.ambient = s.ambient) (r : Record) : stageStep t r = stageStep s r := by
  obtain ⟨l, m, y, a, b, rfl⟩ := eq_of_ambient h
  rfl

/-! ### One record after another (R45) -/

/-- The rows due of a record, where it stands in the table. -/
def rowsOf (tag : Nat) (s : State) : State :=
  match s.record? tag with
  | some r => dueRows (r.rowsTotal - r.nextRow) tag s
  | none => s

/-- The stage events of the record with a tag. -/
def stageOf (tag : Nat) (s : State) : State := updateRecord tag (stageStep (rowsOf tag s)) (rowsOf tag s)

theorem stageEvents_cons (tag : Nat) (rest : List Nat) (s : State) : stageEvents (tag :: rest) s = stageEvents rest (stageOf tag s) := rfl

theorem rowsOf_ambient : (rowsOf tag s).ambient = s.ambient := by
  unfold rowsOf
  split
  · exact dueRows_ambient _
  · rfl

theorem rowsOf_aside : (rowsOf tag s).tracker.records.map Record.aside = s.tracker.records.map Record.aside := by
  unfold rowsOf
  split
  · exact dueRows_aside _
  · rfl

theorem rowsOf_other {a : Nat} (ha : a ≠ tag) :
    ((rowsOf tag s).record? a).map Record.unbuffered = (s.record? a).map Record.unbuffered := by
  unfold rowsOf
  split
  · exact dueRows_other _ ha
  · rfl

theorem stageOf_ambient : (stageOf tag s).ambient = s.ambient := (updateRecord_ambient tag _).trans rowsOf_ambient

theorem face_of_aside (h : t.tracker.records.map Record.aside = s.tracker.records.map Record.aside) :
    t.tracker.records.map Record.face = s.tracker.records.map Record.face := by
  have hface := congrArg (List.map Record.face) h
  rwa [List.map_map, List.map_map] at hface

theorem face_of_track (h : x.track = r.track) : x.face = r.face := (congrArg Record.face h :)

theorem stageOf_face : (stageOf tag s).tracker.records.map Record.face = s.tracker.records.map Record.face := by
  rw [stageOf, updateRecord_face fun r => face_of_track (stageStep_track _ r).1]
  exact face_of_aside rowsOf_aside

theorem tags_of_face (h : t.tracker.records.map Record.face = s.tracker.records.map Record.face) : t.tags = s.tags := by
  have htags := congrArg (List.map Prod.fst) h
  rwa [List.map_map, List.map_map] at htags

theorem record?_updateRecord_other {f : Record → Record} (hf : ∀ r, (f r).tag = r.tag) {a : Nat} (ha : a ≠ tag) :
    (updateRecord tag f s).record? a = s.record? a := by
  show (s.tracker.records.map _).find? _ = s.tracker.records.find? _
  rw [List.find?_map]
  have hp : ((fun r : Record => decide (r.tag = a)) ∘ fun r : Record => if r.tag = tag then f r else r)
      = fun r => decide (r.tag = a) := funext fun r => by
    show decide ((if r.tag = tag then f r else r).tag = a) = decide (r.tag = a)
    split
    · rw [hf]
    · rfl
  rw [hp]
  cases hr : s.tracker.records.find? (fun r => decide (r.tag = a)) with
  | none => rfl
  | some r =>
    have htag : r.tag = a := by simpa using List.find?_some hr
    exact congrArg some (if_neg (htag ▸ ha))

theorem tag_stageStep (s : State) (r : Record) : (stageStep s r).tag = r.tag := (stageStep_track s r).2.tag

theorem stageOf_other {a : Nat} (ha : a ≠ tag) :
    ((stageOf tag s).record? a).map Record.unbuffered = (s.record? a).map Record.unbuffered := by
  rw [stageOf, record?_updateRecord_other (tag_stageStep _) ha]
  exact rowsOf_other ha

/-- What a forward step makes of a record, by the state at the step's beginning. -/
structure Through (s : State) (r x : Record) : Prop where
  entering : s.position r = none → x.unbuffered = r.unbuffered
  onward : ∀ d, s.position r = some d → r.nextRow ≤ x.nextRow
  due : ∀ d, s.position r = some d → ∀ i, r.nextRow ≤ i → i < x.nextRow → i < r.rowsTotal ∧ s.counts (s.sprayLine + 10 * i) ≤ d
  rest : ∀ d, s.position r = some d → x.nextRow < r.rowsTotal → d < s.counts (s.sprayLine + 10 * x.nextRow)
  staged : ∀ d, s.position r = some d → Staged s d (s.boardCounts r) r x

theorem Through.congr (h : Through s r x) (hr : r'.unbuffered = r.unbuffered) (hx : x'.unbuffered = x.unbuffered) : Through s r' x' := by
  have haside : r'.aside = r.aside := (congrArg Record.aside hr :)
  obtain ⟨b, rfl⟩ := eq_of_unbuffered hr
  obtain ⟨c, rfl⟩ := eq_of_unbuffered hx
  exact ⟨h.entering, h.onward, h.due, h.rest, fun d hd => (h.staged d hd).congr haside rfl⟩

theorem boardCounts_of_aside (h : x.aside = r.aside) : s.boardCounts x = s.boardCounts r := by
  unfold State.boardCounts
  rw [show x.measured = r.measured from (congrArg Record.measured h :), show x.slot = r.slot from (congrArg Record.slot h :)]

/-- The stage events of one record. -/
theorem stageOf_own (hn : s.tags.Nodup) (hr : s.record? tag = some r) : ∃ x, (stageOf tag s).record? tag = some x ∧ Through s r x := by
  have hfound : ∀ {y : Record}, (rowsOf tag s).record? tag = some y → (stageOf tag s).record? tag = some (stageStep s y) := fun {y} hy => by
    rw [stageOf, record?_updateRecord (tag_stageStep _), hy]
    exact congrArg some (stageStep_of_ambient rowsOf_ambient y)
  cases hd : s.position r with
  | none =>
    have hahead : s.rowAhead? tag = none := by
      unfold State.rowAhead?
      rw [hr]
      simp only [Option.filter_some, hd] <;> rfl
    have hrows : rowsOf tag s = s := by
      unfold rowsOf
      rw [hr]
      dsimp only
      cases r.rowsTotal - r.nextRow with
      | zero => rfl
      | succ n => rw [dueRows_succ, hahead]
    refine ⟨r, ?_, fun _ => rfl, fun d h => ?_, fun d h => ?_, fun d h => ?_, fun d h => ?_⟩
    · have hy := hfound (y := r) (by rw [hrows, hr])
      rwa [stageStep_none hd] at hy
    all_goals exact nomatch hd.symm.trans h
  | some d =>
    obtain ⟨y, hy, hrows⟩ := dueRows_own (r.rowsTotal - r.nextRow) hn hr hd
    have hyr : (rowsOf tag s).record? tag = some y := by
      unfold rowsOf
      rw [hr]
      exact hy
    have hposition : s.position y = some d := (position_of_ambient rfl (congrArg Record.entry hrows.aside :)).trans hd
    have hstaged := stageStep_staged hposition
    rw [boardCounts_of_aside hrows.aside] at hstaged
    have hnext : (stageStep s y).nextRow = y.nextRow := (congrArg Record.nextRow (stageStep_track s y).1 :)
    refine ⟨stageStep s y, hfound hyr, fun h => ?_, fun e he => ?_, fun e he => ?_, fun e he => ?_, fun e he => ?_⟩
    · exact nomatch hd.symm.trans h
    all_goals
      cases hd.symm.trans he
    · rw [hnext]
      exact hrows.onward
    · rw [hnext]
      exact hrows.due
    · rw [hnext]
      exact fun hlt => hrows.rest hlt (by omega)
    · exact hstaged.congr hrows.aside.symm rfl

/-! ### Every record (log 34) -/

theorem stageEvents_face (tags : List Nat) : (stageEvents tags s).tracker.records.map Record.face = s.tracker.records.map Record.face := by
  induction tags generalizing s with
  | nil => rfl
  | cons tag rest ih => exact (stageEvents_cons tag rest s ▸ ih).trans stageOf_face

theorem stageEvents_other {tags : List Nat} {a : Nat} (ha : a ∉ tags) :
    ((stageEvents tags s).record? a).map Record.unbuffered = (s.record? a).map Record.unbuffered := by
  induction tags generalizing s with
  | nil => rfl
  | cons tag rest ih =>
    rw [stageEvents_cons, ih fun h => ha (List.mem_cons_of_mem _ h)]
    exact stageOf_other fun h => ha (h ▸ List.mem_cons_self)

theorem Through.of_ambient (h : Through t r x) (hst : t.ambient = s.ambient) : Through s r x := by
  obtain ⟨l, m, y, a, b, rfl⟩ := eq_of_ambient hst
  obtain ⟨hentering, honward, hdue, hrest, hstaged⟩ := h
  refine ⟨hentering, honward, hdue, hrest, fun d hd => ?_⟩
  obtain ⟨⟨hcrossed, hkept, hnext, hnextKept, hpeak, hpeakKept⟩, ⟨hdone, hmissing, hlow, hhigh⟩, hzones,
    ⟨hstaying, hmeeting, hwave, htaken, hshort, hsafe⟩⟩ := hstaged d hd
  exact ⟨⟨hcrossed, hkept, hnext, hnextKept, hpeak, hpeakKept⟩, ⟨hdone, hmissing, hlow, hhigh⟩, hzones,
    ⟨hstaying, hmeeting, hwave, htaken, hshort, hsafe⟩⟩

/-- Every record of a table with distinct tags goes through its own stage events, and through those of no other. -/
theorem stageEvents_own {tags : List Nat} (hs : s.tags.Nodup) (ht : tags.Nodup) {a : Nat} (ha : a ∈ tags) (hr : s.record? a = some r) :
    ∃ x, (stageEvents tags s).record? a = some x ∧ Through s r x := by
  induction tags generalizing s r with
  | nil => nomatch ha
  | cons tag rest ih =>
    obtain ⟨htag, hrest⟩ := List.nodup_cons.mp ht
    have hnodup : (stageOf tag s).tags.Nodup := by rwa [tags_of_face stageOf_face]
    rw [stageEvents_cons]
    by_cases hat : a = tag
    · subst hat
      obtain ⟨y, hy, hthrough⟩ := stageOf_own hs hr
      have hlater := stageEvents_other (s := stageOf a s) htag
      rw [hy] at hlater
      obtain ⟨x, hx, hxy⟩ := Option.map_eq_some_iff.mp hlater
      exact ⟨x, hx, hthrough.congr rfl hxy⟩
    · have hearlier := stageOf_other (s := s) hat
      rw [hr] at hearlier
      obtain ⟨y, hy, hyr⟩ := Option.map_eq_some_iff.mp hearlier
      obtain ⟨x, hx, hthrough⟩ := ih hnodup hrest ((List.mem_cons.mp ha).resolve_left hat) hy
      exact ⟨x, hx, (hthrough.of_ambient stageOf_ambient).congr hyr.symm rfl⟩

theorem stageEvents_through (hs : s.tags.Nodup) (hr : r ∈ s.tracker.records) :
    ∃ x, (stageEvents s.tags s).record? r.tag = some x ∧ Through s r x :=
  stageEvents_own hs hs (List.mem_map_of_mem hr) (record?_of_mem hs hr)

end

end Sys2Proof.Machine

end

section
/-! PROOFS. Records that leave the Transit Table past the exit limit (R52, R53). -/

namespace Sys2Proof.Machine

/-! ### RUN is left, and not entered again, by what a removal brings (R16, R17, R22, R25) -/

section
variable {s : State} {new : Mode}

theorem setMode_mode (new : Mode) (s : State) : (setMode new s).modes.mode = new := by
  rw [setMode_modes]
  cases new <;> rfl

theorem drainCompletes_halted (h : s.modes.mode ≠ .run) : (drainCompletes s).modes.mode ≠ .run := by
  unfold drainCompletes
  split
  · rw [setMode_mode]
    cases s.modes.drain <;> decide
  · exact h

theorem toDrain_halted (t : DrainTarget) : (toDrain t s).modes.mode ≠ .run := by
  rw [toDrain, setMode_mode]
  decide

/-- Forced standby leaves RUN. -/
theorem forceStandby_halted (s : State) : (forceStandby s).modes.mode ≠ .run := by
  unfold forceStandby
  cases hm : s.modes.mode with
  | ready =>
    dsimp only
    rw [setMode_mode]
    decide
  | run => exact drainCompletes_halted (toDrain_halted _)
  | drain =>
    dsimp only
    split
    · show s.modes.mode ≠ .run
      rw [hm]
      decide
    · rw [hm]
      decide
  | hold => exact drainCompletes_halted (toDrain_halted _)
  | idle | warmup | standby | calibrating | safe =>
    dsimp only
    rw [hm]
    decide

theorem forcedTest_halted (h : s.modes.mode ≠ .run) : (forcedTest s).modes.mode ≠ .run := by
  unfold forcedTest
  split
  · exact forceStandby_halted _
  · exact h

theorem drainTest_halted (h : s.modes.mode ≠ .run) : (drainTest s).modes.mode ≠ .run := forcedTest_halted (drainCompletes_halted h)

theorem enterHold_halted (s : State) : (enterHold s).modes.mode ≠ .run :=
  forcedTest_halted (by
    rw [setMode_mode]
    decide)

theorem waveClearTest_halted (occupied : Bool) (h : s.modes.mode ≠ .run) : (waveClearTest occupied s).modes.mode ≠ .run := by
  unfold waveClearTest
  split
  · exact enterHold_halted s
  · exact h

theorem conveyorSync_modes (s : State) : (conveyorSync s).modes = s.modes := by
  unfold conveyorSync
  split
  · rfl
  · split <;> rfl

theorem reportRecord_modes (tag : Nat) (lost : Bool) (s : State) : (reportRecord tag lost s).modes = s.modes := by
  unfold reportRecord
  split <;> rfl

theorem removeAsReport_halted (tag : Nat) (lost : Bool) (h : s.modes.mode ≠ .run) : (removeAsReport tag lost s).modes.mode ≠ .run := by
  have hclear : (sprayClear tag s).modes = s.modes := modes_of_ambient (ambient_of_dry sprayClear_dry)
  have hended : (overlapsEnded tag s).modes.mode ≠ .run := by
    show (sprayClear tag s).modes.mode ≠ .run
    rwa [hclear]
  rw [removeAsReport_eq, conveyorSync_modes]
  refine drainTest_halted ?_
  rw [reportRecord_modes, readyToLeave, modes_of_ambient (ambient_of_dry releaseOwned_dry)]
  exact waveClearTest_halted _ hended

/-- An alarm of STOP severity leaves the machine out of RUN. -/
theorem occur_halted {k : AlarmKind} (hk : severity k = .stop) (s : State) : (occur k s).modes.mode ≠ .run := by
  unfold occur
  rw [hk]
  by_cases hm : (eventOccurs k s).modes.mode = .run
  · rw [react_stop_of_run hm]
    exact drainTest_halted (toDrain_halted _)
  · rw [react_stop_of_not_run hm]
    exact hm

/-! ### The Alarm Table through a removal -/

theorem waveClearTest_alarm {j : AlarmKind} (h : j ∉ modeKinds) (occupied : Bool) (s : State) :
    (waveClearTest occupied s).alarm j = s.alarm j := by
  unfold waveClearTest
  split
  · exact enterHold_alarm h s
  · rfl

theorem sprayClear_alarm {j : AlarmKind} (h : j ≠ .fluxPressLow) (tag : Nat) (s : State) : (sprayClear tag s).alarm j = s.alarm j := by
  obtain ⟨hc, -⟩ | ⟨n, hc⟩ := sprayClear_cases (s := s) (tag := tag)
  · rw [hc]
    rfl
  · rw [hc, serveQueue_alarm _ h]
    rfl

theorem removeAsReport_alarm {j : AlarmKind} (h : j ∉ modeKinds) (tag : Nat) (lost : Bool) (s : State) :
    (removeAsReport tag lost s).alarm j = s.alarm j := by
  have hdev : j ≠ .conveyorDev := fun hj => h (hj ▸ by decide)
  have hpress : j ≠ .fluxPressLow := fun hj => h (hj ▸ by decide)
  have hreport : ∀ u : State, (reportRecord tag lost u).alarm j = u.alarm j := fun u => by
    unfold reportRecord
    split <;> rfl
  have hended : (overlapsEnded tag s).alarm j = s.alarm j := sprayClear_alarm hpress tag s
  rw [removeAsReport_eq, conveyorSync_alarm _ hdev, drainTest_alarm h, hreport, readyToLeave, alarm_of_alarms releaseOwned_alarms,
    waveClearTest_alarm h, hended]

end

end Sys2Proof.Machine

end

section
/-! PROOFS. The removals of a forward step, counted: the records that leave, their reports and their alarms (R52, R53, R172). -/

namespace Sys2Proof.Machine

/-- What no row, no stage event and no mode changes of a record. -/
abbrev Face : Type := Nat × Nat × Option Count24 × Option Nat × Nat × Stage × Bool

/-- The faces of the Transit Table. -/
def State.faces (s : State) : List Face := s.tracker.records.map Record.face

section
variable {s t : State} {k : AlarmKind} {lost : Bool} {gone : List Nat} {r : Record} {n : Nat}

/-! ### Records that leave as reports, one after another -/

/-- The records with these tags have left as reports, each with one occurrence of an alarm. -/
structure Leaves (k : AlarmKind) (lost : Bool) (gone : List Nat) (s t : State) : Prop where
  faces : t.faces = s.faces.filter (fun f => !gone.contains f.1)
  count : t.tracker.count = s.tracker.count
  outer : t.outer = s.outer
  next : t.reports.next = (s.reports.next + gone.length) % 65536
  reports : ∃ ps, t.reports.queue = s.reports.queue ++ ps ∧ ps.map (fun p => (p.tag, p.outcome == .lost)) = gone.map (fun a => (a, lost))
  alarm : (t.alarm k).count = min 255 ((s.alarm k).count + gone.length)
  latched : gone ≠ [] → (t.alarm k).state = .latched
  others : ∀ j, j ≠ k → j ∉ modeKinds → t.alarm j = s.alarm j
  halted : s.modes.mode ≠ .run ∨ gone ≠ [] → t.modes.mode ≠ .run
  same : gone = [] → t = s

theorem Leaves.nil (h : s.countsFit) : Leaves k lost [] s s where
  faces := (List.filter_eq_self.mpr fun _ _ => rfl).symm
  count := rfl
  outer := rfl
  next := (Nat.mod_eq_of_lt h.2).symm
  reports := ⟨[], (List.append_nil _).symm, rfl⟩
  alarm := (min_eq_right (h.1 k)).symm
  latched h := absurd rfl h
  others _ _ _ := rfl
  halted h := h.resolve_right (absurd rfl)
  same _ := rfl

/-- A record leaves as a report, and an alarm occurs. -/
def leave (k : AlarmKind) (lost : Bool) (tag : Nat) (s : State) : State := occur k (removeAsReport tag lost s)

theorem outcomeOf_lost (lost : Bool) (e : ExcList) : (outcomeOf lost e == .lost) = lost := by
  cases lost with
  | true => rfl
  | false => exact beq_eq_false_iff_ne.mpr (outcomeOf_kept e).1

theorem leave_faces (hr : s.record? r.tag = some r) : (leave k lost r.tag s).faces = s.faces.filter (fun f => f.1 ≠ r.tag) := by
  unfold leave State.faces
  rw [face_of_plain (plain_of_ground (occur_ground _ k)), removeAsReport_records hr]

/-- One record that leaves. -/
theorem leave_leaves (hk : severity k = .stop) (hm : k ∉ modeKinds) (hr : s.record? r.tag = some r) :
    Leaves k lost [r.tag] s (leave k lost r.tag s) := by
  obtain ⟨x, hface, -, -, hfar, -, -⟩ := removeAsReport_report (lost := lost) hr
  have htag : x.tag = r.tag := (congrArg Prod.fst hface :)
  obtain ⟨u, hu⟩ : ∃ u, u = removeAsReport r.tag lost s := ⟨_, rfl⟩
  have halarm : ∀ j, j ∉ modeKinds → u.alarm j = s.alarm j := fun j hj => hu ▸ removeAsReport_alarm hj r.tag lost s
  have hentry : (leave k lost r.tag s).alarm k = u.latched k := by
    rw [leave, ← hu]
    exact occur_alarm_same hm u
  have hjoined : (leave k lost r.tag s).far = { s.far with reports :=
      { queue := s.reports.queue ++ [makeReport s.reports.next s.seconds lost x], next := (s.reports.next + 1) % 65536 } } := by
    rw [leave, occur_far, hfar]
  have hreports := (congrArg Far.reports hjoined :)
  refine ⟨?_, ?_, (congrArg (fun x : Far => (⟨x.scan, x.store, x.link, x.uptime, x.freeIndex, x.pending⟩ : Outer)) hjoined :),
    congrArg Reports.next hreports, ⟨_, congrArg Reports.queue hreports, ?_⟩, ?_, fun _ => ?_, fun j hj hjm => ?_, fun _ => occur_halted hk _,
    fun h => absurd h (List.cons_ne_nil _ _)⟩
  · rw [leave_faces hr]
    refine List.filter_congr fun f _ => ?_
    simp
  · rw [leave, occur_count, removeAsReport_count]
  · show [(x.tag, outcomeOf lost x.exc == .lost)] = [(r.tag, lost)]
    rw [htag, outcomeOf_lost]
  · rw [hentry]
    show min 255 ((u.alarm k).count + 1) = _
    rw [halarm k hm]
    rfl
  · rw [hentry]
    rfl
  · rw [leave, ← hu, occur_alarm_other hjm u hj]
    exact halarm j hjm

theorem Leaves.cons {u : State} {a : Nat} (h : Leaves k lost [a] s u) (h' : Leaves k lost gone u t) : Leaves k lost (a :: gone) s t := by
  obtain ⟨ps, hps, hpsTags⟩ := h.reports
  obtain ⟨qs, hqs, hqsTags⟩ := h'.reports
  refine ⟨?_, h'.count.trans h.count, h'.outer.trans h.outer, ?_, ⟨ps ++ qs, ?_, ?_⟩, ?_, fun _ => ?_,
    fun j hj hjm => (h'.others j hj hjm).trans (h.others j hj hjm), fun _ => h'.halted (.inl (h.halted (.inr (List.cons_ne_nil _ _)))),
    fun h => absurd h (List.cons_ne_nil _ _)⟩
  · rw [h'.faces, h.faces, List.filter_filter]
    refine List.filter_congr fun f _ => ?_
    simp [Bool.and_comm]
  · have hone : u.reports.next = (s.reports.next + 1) % 65536 := h.next
    rw [h'.next, hone, List.length_cons]
    omega
  · rw [hqs, hps, List.append_assoc]
  · rw [List.map_append, hpsTags, hqsTags]
    rfl
  · have hone : (u.alarm k).count = min 255 ((s.alarm k).count + 1) := h.alarm
    rw [h'.alarm, hone, List.length_cons]
    omega
  · by_cases hg : gone = []
    · rw [h'.same hg]
      exact h.latched (List.cons_ne_nil _ _)
    · exact h'.latched hg

theorem leave_countsFit (hk : k ≠ .supplyLow) (h : s.countsFit) (tag : Nat) : (leave k lost tag s).countsFit :=
  occur_kept keptByModes_countsFit hk (removeAsReport_kept keptByModes_countsFit tag lost h)

theorem tags_eq (s : State) : s.tags = s.faces.map Prod.fst := (List.map_map (f := Record.face) (g := Prod.fst)).symm

theorem leave_nodup (hr : s.record? r.tag = some r) (hn : s.tags.Nodup) : (leave k lost r.tag s).tags.Nodup := by
  rw [tags_eq] at hn ⊢
  rw [leave_faces hr]
  exact hn.sublist (List.filter_sublist.map _)

/-! ### Who leaves -/

/-- Position, board length, and the two tests of the exit limit, by the face of a record. -/
def State.facePosition (s : State) (f : Face) : Option Int := f.2.2.1.map (fun e => (s.tracker.count - e).toInt)

def State.faceLength (s : State) (f : Face) : Int :=
  match f.2.2.2.1 with
  | some m => s.counts m
  | none => s.counts (s.recipeOf f.2.1).length

/-- A matched record whose trailing edge has reached the exit limit (R52). -/
def State.faceOverran (s : State) (f : Face) : Bool := f.2.2.2.2.2.2 && (match s.facePosition f with
  | some d => decide (s.exitLimit ≤ d - s.faceLength f)
  | none => false)

/-- A record whose leading edge is past the exit limit (R53). -/
def State.faceLate (s : State) (f : Face) : Bool :=
  match s.facePosition f with
  | some d => decide (s.exitLimit < d)
  | none => false

/-- A record that is not exit matched. -/
def faceUnmatched (f : Face) : Bool := !f.2.2.2.2.2.2

theorem faceTests_congr (hc : t.tracker.count = s.tracker.count) (ho : t.outer = s.outer) :
    t.faceOverran = s.faceOverran ∧ t.faceLate = s.faceLate := by
  have hstore : t.store = s.store := congrArg Outer.store ho
  have hfree : t.freeIndex = s.freeIndex := congrArg Outer.freeIndex ho
  have hparam : ∀ i, t.param i = s.param i := fun i => by
    unfold State.param State.config?
    rw [hstore]
  have hcounts : ∀ mm, t.counts mm = s.counts mm := fun mm => by
    unfold State.counts State.kScale
    rw [hparam]
  have hrecipe : ∀ slot, t.recipeOf slot = s.recipeOf slot := fun slot => by
    unfold State.recipeOf
    rw [hstore, hfree]
  have hposition : t.facePosition = s.facePosition := funext fun f => by
    unfold State.facePosition
    rw [hc]
  have hlength : t.faceLength = s.faceLength := funext fun f => by
    unfold State.faceLength
    simp only [hcounts, hrecipe]
  have hlimit : t.exitLimit = s.exitLimit := by
    unfold State.exitLimit State.exitLine State.exitTol
    rw [hcounts, hparam, hparam]
  refine ⟨funext fun f => ?_, funext fun f => ?_⟩
  · unfold State.faceOverran
    rw [hposition, hlength, hlimit]
  · unfold State.faceLate
    rw [hposition, hlimit]

/-- The first of the records that a test picks, and the rest of them once it has left. -/
theorem filter_of_find {p : Face → Bool} {l : List Face} {a : Face} (hn : (l.map Prod.fst).Nodup) (h : l.find? p = some a) :
    l.filter p = a :: (l.filter (fun f => f.1 ≠ a.1)).filter p := by
  induction l with
  | nil => nomatch h
  | cons x xs ih =>
    obtain ⟨hx, hxs⟩ := List.nodup_cons.mp hn
    cases hp : p x with
    | true =>
      rw [List.find?_cons_of_pos hp] at h
      rw [← Option.some.inj h]
      have hall : xs.filter (fun f => decide (f.1 ≠ x.1)) = xs := List.filter_eq_self.mpr fun f hf =>
        decide_eq_true fun hfx => hx (hfx ▸ List.mem_map_of_mem hf)
      rw [List.filter_cons_of_pos hp, List.filter_cons_of_neg (by simp), hall]
    | false =>
      rw [List.find?_cons_of_neg (by simp [hp])] at h
      rw [List.filter_cons_of_neg (by simp [hp]), ih hxs h]
      congr 1
      by_cases hxa : x.1 ≠ a.1
      · rw [List.filter_cons_of_pos (p := fun f : Face => decide (f.1 ≠ a.1)) (decide_eq_true hxa), List.filter_cons_of_neg (by simp [hp])]
      · rw [List.filter_cons_of_neg (p := fun f : Face => decide (f.1 ≠ a.1)) (by simpa using hxa)]

theorem find?_faces {p : Face → Bool} (h : s.tracker.records.find? (p ∘ Record.face) = some r) : s.faces.find? p = some r.face := by
  unfold State.faces
  rw [List.find?_map, h]
  rfl

theorem filter_faces_of_none {p : Face → Bool} (h : s.tracker.records.find? (p ∘ Record.face) = none) : s.faces.filter p = [] := by
  rw [List.filter_eq_nil_iff]
  intro f hf
  obtain ⟨x, hx, rfl⟩ := List.mem_map.mp hf
  exact List.find?_eq_none.mp h x hx

/-- The matched records that overran the exit sensor leave, the oldest first (R52). -/
theorem overrunExits_leaves (hn : s.tags.Nodup) (hf : s.countsFit) (h : (s.faces.filter s.faceOverran).length ≤ n) :
    Leaves .trackLost false ((s.faces.filter s.faceOverran).map Prod.fst) s (overrunExits n s) := by
  induction n generalizing s with
  | zero =>
    rw [List.length_eq_zero_iff.mp (Nat.le_zero.mp h)]
    exact .nil hf
  | succ n ih =>
    cases hr : s.overrun? with
    | none =>
      have hexits : overrunExits (n + 1) s = s := by
        unfold overrunExits
        rw [hr]
      rw [hexits, filter_faces_of_none (p := s.faceOverran) hr]
      exact .nil hf
    | some r =>
      have hexits : overrunExits (n + 1) s = overrunExits n (leave .trackLost false r.tag s) := by
        rw [overrunExits, hr]
        rfl
      have hrecord := record?_of_mem hn (List.mem_of_find?_eq_some hr)
      have hleave := leave_leaves (k := .trackLost) (lost := false) rfl (by decide) hrecord
      have hfaces : (leave .trackLost false r.tag s).faces = s.faces.filter (fun f => f.1 ≠ r.face.1) := leave_faces hrecord
      have htests := (faceTests_congr hleave.count hleave.outer).1
      have hsplit : s.faces.filter s.faceOverran = r.face :: (leave .trackLost false r.tag s).faces.filter
          (leave .trackLost false r.tag s).faceOverran := by
        rw [htests, hfaces]
        exact filter_of_find (tags_eq s ▸ hn) (find?_faces (p := s.faceOverran) hr)
      rw [hexits, hsplit]
      rw [hsplit, List.length_cons] at h
      exact hleave.cons (ih (leave_nodup hrecord hn) (leave_countsFit (by decide) hf r.tag) (by omega))

/-- The records that are late, the oldest first, up to the first that is not. -/
def State.lateFaces (s : State) : List Face := (s.faces.filter faceUnmatched).takeWhile s.faceLate

theorem missing?_eq (s : State) : s.missing? = (s.tracker.records.find? (faceUnmatched ∘ Record.face)).filter (fun r => s.faceLate r.face) := by
  show (match s.tracker.records.find? (faceUnmatched ∘ Record.face) with
    | some r => match s.position r with
      | some d => if s.exitLimit < d then some r else none
      | none => none
    | none => none) = _
  cases s.tracker.records.find? (faceUnmatched ∘ Record.face) with
  | none => rfl
  | some r =>
    have hlate : s.faceLate r.face = match s.position r with
      | some d => decide (s.exitLimit < d)
      | none => false := rfl
    dsimp only
    rw [Option.filter_some, hlate]
    cases s.position r with
    | none => rfl
    | some d =>
      by_cases h : s.exitLimit < d
      · simp [h]
      · simp [h]

theorem lateFaces_of_none (hn : s.tags.Nodup) (h : s.missing? = none) : s.lateFaces = [] := by
  rw [missing?_eq, Option.filter_eq_none_iff] at h
  unfold State.lateFaces
  cases hr : s.tracker.records.find? (faceUnmatched ∘ Record.face) with
  | none => rw [filter_faces_of_none hr, List.takeWhile_nil]
  | some r => rw [filter_of_find (tags_eq s ▸ hn) (find?_faces hr), List.takeWhile_cons_of_neg (h r hr)]

/-- The records that are not exit matched and past the exit limit leave as LOST, the oldest first (R53). -/
theorem missingExits_leaves (hn : s.tags.Nodup) (hf : s.countsFit) (h : s.lateFaces.length ≤ n) :
    Leaves .boardMissing true (s.lateFaces.map Prod.fst) s (missingExits n s) := by
  induction n generalizing s with
  | zero =>
    rw [List.length_eq_zero_iff.mp (Nat.le_zero.mp h)]
    exact .nil hf
  | succ n ih =>
    cases hr : s.missing? with
    | none =>
      have hexits : missingExits (n + 1) s = s := by
        unfold missingExits
        rw [hr]
      rw [hexits, lateFaces_of_none hn hr]
      exact .nil hf
    | some r =>
      have hexits : missingExits (n + 1) s = missingExits n (leave .boardMissing true r.tag s) := by
        rw [missingExits, hr]
        rfl
      rw [missing?_eq] at hr
      obtain ⟨hfound, hlate⟩ := Option.filter_eq_some_iff.mp hr
      have hrecord := record?_of_mem hn (List.mem_of_find?_eq_some hfound)
      have hleave := leave_leaves (k := .boardMissing) (lost := true) rfl (by decide) hrecord
      have hfaces := leave_faces (k := .boardMissing) (lost := true) hrecord
      have htests := (faceTests_congr hleave.count hleave.outer).2
      have hsplit : s.lateFaces = r.face :: (leave .boardMissing true r.tag s).lateFaces := by
        unfold State.lateFaces
        rw [filter_of_find (tags_eq s ▸ hn) (find?_faces hfound), List.takeWhile_cons_of_pos hlate, htests, hfaces]
        rfl
      rw [hexits, hsplit]
      rw [hsplit, List.length_cons] at h
      exact hleave.cons (ih (leave_nodup hrecord hn) (leave_countsFit (by decide) hf r.tag) (by omega))

end

end Sys2Proof.Machine

end

section
/-! PROOFS. A forward step of the encoder as a whole: the stage events first, then the removals (R28, R44 to R54; log 34). -/

namespace Sys2Proof.Machine

section
variable {s u v w : State}

/-! ### The removals, by the records before them -/

/-- The records that overrun the exit sensor are matched, and none of those that are late is. -/
theorem lateFaces_overrunExits {n : Nat} (hn : s.tags.Nodup)
    (h : Leaves .trackLost false ((s.faces.filter s.faceOverran).map Prod.fst) s (overrunExits n s)) :
    (overrunExits n s).lateFaces = s.lateFaces := by
  have hstays : ∀ f ∈ s.faces, faceUnmatched f = true → ((s.faces.filter s.faceOverran).map Prod.fst).contains f.1 = false := by
    intro f hf hun
    by_contra hc
    rw [Bool.not_eq_false, List.contains_iff_mem] at hc
    obtain ⟨g, hg, hgf⟩ := List.mem_map.mp hc
    obtain ⟨hgs, hover⟩ := List.mem_filter.mp hg
    have hsame : g = f := List.inj_on_of_nodup_map (tags_eq s ▸ hn) hgs hf hgf
    subst hsame
    have hmatched : g.2.2.2.2.2.2 = true := (Bool.and_eq_true_iff.mp hover).1
    rw [faceUnmatched, hmatched] at hun
    exact absurd hun (by decide)
  unfold State.lateFaces
  rw [(faceTests_congr h.count h.outer).2, h.faces, List.filter_filter]
  congr 1
  refine List.filter_congr fun f hf => ?_
  cases hun : faceUnmatched f with
  | false => rfl
  | true => rw [hstays f hf hun]; rfl

/-- The removals of a forward step. -/
theorem exits_leave (hn : s.tags.Nodup) (hf : s.countsFit) : let n := s.tracker.records.length
    Leaves .trackLost false ((s.faces.filter s.faceOverran).map Prod.fst) s (overrunExits n s)
    ∧ Leaves .boardMissing true (s.lateFaces.map Prod.fst) (overrunExits n s) (missingExits n (overrunExits n s)) := by
  intro n
  have hlength : s.faces.length = n := List.length_map _
  have hfirst := overrunExits_leaves (n := n) hn hf (hlength ▸ List.length_filter_le _ _)
  have hlate := lateFaces_overrunExits hn hfirst
  have hnodup : (overrunExits n s).tags.Nodup := by
    rw [tags_eq] at hn ⊢
    rw [hfirst.faces]
    exact hn.sublist (List.filter_sublist.map _)
  have hbound : s.lateFaces.length ≤ n :=
    ((List.takeWhile_sublist _).length_le.trans (List.length_filter_le _ _)).trans hlength.le
  refine ⟨hfirst, ?_⟩
  rw [← hlate] at hbound ⊢
  exact missingExits_leaves hnodup (overrunExits_kept keptByModes_countsFit n hf) hbound

/-- What the removals leave of the table, the reports and the Alarm Table. -/
structure ExitsSettled (s w y : State) (gone1 gone2 : List Nat) : Prop where
  tags : y.tags = s.tags.filter (fun tag => !(gone1 ++ gone2).contains tag)
  next : y.reports.next = (s.reports.next + (gone1.length + gone2.length)) % 65536
  kept : y.reports.queue.take s.reports.queue.length = s.reports.queue
  joined : (y.reports.queue.drop s.reports.queue.length).map (fun p => (p.tag, p.outcome == .lost))
    = gone1.map (fun a => (a, false)) ++ gone2.map (fun a => (a, true))
  lost : (y.alarm .trackLost).count = min 255 ((s.alarm .trackLost).count + gone1.length)
    ∧ (gone1.length ≠ 0 → (y.alarm .trackLost).state = .latched)
  missing : (y.alarm .boardMissing).count = min 255 ((s.alarm .boardMissing).count + gone2.length)
    ∧ (gone2.length ≠ 0 → (y.alarm .boardMissing).state = .latched)
  halted : gone1 ++ gone2 ≠ [] → y.modes.mode ≠ .run
  same : gone1 ++ gone2 = [] → y = w

theorem exits_settled (hfar : w.far = s.far) (halarm : ∀ j, j ∉ modeKinds → w.alarm j = s.alarm j) (htags : w.tags = s.tags)
    (hn : w.tags.Nodup) (hf : w.countsFit) : let n := w.tracker.records.length
    ExitsSettled s w (missingExits n (overrunExits n w)) ((w.faces.filter w.faceOverran).map Prod.fst) (w.lateFaces.map Prod.fst) := by
  intro n
  obtain ⟨hfirst, hsecond⟩ := exits_leave hn hf
  have hreports : w.reports = s.reports := (congrArg Far.reports hfar :)
  obtain ⟨ps, hps, hpsTags⟩ := hfirst.reports
  obtain ⟨qs, hqs, hqsTags⟩ := hsecond.reports
  have hqueue : (missingExits n (overrunExits n w)).reports.queue = s.reports.queue ++ (ps ++ qs) := by
    rw [hqs, hps, hreports, List.append_assoc]
  have hlost : (missingExits n (overrunExits n w)).alarm .trackLost = (overrunExits n w).alarm .trackLost :=
    hsecond.others _ (by decide) (by decide)
  have hmissing : (overrunExits n w).alarm .boardMissing = s.alarm .boardMissing :=
    (hfirst.others _ (by decide) (by decide)).trans (halarm _ (by decide))
  refine ⟨?_, ?_, ?_, ?_, ⟨?_, fun h => ?_⟩, ⟨?_, fun h => hsecond.latched fun he => h (he ▸ rfl)⟩, fun h => ?_, fun h => ?_⟩
  · rw [tags_eq, hsecond.faces, hfirst.faces, ← htags, tags_eq w, List.filter_map, List.filter_filter]
    congr 1
    refine List.filter_congr fun f _ => ?_
    rw [Function.comp_apply, List.contains_append, Bool.not_or, Bool.and_comm]
  · rw [hsecond.next, hfirst.next, hreports]
    omega
  · rw [hqueue, List.take_left]
  · rw [hqueue, List.drop_left, List.map_append, hpsTags, hqsTags]
  · rw [hlost, hfirst.alarm, halarm _ (by decide)]
  · rw [hlost]
    exact hfirst.latched fun he => h (he ▸ rfl)
  · rw [hsecond.alarm, hmissing]
  · refine hsecond.halted ?_
    by_cases hg : w.lateFaces.map Prod.fst = []
    · refine .inl (hfirst.halted (.inr fun hg' => h ?_))
      rw [hg, hg']
      rfl
    · exact .inr hg
  · obtain ⟨hone, htwo⟩ := List.append_eq_nil_iff.mp h
    rw [hsecond.same htwo, hfirst.same hone]

/-! ### The Alarm Table through the stage events (R84) -/

theorem rowArrives_alarm {j : AlarmKind} (h : j ≠ .fluxPressLow) (e : StrokeEntry) (s : State) : (rowArrives e s).alarm j = s.alarm j := by
  unfold rowArrives
  split
  · exact alarm_of_alarms (skipRow_alarms s _ _ _ _)
  · split
    · exact serveRows_alarm h _ s
    · split
      · rfl
      · exact alarm_of_alarms (skipRow_alarms s _ _ _ _)

theorem rowFallsDue_alarm {j : AlarmKind} (h : j ≠ .fluxPressLow) (r : Record) (s : State) : (rowFallsDue r s).alarm j = s.alarm j := by
  obtain hr | ⟨b, hr⟩ := rowFallsDue_cases r s
  · rw [hr]
    rfl
  · rw [hr]
    unfold rowDue
    split
    · rfl
    · split
      · exact alarm_of_alarms (skipRow_alarms _ _ _ _ _)
      · split
        · exact alarm_of_alarms (sprayRow_alarms _ _ _ _)
        · exact rowArrives_alarm h _ _

theorem dueRows_alarm {j : AlarmKind} (h : j ≠ .fluxPressLow) (n tag : Nat) (s : State) : (dueRows n tag s).alarm j = s.alarm j := by
  induction n generalizing s with
  | zero => rfl
  | succ n ih =>
    rw [dueRows_succ]
    split
    · rw [ih, rowFallsDue_alarm h]
    · rfl

theorem rowsOf_alarm {j : AlarmKind} (h : j ≠ .fluxPressLow) (tag : Nat) (s : State) : (rowsOf tag s).alarm j = s.alarm j := by
  unfold rowsOf
  split
  · exact dueRows_alarm h _ _ s
  · rfl

theorem stageEvents_alarm {j : AlarmKind} (h : j ≠ .fluxPressLow) (tags : List Nat) (s : State) :
    (stageEvents tags s).alarm j = s.alarm j := by
  induction tags generalizing s with
  | nil => rfl
  | cons tag rest ih =>
    rw [stageEvents_cons, ih]
    exact rowsOf_alarm h tag s

/-! ### The state once the stage events are over -/

/-- The boosts given, before the wave window's test. -/
def staged (s : State) : State := giveBoosts (stageEvents s.tags s)

/-- The wave window's test made, before the removals. -/
def cleared (s : State) : State := waveClearTest s.waveOccupied (staged s)

theorem forwardEvents_eq (s : State) : forwardEvents s
    = missingExits (cleared s).tracker.records.length (overrunExits (cleared s).tracker.records.length (cleared s)) := rfl

theorem cleared_eq (s : State) : cleared s
    = if s.waveOccupied = true ∧ (staged s).waveOccupied = false ∧ (staged s).modes.holdPending = true then enterHold (staged s)
      else staged s := by
  unfold cleared waveClearTest
  refine if_congr ?_ rfl rfl
  rw [Bool.and_eq_true, Bool.and_eq_true, Bool.not_eq_true', and_assoc]

theorem staged_far (s : State) : (staged s).far = s.far := (giveBoosts_far _).trans (far_of_ambient (stageEvents_ambient s.tags))

theorem cleared_far (s : State) : (cleared s).far = s.far := (far_of_ground (waveClearTest_ground _)).trans (staged_far s)

theorem staged_faces (s : State) : (staged s).faces = s.faces := stageEvents_face s.tags

theorem cleared_faces (s : State) : (cleared s).faces = s.faces :=
  (face_of_plain (plain_of_ground (waveClearTest_ground _))).trans (staged_faces s)

theorem cleared_tags (s : State) : (cleared s).tags = s.tags := tags_of_face (cleared_faces s)

theorem cleared_alarm {j : AlarmKind} (h : j ∉ modeKinds) (s : State) : (cleared s).alarm j = s.alarm j := by
  have hpress : j ≠ .fluxPressLow := fun hj => h (hj ▸ by decide)
  exact (waveClearTest_alarm h _ (staged s)).trans (stageEvents_alarm hpress s.tags s)

theorem cleared_countsFit (h : s.countsFit) : (cleared s).countsFit :=
  waveClearTest_kept keptByModes_countsFit _ (giveBoosts_kept keptBelow_countsFit (stageEvents_kept keptByModes_countsFit s.tags h))

/-- The boosts are those of the records that overlap the zones after their stage events. -/
theorem staged_boost (s : State) (k : ZoneId) : ((staged s).zone k).boost = if s.zoneRating k = 0 then 0
    else (((staged s).tracker.records.filter (fun x => x.zonesIn.get k)).map (fun x => (s.recipeOf x.slot).boost)).foldl max 0 := by
  obtain ⟨l, m, y, a, b, ht⟩ := eq_of_ambient (stageEvents_ambient (s := s) s.tags)
  obtain ⟨t, htt⟩ : ∃ t, t = stageEvents s.tags s := ⟨_, rfl⟩
  unfold staged
  rw [← htt] at ht ⊢
  have hrating : t.zoneRating k = s.zoneRating k := by rw [ht]; rfl
  have hrecipe : t.recipeOf = s.recipeOf := by rw [ht]; rfl
  have hrecords : (giveBoosts t).tracker.records = t.tracker.records := rfl
  rw [giveBoosts, zone_mapZones, hrating, hrecipe]
  rfl

end

end Sys2Proof.Machine

end

section
/-! PROOFS. The statement about a step of the encoder (R28, R44 to R54, R65 to R67, R73). -/

namespace Sys2Proof.Machine

section
variable {s u : State} {r x : Record} {e : Count24}

/-! ### The stage events of a record, in counts -/

theorem lengthOf_eq (s : State) (r : Record) : s.boardCounts r = match r.measured with
    | some m => (m : Int) * s.kScale
    | none => ((s.recipeOf r.slot).length : Int) * s.kScale := by
  unfold State.boardCounts
  cases r.measured with
  | some m => exact counts_eq s m
  | none => exact counts_eq s _

theorem rowFront_eq (s : State) (i : Nat) : s.counts (s.sprayLine + 10 * i) = ((s.sprayLine : Int) + 10 * i) * s.kScale := by
  rw [counts_eq]
  push_cast
  rfl

/-- The record of the table after the stage events that a record has gone through them. -/
theorem staged_record (hn : u.tags.Nodup) (hr : r ∈ u.tracker.records) : ∃ x ∈ (staged u).tracker.records, x.tag = r.tag ∧ Through u r x := by
  obtain ⟨x, hx, hthrough⟩ := stageEvents_through hn hr
  exact ⟨x, mem_of_record? hx, tag_of_record? hx, hthrough⟩

theorem staged_through (hn : u.tags.Nodup) (hr : r ∈ u.tracker.records) (hx : x ∈ (staged u).tracker.records) (ht : x.tag = r.tag) :
    Through u r x := by
  obtain ⟨y, hy, hthrough⟩ := stageEvents_through hn hr
  have hnodup : (staged u).tags.Nodup := by rwa [tags_of_face (staged_faces u)]
  have hfound : (staged u).record? x.tag = some x := record?_of_mem hnodup hx
  have hsame : (staged u).record? r.tag = some y := hy
  rw [← ht, hfound] at hsame
  cases hsame
  exact hthrough

/-- The pyrometer's part, as one case of sample points and samples. -/
theorem PyroStepped.peak_eq {d len : Int} (h : PyroStepped s d len r x) :
    x.peak = if s.onPoint d r ∧ s.shortOf d len then peakWith (s.slot 12).freshValue r.peak else r.peak := by
  split
  next hp => exact h.peak hp
  next hp => exact h.peakKept hp

/-- The wave window's part, as one test. -/
theorem WaveStepped.inWave_eq {d len : Int} (h : WaveStepped s d len r x) : x.inWave
    = if r.inWave then decide (d - len < ((s.waveCentre : Int) + s.waveHalf) * s.kScale) else decide (s.meetsWave d len r) := by
  by_cases hr : r.inWave = true
  · rw [if_pos hr]
    exact h.staying hr
  · rw [if_neg hr]
    exact Bool.eq_iff_iff.mpr ((h.meeting (Bool.eq_false_iff.mpr hr)).trans decide_eq_true_iff.symm)

end

/-! ### The removals, by the records of the statement -/

section
variable {s w : State}

theorem exitLimit_eq (hfar : w.far = s.far) : w.exitLimit = ((s.exitLine + s.exitTol : Nat) : Int) * s.kScale := by
  have hexit : w.exitLine + w.exitTol = s.exitLine + s.exitTol := congrArg₂ (· + ·) (param_of_far hfar _) (param_of_far hfar _)
  unfold State.exitLimit
  rw [hexit, counts_of_far hfar, counts_eq]

/-- The matched records that overran the exit sensor. -/
theorem overran_faces (hfar : w.far = s.far) : w.tracker.records.filter (fun x => x.matched && (match w.position x with
      | some d => decide (((s.exitLine + s.exitTol : Nat) : Int) * s.kScale ≤ d - w.boardCounts x)
      | none => false)) = w.tracker.records.filter (w.faceOverran ∘ Record.face) := by
  rw [← exitLimit_eq hfar]
  rfl

theorem late_faces (hfar : w.far = s.far) : ((w.tracker.records.filter (fun x => !x.matched)).takeWhile (fun x =>
      match w.position x with
      | some d => decide (((s.exitLine + s.exitTol : Nat) : Int) * s.kScale < d)
      | none => false)) = (w.tracker.records.filter (faceUnmatched ∘ Record.face)).takeWhile (w.faceLate ∘ Record.face) := by
  rw [← exitLimit_eq hfar]
  rfl

theorem overran_tags (w : State) : (w.tracker.records.filter (w.faceOverran ∘ Record.face)).map (·.tag)
    = (w.faces.filter w.faceOverran).map Prod.fst := by
  unfold State.faces
  rw [List.filter_map, List.map_map]
  rfl

theorem late_tags (w : State) : ((w.tracker.records.filter (faceUnmatched ∘ Record.face)).takeWhile (w.faceLate ∘ Record.face)).map (·.tag)
    = w.lateFaces.map Prod.fst := by
  unfold State.lateFaces State.faces
  rw [List.filter_map, List.takeWhile_map, List.map_map]
  rfl

end

/-- Settles O34: the count, the stage events of each record, the removals, and one row due. -/
theorem encoderStepCounts : Obligations.EncoderStepCounts := by
  refine ⟨fun s => ⟨rfl, ⟨_, rfl, ?elsewhere, ?link, ?count⟩, fun h => ?empty⟩, fun s htags hfit => ?forward, fun tag s => ?rows⟩
  case elsewhere =>
    have houter : (admissionTest (encoderSteps true s)).outer = s.outer := by rw [admissionTest_outer, encoderSteps_outer]
    exact ⟨(congrArg Outer.scan houter :), (congrArg Outer.store houter :), (congrArg Outer.uptime houter :),
      (congrArg Outer.freeIndex houter :), (congrArg Outer.pending houter :)⟩
  case link =>
    have houter : (admissionTest (encoderSteps true s)).outer = s.outer := by rw [admissionTest_outer, encoderSteps_outer]
    exact (congrArg Outer.link houter :)
  case count => exact (admissionTest_window _).2.2.trans (encoderSteps_count true s)
  case empty => exact congrArg (fun u => Host.Outcome.next (admissionTest u)) (forwardEvents_of_empty (s := countStep true s) h)
  case rows =>
    refine ⟨fun n => dueRows_step n tag s, fun b m r d hr hd hb hm hn => ?_⟩
    intro front hf q counts moved skips sound passes
    exact dueRow_cases hr hd hb hm hn hf
  case forward =>
    intro u v w n y
    have hn : u.tags.Nodup := (List.nodup_append.mp htags).2.1
    have hw : w = cleared u := (cleared_eq u).symm
    have hfar : w.far = s.far := hw ▸ cleared_far u
    have hwtags : w.tags = s.tags := hw ▸ cleared_tags u
    have hsettled := exits_settled (w := w) (s := s) hfar (fun j hj => hw ▸ cleared_alarm hj u) hwtags (hwtags ▸ hn)
      (hw ▸ cleared_countsFit (s := u) hfit)
    refine ⟨?exec, ?faces, fun r hr he => ?entering, fun r hr x hx e ht he => ?stage, fun k => staged_boost u k, ?exits⟩
    case exec =>
      show Host.Outcome.next (admissionTest (forwardEvents u)) = Host.Outcome.next (admissionTest (missingExits n (overrunExits n w)))
      rw [forwardEvents_eq, ← hw]
    case faces =>
      have hfaces := congrArg (List.map fun f : Face => (f.1, f.2.1, f.2.2.2.2.2.1, f.2.2.1, f.2.2.2.1, f.2.2.2.2.2.2)) (staged_faces u)
      unfold State.faces at hfaces
      rwa [List.map_map, List.map_map] at hfaces
    case entering =>
      obtain ⟨x, hx, -, hthrough⟩ := staged_record hn hr
      have hnone : u.position r = none := by
        unfold State.position
        rw [he]
        rfl
      obtain ⟨b, rfl⟩ := eq_of_unbuffered (hthrough.entering hnone)
      exact ⟨_, hx, rfl⟩
    case stage =>
      intro d len at_ row
      have hthrough := staged_through hn hr hx ht
      have hd : u.position r = some d := by
        unfold State.position
        rw [he]
        rfl
      have hstaged := hthrough.staged d hd
      rw [lengthOf_eq] at hstaged
      obtain ⟨hpyro, hjudged, hzones, hwave⟩ := hstaged
      refine ⟨hthrough.onward d hd, fun i hi hix => ?_, fun hlt => ?_, hzones, ?_, ?_⟩
      · obtain ⟨htotal, hfront⟩ := hthrough.due d hd i hi hix
        rw [rowFront_eq] at hfront
        exact ⟨htotal, hfront⟩
      · have hfront := hthrough.rest d hd hlt
        rwa [rowFront_eq] at hfront
      · exact ⟨hpyro.crossed, hpyro.kept, hpyro.next, hpyro.nextKept, hpyro.peak_eq, hjudged.done, fun hp hs =>
          ⟨hjudged.missing hp hs, hjudged.low hp hs, hjudged.high hp hs⟩⟩
      · exact ⟨hwave.inWave_eq, hwave.kept, fun hm => ⟨hwave.taken hm, hwave.short hm, hwave.safe hm⟩⟩
    case exits =>
      intro limit overran late gone1 gone2 gone counted
      have hone : gone1.map (·.tag) = (w.faces.filter w.faceOverran).map Prod.fst :=
        (congrArg (List.map (·.tag)) (overran_faces hfar)).trans (overran_tags w)
      have htwo : gone2.map (·.tag) = w.lateFaces.map Prod.fst := (congrArg (List.map (·.tag)) (late_faces hfar)).trans (late_tags w)
      have hlength1 : (gone1.map (·.tag)).length = gone1.length := List.length_map _
      have hlength2 : (gone2.map (·.tag)).length = gone2.length := List.length_map _
      have hgone : gone.map (·.tag) = gone1.map (·.tag) ++ gone2.map (·.tag) := List.map_append
      rw [← hone, ← htwo] at hsettled
      obtain ⟨htagsLeft, hnext, hkept, hjoined, hlost, hmissing, hhalted, hsame⟩ := hsettled
      rw [hlength1] at hlost hnext
      rw [hlength2] at hmissing hnext
      rw [← hgone] at htagsLeft hhalted hsame
      refine ⟨htagsLeft, ?_, hkept, ?_, hlost, hmissing, fun h => hhalted fun hg => h (List.map_eq_nil_iff.mp hg),
        fun h => hsame (List.map_eq_nil_iff.mpr h)⟩
      · rw [hnext]
        exact congrArg (fun m => (s.reports.next + m) % 65536) List.length_append.symm
      · rw [List.map_map, List.map_map] at hjoined
        exact hjoined

end Sys2Proof.Machine

end
